-- ==== Sys2Proof/Word.lean ====
section
/-! DEFINITION. Word.lean: the register word (R11), the byte, and the plainest arithmetic on integers that the
chapters use. -/
namespace Sys2Proof

/-- A register word (R11: every register is 32 bits wide). -/
abbrev Word := BitVec 32

/-- A byte of the host bus, of an image or of a frame. -/
abbrev Byte := BitVec 8

/-- `v` limited to `lo` at the bottom and `hi` at the top. -/
def clampInt (lo hi v : Int) : Int := if v < lo then lo else if hi < v then hi else v

/-- `v` limited to `hi` at the top. -/
def satNat (hi v : Nat) : Nat := if hi < v then hi else v

/-- The two's-complement reading of the low `w` bits of `v`. -/
def signedOf (w v : Nat) : Int :=
  if v % 2 ^ w < 2 ^ (w - 1) then ((v % 2 ^ w : Nat) : Int) else ((v % 2 ^ w : Nat) : Int) - (2 ^ w : Nat)

/-- The low `w` bits of the two's-complement form of `v`. -/
def unsignedOf (w : Nat) (v : Int) : Nat := (v % (2 ^ w : Nat)).toNat

end Sys2Proof
end

