-- ==== Sys2Proof/Syntax.lean ====
section
/-! DEFINITION. Syntax.lean: the commands of the block, one constructor for each row of the table of operations and
events, in the table's order. -/
namespace Sys2Proof

/-- Why a link frame is discarded whole (R279, R281, R285); `stray` is light that belongs to no frame, whose transitions and strength the
receiver sees all the same (R279, R282). -/
inductive Discard where
  | light | code | check | stray
deriving DecidableEq, Repr

/-- What the corrector finds in the configuration cells that a sample reads (R67): no error, a single-bit error, or a double-bit error in a
word that the rail or the device owns. -/
inductive CellRead where
  | clean | corrected
  | lost (word : Nat) (device : Bool)
deriving DecidableEq, Repr

/-- What a rail's error converter finds at its sample instant (R22, R77): the voltages at its remote and at its local input in nV, and the
cells read. -/
structure SampleIn where
  vr : Int
  vl : Int
  cell : CellRead := .clean
deriving DecidableEq, Repr

/-- When the strands of a rail have their results (R24, R132), in taps from the sample instant: the first and, in a braid, the second. -/
structure StrandTaps where
  a : Nat
  b : Nat
deriving DecidableEq, Repr

/-- The duty-latch instant of a rail, and which strands of its braid are still late then (R132). -/
structure LatchIn where
  n : Fin 12
  lateA : Bool := false
  lateB : Bool := false
deriving DecidableEq, Repr

/-- The light at a link's receiver in µA: the ambient and the total photocurrent now, and the greatest of each from the start of the
frame's sync word on (R279). -/
structure LightIn where
  amb : Nat := 0
  total : Nat := 0
  ambMax : Nat := 0
  totalMax : Nat := 0
deriving DecidableEq, Repr

/-- The payload of a link frame as it arrives, and the light of its time (R279, R283). -/
structure LinkIn where
  bytes : List Byte
  light : LightIn := {}
deriving DecidableEq, Repr

/-- An edge at a TIO pin: its direction, and the ticks for which the pin then keeps its level (R364). -/
structure TioEdge where
  rising : Bool
  held : Nat
deriving DecidableEq, Repr

/-- What a boundary cell makes of a PWM ball (R452). -/
inductive CellOut where
  | off | hs | ls
deriving DecidableEq, Repr

/-- The boundary cells that drive balls (R452): PWMp, CONTn, ITXn as an on-off sink, TIOi (none: not driven), FPWMf, SCL, SDA and ALERT#
(true: released), SYNCOUT, and LYO±. -/
structure Cells where
  pwm : Vector CellOut 48 := Vector.replicate 48 .off
  cont : Vector Bool 12 := Vector.replicate 12 false
  itx : Vector Bool 12 := Vector.replicate 12 false
  tio : Vector (Option Bool) 8 := Vector.replicate 8 none
  fpwm : Vector Bool 4 := Vector.replicate 4 true
  scl : Bool := true
  sda : Bool := true
  alert : Bool := true
  syncout : Bool := false
  lyo : Bool := false
deriving DecidableEq, Repr

/-- The levels that the boundary cells of balls with an input find (R452): TIOi, FTACHf, SCL, SDA, ALERT#, ADDRx, WAKE, RESET#, SYNCIN and
LYI±. -/
structure Balls where
  tio : Vector Bool 8 := Vector.replicate 8 false
  ftach : Vector Bool 4 := Vector.replicate 4 false
  scl : Bool := true
  sda : Bool := true
  alert : Bool := true
  addr : Vector Bool 3 := Vector.replicate 3 false
  wake : Bool := false
  reset : Bool := true
  syncin : Bool := false
  lyi : Bool := false
deriving DecidableEq, Repr

/-- What SAMPLE/PRELOAD meets: the levels that it samples, and the cells that it preloads. -/
structure Boundary where
  load : Cells := {}
  balls : Balls := {}
deriving DecidableEq, Repr

/-- What an alert response meets on the bus: the addresses of the other devices that assert ALERT#, and whether the host acknowledges the
address byte (R324). -/
structure AraIn where
  others : List Nat
  ack : Bool := true
deriving DecidableEq, Repr

/-- How a word is read (Table 11-2, R310): in a register read at an address, in a current-address read at the pointer, or as a later word of
the read that runs. -/
inductive ReadKind where
  | addressed (a : Nat)
  | current | continues
deriving DecidableEq, Repr

/-- A word of a read: how it is read, and whether the host cuts it off before its D0 (R310). -/
structure WordRead where
  kind : ReadKind
  cut : Bool := false
deriving DecidableEq, Repr

/-- A command slot (R335): the 40-bit word W, and the CRC-8 it arrived with; none where the sender computes it. -/
structure LySlot where
  w : Nat := 0
  crc : Option Nat := none
deriving DecidableEq, Repr

/-- A message cell (Table 12-1): TYPE, SRC, DST, SEQ, the payload, and the CRC-16 it arrived with; none where the sender computes it. -/
structure LyMsg where
  type : Nat := 0
  src : Nat := 0
  dst : Nat := 0xFF
  seq : Nat := 0
  payload : List Byte := []
  crc : Option Nat := none
deriving DecidableEq, Repr

/-- A lanyard frame (Table 12-1); `stamp` is the ring time in taps, `hcrc` the HCRC it arrived with, none where the sender computes it. -/
structure LyFrame where
  form : Bool := false
  wrap : Bool := false
  rev : Bool := false
  restp : Bool := false
  srcm : Nat := 0xFF
  stamp : Nat := 0
  hcrc : Option Nat := none
  slots : Vector LySlot 12 := Vector.replicate 12 {}
  msg : LyMsg := {}
deriving DecidableEq, Repr

/-- A lanyard frame as it arrives: its code groups 1 to 124, after the comma of group 0 (Table 12-1). -/
structure LyWire where
  bytes : List Byte
deriving DecidableEq, Repr

/-- The payload of a SPANRPT (Table 12-3). -/
structure SpanRpt where
  group : Nat
  idx : Nat
  state : Nat
  cause : Nat := 0
  nspl : Nat
  lock : Bool := false
  talign : Bool := false
  vf : Nat := 0
  iF : Int := 0
  pf : Int := 0
deriving DecidableEq, Repr

/-- A command: an access by the host, a frame or message received, an event at a pin, or an event of the device's own
hardware at its instant. Indices are element numbers, `w` is the register word written, voltages are in nV. -/
inductive Instr where
  /-- Reset is released at the first tick at which no hold condition remains, and the boot sequence starts (R433). -/
  | resetRelease (l0 l1 l2 : Fin 4)
  /-- A synthesiser path fails to lock within 200 µs, so reset is released on the other path or retried every 10 ms (R435). -/
  | pllLockTimeout (a b : Bool)
  /-- The supervisor core starts running, at boot or after a reboot (R393). -/
  | supervisorStart
  /-- A reset, supply loss, VIN loss or clock loss forces every PWM pin both-off and releases every contactor output within 2 µs (R246). -/
  | pinBothOff (pin vin v5 vcore clk : Bool)
  /-- A rising edge at WAKE ends deep standby and runs the wake sequence (R444). -/
  | wakePin
  /-- The device's own address, matched in deep standby, is refused and starts the wake (R319). -/
  | wakeByAddress
  /-- A bell of 4096 ticks ends and the epoch counts up (R19). -/
  | bellBoundary
  /-- A rail's error converter samples at its sample instant and delivers the error word within 8 ns (R22). -/
  | railSample (n : Fin 12) (x : SampleIn)
  /-- The exceed count reaches MCNT64 × 64, a disagreement is raised and the rail may move to local sense (R260). -/
  | modelDisagreement (n : Fin 12)
  /-- TONMAX ticks elapse and the all-on ends (R199). -/
  | allOnTimeout (n : Fin 12)
  /-- TONMAX ticks elapse and an all-off without release ends (R200). -/
  | allOffTimeout (n : Fin 12)
  /-- Eight consecutive samples of forbidden reverse current force all-off with contactor release (R207). -/
  | reverseWatch (n : Fin 12)
  /-- No relay switch occurs for 4096 samples and the auto-tune is abandoned with CODE 5 (R157). -/
  | autotuneNoOscillation (n : Fin 12)
  /-- A strand starts a sample once its error word is ready and its previous sample is complete (R130). -/
  | strandStart (n : Fin 12)
  /-- A strand finishes a sample and delivers its duty, which comes into force if it is on time (R131). -/
  | strandDeliver (n : Fin 12) (taps : StrandTaps) (dA sA dB sB : Nat)
  /-- The re-run ends and either matches, or is classified permanent (R249). -/
  | braidRerunDone (n : Fin 12) (dA sA dB sB : Nat)
  /-- The claimed strands finish catch-up, deliver their first live duty, and the old strands are judged (R251). -/
  | takeoverLive (n : Fin 12)
  /-- A sample's duty-latch instant arrives and its deadline falls due (R23). -/
  | dutyLatch (l : LatchIn)
  /-- A rail's phase current converters convert at the common trigger and the current sum is formed (R86). -/
  | currentTrigger (n : Fin 12) (volts : List Int)
  /-- A phase spliced to no rail converts its current at 1 MS/s (R88). -/
  | unsplicedConversion (p : Fin 48) (v : Int)
  /-- At every 256th tick the profile generators advance and the facet scheduler, phase manager and lifecycle evaluate (R137). -/
  | profileStep
  /-- The set-point computed at a step comes into force 16 ticks later (R137). -/
  | profileOutputInForce (n : Fin 12)
  /-- After 16 profile steps in CLOSE the rail enters RAMP or FAULT with CLOSEFAIL (R220). -/
  | closeEnd (n : Fin 12)
  /-- At the fixing instant the next carrier period is fixed by the slew rule (R162). -/
  | carrierFix (n : Fin 12)
  /-- A phase commits or skips its rising transition group at the commit tick (R160). -/
  | risingCommit (p : Fin 48)
  /-- A phase commits its falling transition group from the duty then in force (R166). -/
  | fallingCommit (p : Fin 48)
  /-- A committed edge changes the tri-level PWM output at its tap (R160). -/
  | pwmEdge (p : Fin 48)
  /-- A phase current outside its fast window turns the phase both-off within 12 ns (R172). -/
  | fastWindowKill (p : Fin 48)
  /-- A stage fault signal held for 40 ns gives a STAGE fault event (R201). -/
  | stageFault (p : Fin 48)
  /-- A phase's fault hold ends and the phase becomes shed (R202). -/
  | faultHoldEnd (p : Fin 48)
  /-- The rotation timer reaches RPER and the least-worn shed phase is exchanged (R189). -/
  | rotation (n : Fin 12)
  /-- A balancing interval ends and the phase trims update (R192). -/
  | balanceIntervalEnd (n : Fin 12)
  /-- A window comparator's live level changes between above, inside and below (R229). -/
  | windowLevelChange (x : Fin 72) (volts : List Int)
  /-- Comparator blanking ends and consumers see the live level again (R230). -/
  | comparatorBlankEnd (x : Fin 72)
  /-- A PROT window level held for 16 ticks sends the rail to FAULT (R231). -/
  | protWindowFault (x : Fin 72)
  /-- TC0 makes one scheduled conversion of its frame (R90). -/
  | tc0Slot (v : Int)
  /-- A TC0 frame ends and its frame values, averages and per-frame checks are computed (R100). -/
  | tc0FrameEnd
  /-- TC1 reads back a threshold DAC and counts failures towards DACFAIL (R98). -/
  | tc1DacReadback (v : Int)
  /-- An XREF conversion is compared with its factory code and may set a drift flag (R99). -/
  | xrefCheck (c : Fin 2) (v : Int)
  /-- A conversion inserted by a TM0 or TM1 trigger runs and is stored in CV_TRES (R94). -/
  | triggeredConversion (c : Fin 2) (v : Int)
  /-- A sense discrepancy held for 40 µs fires the open-line detector (R81). -/
  | openLineDetect (n : Fin 12) (d l : Int)
  /-- A RESTORE command returns the rail to remote sense if the condition has held for 100 ms (R83). -/
  | restore (n : Fin 12) (w : Word)
  /-- An idle spare strand starts its 10 ms self-test (R134). -/
  | selftestStart (s : Fin 32)
  /-- A self-test ends and its duty CRC is compared with the fused constant (R134). -/
  | selftestDone (s : Fin 32) (pass : Bool)
  /-- ST_TEST command 1 runs a self-test now on an idle spare (R134). -/
  | selftestRun (s : Fin 32) (w : Word)
  /-- The start condition has held for TONDLY and the rail joins the start queue (R215). -/
  | queueJoin (n : Fin 12)
  /-- The scheduler grants a free slot to the queue head and the rail enters PREMATCH (R216). -/
  | slotGrant
  /-- A rail waiting AGE seconds is ordered as PRIO 15 (R216). -/
  | queueAgeExpiry (n : Fin 12)
  /-- TCLOSE elapses after the contactor is driven and the rail enters CLOSE (R220). -/
  | tcloseExpiry (n : Fin 12)
  /-- TSTART elapses without REGULATE and the rail enters FAULT with STARTTIME (R221). -/
  | startTimeout (n : Fin 12)
  /-- TOFFDLY elapses after a stop request and the rail enters RAMPDOWN (R222). -/
  | turnOffDelayExpiry (n : Fin 12)
  /-- TSTOP elapses in RAMPDOWN and the rail enters FAULT with STOPTIME (R223). -/
  | stopTimeout (n : Fin 12)
  /-- TOPEN elapses in OPEN and the rail enters OFF (R224). -/
  | topenExpiry (n : Fin 12)
  /-- TFAULT elapses, and once the cause is gone the rail leaves FAULT for OFF or lockout (R228). -/
  | tfaultExpiry (n : Fin 12)
  /-- The die sensor trips at 150 °C and every live rail enters FAULT with DIETSD (R242). -/
  | dieTsdTrip
  /-- The junction falls below 130 °C and TSDACT clears (R242). -/
  | dieTsdClear
  /-- Device power exceeds the budget for more than 2 ms and BUDOVR sets (R239). -/
  | budgetOverrun
  /-- A SYNCIN rising edge is accepted or counted as extra, and lock or relock is judged (R32). -/
  | syncinEdge (tap : Fin 64)
  /-- An acceptance window closes empty and the edge is bridged (R34). -/
  | syncWindowClose
  /-- The active synthesiser path fails and TBCLK switches to the other path in holdover (R37). -/
  | tbPathFail
  /-- TB_CTRL.ACQ starts acquisition from holdover (R35). -/
  | acq (w : Word)
  /-- A change of TB_CTRL.SRC enters holdover or starts acquisition (R36). -/
  | tbSrcWrite (w : Word)
  /-- TB_RSLKn.CLRW sets WORST to 0 (R28). -/
  | clrw (n : Fin 12) (w : Word)
  /-- A staging-window write stores image bytes or is discarded by the staging state (R55). -/
  | stagingWrite (a : Nat) (w : Word)
  /-- RG_CMD OPEN empties the staging buffer and the shadow set and enters STAGING (R56). -/
  | rgOpen (w : Word)
  /-- RG_CMD CHECK starts checking the staged image (R57). -/
  | rgCheck (w : Word)
  /-- The check completes and the image is decoded into the shadow set or refused (R57). -/
  | checkDone
  /-- RG_CMD SWAP requests a swap at the next bell boundary at least 256 ticks ahead (R59). -/
  | rgSwap (w : Word)
  /-- RG_CMD SWAP AT EPOCH requests a swap at the epoch in RG_SWAPE (R59). -/
  | swapAtEpoch (w : Word)
  /-- RG_CMD CANCEL removes a pending swap unless it is too late (R65). -/
  | rgCancel (w : Word)
  /-- RG_CMD DISCARD empties the shadow set (R56). -/
  | rgDiscard (w : Word)
  /-- At the swap boundary the rules are applied again and the sets swap or the swap is refused (R60). -/
  | swapBoundary
  /-- A scrub pass reads and corrects every set word and compares the active-set CRC (R68). -/
  | scrubPass (single : Nat) (active : List (Nat × Option (Fin 12))) (shadow : Bool)
  /-- CV_CTRL command 1 reloads the factory calibration of all channels (R91). -/
  | reloadFactoryCalibration (w : Word)
  /-- RL_TCTL command 1 clears the rail's current peaks (R103). -/
  | clearPeaks (n : Fin 12) (w : Word)
  /-- RL_TCTL command 2 clears both energy accumulators and residues (R103). -/
  | clearEnergy (n : Fin 12) (w : Word)
  /-- RL_TCTL command 3 clears peaks and energy together (R103). -/
  | clearPeaksAndEnergy (n : Fin 12) (w : Word)
  /-- A host write to RL_VTGT or RL_ITGT is taken or discarded by the target source (R136). -/
  | targetWrite (n : Fin 12) (current : Bool) (w : Word)
  /-- A host write to RL_VOC sets VALID or is discarded by the target source (R214). -/
  | vocWrite (n : Fin 12) (w : Word)
  /-- A write of RL_MCTL.REQ requests automatic, manual-current or manual-duty operation (R144). -/
  | modeRequestWrite (n : Fin 12) (w : Word)
  /-- A write of FORCE or FSEL forces a facet or returns to scheduling (R155). -/
  | facetForceWrite (n : Fin 12) (w : Word)
  /-- RL_ATCTL command 1 starts a relay auto-tune or is refused (R156). -/
  | autotuneStart (n : Fin 12) (w : Word)
  /-- RL_ATCTL command 2 abandons the auto-tune (R157). -/
  | autotuneAbandon (n : Fin 12) (w : Word)
  /-- A write of PH_OVR SWAP or INV is applied only while the pair is idle (R180). -/
  | pairOverrideWrite (p : Fin 48) (w : Word)
  /-- A write of PH_WEAR sets the wear count (R190). -/
  | wearWrite (p : Fin 48) (w : Word)
  /-- A write of RL_CTRL.EN permits a start or makes a stop request (R222). -/
  | railEnableWrite (n : Fin 12) (w : Word)
  /-- RL_CTRL command 1 sends the rail to FAULT with cause HOSTKILL (R227). -/
  | hostkill (n : Fin 12) (w : Word)
  /-- RL_CTRL command 2 clears the rail's LOCKOUT (R228). -/
  | clearLockout (n : Fin 12) (w : Word)
  /-- A write of CMP_THR sets the selected window's thresholds from the next tick (R232). -/
  | thresholdWrite (w : Word)
  /-- FM_CMD command 1 clears a retired phase (R256). -/
  | clearPhase (w : Word)
  /-- FM_CMD command 2 clears a retired strand into probation (R256). -/
  | clearStrand (w : Word)
  /-- FM_CMD command 3 returns a RETIRED rail to OFF (R256). -/
  | clearRail (w : Word)
  /-- FM_CMD command 4 clears every eligible element (R256). -/
  | clearAll (w : Word)
  /-- The supervisor watchdog expires and the supervisor core alone is reset (R261). -/
  | supervisorWatchdogExpiry (pc : Word)
  /-- A queued logbook record is written to the flash ring (R264). -/
  | logbookWrite
  /-- LB_CTRL command 1 erases the logbook, keeping one CLEARED record (R266). -/
  | logbookErase (w : Word)
  /-- The rail has written POST records after the trigger and its ring freezes (R269). -/
  | tracePostDone (n : Fin 12)
  /-- TR_CMD command 1 freezes the masked rails at once (R269). -/
  | traceFreeze (w : Word)
  /-- TR_CMD command 2 releases and empties the masked rails' rings (R269). -/
  | traceRelease (w : Word)
  /-- A write into the trace window loads records or an unlock token (R270). -/
  | traceWindowWrite (a : Nat) (w : Word)
  /-- RP_CTRL command 1 starts a replay on a spare strand or refuses it (R271). -/
  | replayStart (w : Word)
  /-- RP_CTRL command 2, or a takeover claim, aborts the replay (R273). -/
  | replayAbort (w : Word)
  /-- A replay ends as matched or differed, and its result is logged (R272). -/
  | replayDone
  /-- DBG_CMD command 1 sets a new random challenge (R274). -/
  | newChallenge (w : Word)
  /-- DBG_CMD command 2 verifies the unlock token and sets the debug level or counts a failure (R274). -/
  | verifyToken (w : Word)
  /-- DBG_CMD command 3 locks the device again (R274). -/
  | debugLock (w : Word)
  /-- The 10 s block after three failed unlocks ends (R274). -/
  | debugBlockEnd
  /-- A received IDENT frame binds, refreshes or rebinds the pack (R288). -/
  | ident (n : Fin 12) (seq : Fin 16) (f : LinkIn)
  /-- A received STATUS frame updates VOC and PFLAGS and is answered with the slot report (R299). -/
  | status (n : Fin 12) (seq : Fin 16) (f : LinkIn)
  /-- A received TEMP frame stores the pack temperature report (R300). -/
  | temp (n : Fin 12) (seq : Fin 16) (f : LinkIn)
  /-- A received VTARGET frame sets RL_VTGT within its limits (R296). -/
  | vtarget (n : Fin 12) (seq : Fin 16) (f : LinkIn)
  /-- A received ILIMIT frame sets the link current target L and RL_ITGT (R297). -/
  | ilimit (n : Fin 12) (seq : Fin 16) (f : LinkIn)
  /-- A received CHGEN frame brings the charge enable into force or withdraws it (R298). -/
  | chgen (n : Fin 12) (seq : Fin 16) (f : LinkIn)
  /-- A received REVEN frame brings the reverse enable into force or withdraws it (R298). -/
  | reven (n : Fin 12) (seq : Fin 16) (f : LinkIn)
  /-- A pack ACK to the outstanding NOTIFY ends it and the next queued event is sent (R294). -/
  | notifyAck (n : Fin 12) (seq : Fin 16) (f : LinkIn)
  /-- A valid frame of reserved or slot-only type, or of wrong length, is answered FORMAT (R285). -/
  | linkFormatFrame (n : Fin 12) (type seq : Fin 16) (f : LinkIn)
  /-- A frame failing its CRC, code or light checks is discarded and counted (R285). -/
  | linkFrameDiscard (n : Fin 12) (why : Discard) (dur : Nat) (light : LightIn)
  /-- A link in SEARCH transmits a BEACON every 2441 bells (R287). -/
  | beacon (n : Fin 12)
  /-- No valid frame for 2 × WDOG declares the pack absent and returns the link to SEARCH (R289). -/
  | packAbsence (n : Fin 12)
  /-- LK_CTRL command 1 unbinds the link (R290). -/
  | unbind (n : Fin 12) (w : Word)
  /-- A write of LK_CTRL.EN moves the link between OFF and SEARCH (R286). -/
  | linkEnableWrite (n : Fin 12) (w : Word)
  /-- The slot sends a NOTIFY frame for a queued rail event (R294). -/
  | notify (n : Fin 12)
  /-- An unacknowledged NOTIFY is retried, or dropped with NOTFAIL after its last retry (R294). -/
  | notifyRetry (n : Fin 12)
  /-- The command-refresh watchdog expires, withdraws both enables and makes a stop request (R301). -/
  | linkWatchdogExpiry (n : Fin 12)
  /-- A pointer-set transaction sets the address pointer or refuses a misaligned address (R308). -/
  | pointerSet (a : Nat) (pec : Option Byte)
  /-- A written word is accepted and applied to a register that has no row of its own (R309). -/
  | registerWrite (a : Nat) (w : Word) (pec : Option Byte) (cont : Bool)
  /-- A write of 1 to a W1C flag clears it unless hardware sets it in the same cycle (R13). -/
  | w1cWrite (a : Nat) (w : Word)
  /-- A write of any value clears a counter register (R415). -/
  | counterClearWrite (a : Nat) (w : Word)
  /-- A read at a snapshot group's lowest address captures the whole group at one tick (R318). -/
  | snapshotRead (r : WordRead)
  /-- Reading LB_STATUS restarts its SUPP count (R311). -/
  | lbStatusRead
  /-- A START or STOP on the bus ends any transaction in progress and discards partial words (R328). -/
  | busStartStop (stop partialWord sending : Bool)
  /-- An ARA read is arbitrated by the alerting devices and the winner's alert is acknowledged (R324). -/
  | alertResponse (x : AraIn)
  /-- SCL held low for t_TIMEOUT returns the interface to idle (R329). -/
  | busTimeout
  /-- A write of ALR_MASK changes which sources make an alert pending (R420). -/
  | alertMaskWrite (w : Word)
  /-- GLB_CTRL command 1 resets the device at the next START or STOP (R417). -/
  | deviceReset (w : Word)
  /-- GLB_CTRL command 2 starts deep-standby entry or is refused (R418). -/
  | enterDeepStandby (w : Word)
  /-- After flash completes, the device stops its rails and supplies and enters deep standby (R442). -/
  | deepStandbyEntry (wake : Bool)
  /-- A bell boundary after a full quiet bell stops TBCLK and enters sleep (R439). -/
  | sleepEntry
  /-- A wake source ends sleep and TBCLK restarts within 20 µs (R441). -/
  | sleepExit
  /-- In sleep, a low-power clock edge advances T and the LPCLK timers (R371). -/
  | lpClockEdge
  /-- The head starts a lanyard frame every 200 ticks (R333). -/
  | lanyardFrameStart
  /-- A member receives, checks and forwards a lanyard frame, processing its stamp and slots (R334). -/
  | lanyardFrameReceive (tap : Fin 64) (f : LyWire)
  /-- A member with no numbered frame measures its hop and starts forming with a CLAIM (R338). -/
  | ringFormStart (rt : Nat)
  /-- A received CLAIM is forwarded, replaced, or elects the head (R338). -/
  | claim (addr : Nat)
  /-- A received NUMBER assigns member numbers and completes formation (R338). -/
  | number (count : Nat)
  /-- A member that comes up on an existing ring takes its number and rejoins (R340). -/
  | memberJoin (srcm n rt : Nat)
  /-- A received SPANRPT updates the lead's attachment and group totals (R350). -/
  | spanrpt (src : Nat) (r : SpanRpt)
  /-- A follower sends its SPANRPT every 256 bells or on change (R350). -/
  | spanrptSend (n : Fin 12)
  /-- No report for 1024 bells clears a member's ATT bit (R350). -/
  | spanAttachTimeout (n : Fin 12) (idx : Fin 8)
  /-- 64 frames without a valid slot send the follower to FAULT with SPANLOSS (R346). -/
  | spanSlotTimeout (n : Fin 12)
  /-- A received TOKEN is taken for a start grant or passed on (R355). -/
  | token (i : Nat)
  /-- A received MEMBER message reports held tokens and compatibility levels (R356). -/
  | member (src : Nat) (payload : List Byte)
  /-- Every 256 bells a member broadcasts MEMBER, and the head counts tokens (R356). -/
  | memberBroadcast
  /-- A received ACTIVATE schedules a swap or firmware activation at its epoch (R357). -/
  | activate (src actid kind epoch : Nat)
  /-- A received ACTRES sets the sender's bit in LY_ACTOK or LY_ACTNO (R358). -/
  | actres (src actid kind result : Nat)
  /-- A received WRAP puts the member into wrap mode or schedules a restore (R351). -/
  | wrap (src start kind epoch : Nat)
  /-- No valid frame for 4 µs loses the incoming hop, and the member becomes line start (R351). -/
  | hopLoss
  /-- The line end sends a probe every 1 ms, and a received probe may start a restore (R353). -/
  | probe (received : Option (Nat × Nat))
  /-- At the restore epoch every member returns to ring mode (R353). -/
  | ringRestore
  /-- LY_ACT command 1 broadcasts a rigging swap at an epoch (R357). -/
  | activateSwap (w : Word)
  /-- LY_ACT command 2 broadcasts a firmware activation at an epoch (R357). -/
  | activateFirmware (w : Word)
  /-- A timer counter steps after its prescaler period (R360). -/
  | timerStep (k : Fin 12)
  /-- A capture edge at a TIO pin stores the count and raises the channel event (R364). -/
  | timerCapture (i : Fin 8) (e : TioEdge)
  /-- A write of TMk_CNT sets the counter at its acceptance tick (R361). -/
  | timerCountWrite (k : Fin 12) (w : Word)
  /-- A write of TMk_TOP is held until the next wrap (R360). -/
  | timerTopWrite (k : Fin 12) (w : Word)
  /-- A write of TM_CHVAL sets the compare value from the next step (R363). -/
  | compareValueWrite (w : Word)
  /-- A write of TM_CHCFG sets the channel mode and sets OUT to OINIT (R362). -/
  | channelModeWrite (w : Word)
  /-- A write of FAN_CTRL sets the commanded duty and may start the fan supervisor (R372). -/
  | fanControlWrite (f : Fin 4) (w : Word)
  /-- Every 256 bells the automatic fan duty is recomputed from the marked temperatures (R373). -/
  | fanCurveUpdate
  /-- An accepted tach edge updates RPM and may return the fan to RUNNING (R374). -/
  | tachEdge (f : Fin 4)
  /-- Two seconds without a tach edge in STARTING make a kick (R375). -/
  | fanStartTimeout (f : Fin 4)
  /-- A kick ends without an edge and another kick follows or the fan is BLOCKED (R375). -/
  | fanKickEnd (f : Fin 4)
  /-- A blocked fan makes a single retry kick every 60 s (R375). -/
  | fanBlockedRetry (f : Fin 4)
  /-- A running fan stops turning and enters TACHLOST or the kicks (R375). -/
  | fanStopped (f : Fin 4)
  /-- FU_CMD 1 opens and erases the inactive firmware slot (R405). -/
  | fwopen (w : Word)
  /-- FU_CMD 2 programs FU_BUF at FU_OFS (R406). -/
  | fwwrite (w : Word)
  /-- FU_CMD 3 makes the open slot STAGED (R405). -/
  | fwclose (w : Word)
  /-- FU_CMD 4 sets a pending firmware activation at FU_ACTE, or refuses it (R408). -/
  | fwact (w : Word)
  /-- FU_CMD 5 removes a pending activation (R405). -/
  | fwcancel (w : Word)
  /-- FU_CMD 6 commits the running trial (R409). -/
  | commit (w : Word)
  /-- FU_CMD 7 ends the trial and restarts the ACTIVE slot (R409). -/
  | rollback (w : Word)
  /-- FU_CMD 8 writes the staged rigging image to the non-preferred slot (R407). -/
  | rigsave (w : Word)
  /-- FU_CMD 9 loads a public key into an empty slot (R401). -/
  | keyload (w : Word)
  /-- FU_CMD 10 revokes a key slot with a signed token (R402). -/
  | keyrevoke (w : Word)
  /-- FU_CMD 11 programs permanent locks or raises RIGFLOOR (R403). -/
  | lock (w : Word)
  /-- FU_CMD 12 writes a HOSTREG or HOSTDEL settings record (R405). -/
  | setsave (w : Word)
  /-- FU_CMD 13 writes a MODEL settings record for a rail (R405). -/
  | modelsave (w : Word)
  /-- FU_CMD 14 writes a DEFAULTS settings record (R405). -/
  | setdef (w : Word)
  /-- A flash program or erase completes and the next queued flash operation starts (R384). -/
  | flashOperationDone
  /-- Every 4 194 304 bells changed wear counts are written as device records (R397). -/
  | wearRecordSave
  /-- At the activation boundary the supervisor is reset and the STAGED slot is checked into TRIAL (R408). -/
  | firmwareActivation
  /-- A trial with AUTOCOMMIT runs 600 s without an expiry and is committed (R409). -/
  | trialAutocommit
  /-- A write of LC_SEL latches the selected lifetime counter (R392). -/
  | counterLatch (w : Word)
  /-- TRST# or five TMS-high clocks put the test port in Test-Logic-Reset (R451). -/
  | tapReset
  /-- The BYPASS instruction is loaded (R451). -/
  | bypass
  /-- The IDCODE instruction returns the device identity (R451). -/
  | idcode
  /-- The SAMPLE/PRELOAD instruction samples and preloads the boundary cells (R451). -/
  | samplePreload (x : Boundary)
  /-- EXTEST drives the balls from the boundary cells when permitted (R453). -/
  | extest
  /-- HIGHZ releases the balls when permitted (R453). -/
  | highz
  /-- CLAMP holds the balls from the boundary cells when permitted (R453). -/
  | clamp
  /-- SVHALT halts the supervisor core for the debugger (R454). -/
  | svhalt
  /-- SVRUN resumes the halted supervisor core (R454). -/
  | svrun
  /-- ECODLY ms after CONTn is driven, a FUNC 3 TIO pin with ECO 1 changes from carrying CONTn to carrying CONTn AND the timer channel's OUT
  (R366). -/
  | economiserDelayExpiry (i : Fin 8)
  /-- A fan with SRC 1 whose timer OUT has not been 1 at any tick for 1 ms stops counting as commanded on, so its supervisor goes to OFF
  (R372). -/
  | fanTimerSourceLapse (f : Fin 4)
  /-- WDOG milliseconds after the last TEMP report, LK_STATUS.TAGE sets and the pack report falls outside every temperature window (R300). -/
  | packTempReportStale (n : Fin 12)
  /-- A telemetry converter drift flag that has stayed set for 1 s makes the TCDRIFT fault permanent, and the permanent event is logged
  (R254). -/
  | tcdriftPermanent (c : Fin 2)
  /-- The upstream member receives a hop-delay marker on its LYO pair and returns it on the same pair exactly 250 bit times later (R339). -/
  | hopDelayMarker
deriving DecidableEq, Repr

end Sys2Proof
end

