-- ==== Sys2Proof/Decode.lean ====
section
/-! DEFINITION. Decode.lean: the commands that a word of the table's bits spells. -/
namespace Sys2Proof

/-- No row of the table gives bits: a command comes from the bus, a pin, a link or the block's own hardware, and no
instruction word spells it. -/
def decodeTableWord (_nbits _w : Nat) : Option Instr := none

end Sys2Proof
end

