-- ==== Sys2Proof/Machine/Rigging.lean ====
section
/-! DEFINITION. Machine/Rigging.lean: a decoded configuration set (R41), section by section (R48, Tables 2-4 to
2-14), and the empty set (R42, R455). -/
namespace Sys2Proof.Machine

/-- A SPLICE entry (Table 2-4). -/
structure SpliceE where
  rail : Option (Fin 12) := none
  order : Nat := 0
  offset : Nat := 0
  shedok : Bool := false
  entershed : Bool := false
deriving DecidableEq, Repr

/-- A STRAND entry (Table 2-5); role 0 spare, 1 single, 2 braid even member, 3 braid odd member. -/
structure StrandE where
  rail : Option (Fin 12) := none
  role : Nat := 0
  sparepri : Nat := 0
deriving DecidableEq, Repr

/-- A SENSE entry (Table 2-6). -/
structure SenseE where
  div : Nat := 0
  elsb : Nat := 0
  bias : Bool := false
  fallback : Bool := false
  blankE : Nat := 0
  blankC : Nat := 0
  cslsb : Nat := 0
deriving DecidableEq, Repr

/-- A COMPARATOR entry (Table 2-7). -/
structure CompE where
  upper : Nat := 0
  lower : Nat := 0
  cons : Nat := 0
deriving DecidableEq, Repr

/-- A LOOP section (Table 2-8). -/
structure LoopE where
  period : Nat := 40
  offset : Nat := 0
  detlatch : Bool := false
  observer : Bool := false
  ffVbus : Bool := false
  ffLtab : Bool := false
  revallow : Bool := false
  nbiq : Nat := 0
  mode : Nat := 0
  slew : Nat := 1000
  acc : Nat := 1000
  jerk : Nat := 1000
deriving DecidableEq, Repr

/-- A FACETS record (Table 2-9); `coef` holds the 19 coefficient words of Table 2-10. -/
structure FacetE where
  valid : Bool := false
  iLo : Int := 0
  iHi : Int := 0
  iHys : Nat := 0
  fsw : Nat := 0
  vbLo : Nat := 0
  vbHi : Nat := 0
  vbHys : Nat := 0
  shedI : Nat := 0
  addI : Nat := 0
  coef : Vector Word 19 := Vector.replicate 19 0
deriving DecidableEq, Repr

/-- A TABLES section (Table 2-11); a DEAD entry is (low-to-high, high-to-low). -/
structure TablesE where
  iMin : Int := 0
  iStep : Nat := 1
  lroll : Vector Nat 32 := Vector.replicate 32 0
  dead : Vector (Nat × Nat) 32 := Vector.replicate 32 (0, 0)
deriving DecidableEq, Repr

/-- A rail record of the PROTECT section (Table 2-12). -/
structure ProtRail where
  ov : Nat := 1048575
  uv : Nat := 0
  ibudget : Nat := 0xFFFF
  ifloor : Nat := 0
  prio : Nat := 0
  tsens : Nat := 0xFF
  iovl : Nat := 0xFFFF
  tovl : Nat := 1000
  tfLo : Int := 0
  tfHi : Int := 360
  trLo : Int := -160
  trHi : Int := 480
deriving DecidableEq, Repr

/-- The PROTECT section (Table 2-12). -/
structure ProtE where
  pbudget : Nat := 0x7FFFFFFF
  vbusOv : Nat := 1048575
  vbusUv : Nat := 0
  nstart : Nat := 2
  rails : Vector ProtRail 12 := Vector.replicate 12 {}
deriving DecidableEq, Repr

/-- A LINK entry (Table 2-13). -/
structure LinkE where
  en : Bool := false
  leddrv : Nat := 0
  wdog : Nat := 0
  retry : Nat := 0
deriving DecidableEq, Repr

/-- A TIO entry of the PINS section (Table 2-14). -/
structure TioE where
  func : Nat := 0
  sel : Nat := 0
  chan : Nat := 0
  pol : Nat := 0
deriving DecidableEq, Repr

/-- A fan entry of the PINS section (Table 2-14). -/
structure FanE where
  en : Bool := false
  weight : Nat := 0
deriving DecidableEq, Repr

/-- A temperature-input entry of the PINS section (Table 2-14). -/
structure TinE where
  type : Nat := 0
  rail : Option (Fin 12) := none
deriving DecidableEq, Repr

/-- A group record of the LANYARD section; role 1 lead, 2 follower. -/
structure GroupE where
  group : Nat
  rail : Fin 12
  role : Nat
  nmem : Nat
  idx : Nat
deriving DecidableEq, Repr

/-- The LANYARD section: the ring switch, the expected member number, and the group records. -/
structure LanyardE where
  ring : Bool := false
  member : Nat := 0xFF
  groups : List GroupE := []
deriving DecidableEq, Repr

/-- A decoded configuration set. `loaded` is false for the empty set alone (R42). IMG_SEQ and the signed flag are
kept with each set (R395). `optLanyard` tells a LANYARD section that is present. -/
structure RigSet where
  loaded : Bool := false
  splice : Vector SpliceE 48 := Vector.replicate 48 {}
  strand : Vector StrandE 32 := Vector.replicate 32 {}
  sense : Vector SenseE 12 := Vector.replicate 12 {}
  comp : Vector CompE 72 := Vector.replicate 72 {}
  loop : Vector LoopE 12 := Vector.replicate 12 {}
  facets : Vector (Vector FacetE 8) 12 := Vector.replicate 12 (Vector.replicate 8 {})
  tables : Vector TablesE 12 := Vector.replicate 12 {}
  prot : ProtE := {}
  link : Vector LinkE 12 := Vector.replicate 12 {}
  tio : Vector TioE 8 := Vector.replicate 8 {}
  fan : Vector FanE 4 := Vector.replicate 4 {}
  tin : Vector TinE 16 := Vector.replicate 16 {}
  lanyard : LanyardE := {}
  optLanyard : Bool := false
  presets : List (Nat × Word) := []
  imageId : Nat := 0
  imgSeq : Nat := 0
  signed : Bool := false
  keyIdx : Nat := 0
deriving DecidableEq, Repr

/-- The empty set (R42, R455). -/
def RigSet.empty : RigSet := {}

/-- A rail is in use when at least one phase is spliced to it (R47). -/
def RigSet.railInUse (g : RigSet) (n : Fin 12) : Bool := g.splice.toList.any fun e => e.rail == some n

end Sys2Proof.Machine
end

