-- ==== Sys2Proof/Config.lean ====
section
/-! DEFINITION. Config.lean: what the spec leaves to one implementation, and the free values. Each constant here is
opaque, so no proof can see its value. -/
namespace Sys2Proof

/-- The values the spec leaves open after a step that goes on: the `k`th one, of `w` bits. The state counts how many have been taken (R274
random challenge). (Log entry: 7 DESIGN CHOICE.) -/
opaque Config.freeValue (w : Nat) : Nat → BitVec w

/-- ECDSA P-256 over SHA-256 (R53, R274, R394, R402): whether the signature `(r, s)` over the bytes verifies against the public key. The
standard stands outside the spec. (Log entry: 8 DESIGN CHOICE.) -/
opaque Config.verifies (key message signature : List Byte) : Bool

/-- Whether the 64 bytes are a point on P-256 (R401). (Log entry: 8 DESIGN CHOICE.) -/
opaque Config.onCurve (key : List Byte) : Bool

/-- The public key of a Hetire firmware key, FKEY0 or FKEY1, fused at manufacture (R401). (Log entry: 8 DESIGN CHOICE.) -/
opaque Config.firmwareKey : Nat → List Byte

/-- The factory calibration of a telemetry channel (R91): offset and gain. (Log entry: 9 DESIGN CHOICE.) -/
opaque Config.factoryTelemetry : Nat → Int × Nat

/-- The factory calibration of a phase current converter (R85, R91): offset and gain. (Log entry: 9 DESIGN CHOICE.) -/
opaque Config.factoryPhase : Nat → Int × Nat

/-- The factory XREF code of converter 0 or 1 (R99). (Log entry: 9 DESIGN CHOICE.) -/
opaque Config.xrefCode : Nat → Nat

/-- The fixed factory correction of an XREF conversion (R91, R99): the raw code of a converter to its corrected code. (Log entry: 9 DESIGN
CHOICE.) -/
opaque Config.xrefCorrect : Nat → Nat → Nat

/-- Whether the device rounds up where the ideal set-point lies within 0.001 of a half-unit (R142): the choice for the `k`th such value.
(Log entry: 10 DESIGN CHOICE.) -/
opaque Config.roundsUp : Nat → Bool

/-- The CRC that `RG_ACRC` reports for an active set (R68): a function of the decoded set alone, whose layout in the configuration cells
the spec does not give. (Log entry: 11 DESIGN CHOICE.) -/
opaque Config.cellCrc : Machine.RigSet → BitVec 32

/-- The tick within a period of 8000 ticks at which the 25 kHz period of a fan channel starts (R372): the spec gives none. (Log entry: 7
DESIGN CHOICE.) -/
opaque Config.fanPhase : Nat → Nat

/-- Which way a temperature rounds whose bounds leave it open: by the reading of the lower bound (R378). (Log entry: 11 DESIGN CHOICE.) -/
opaque Config.tempRounds : Int → Bool

end Sys2Proof
end

