-- ==== Sys2Proof/Machine/Fields.lean ====
section
/-! DEFINITION. Machine/Fields.lean: every register of the register map (spec/15, R412, R413) with its address,
its reset word and its writable bits (R11), and every field of the field tables of the chapters. -/
namespace Sys2Proof.Machine

/-- The registers of Tables 15-3 to 15-10. A register that the map repeats for each element is one name here, and
the element's number is the second half of its key. A register reached through a select field (R423) is stored once
for each value of that field. -/
inductive Reg where
  | GLB_ID | GLB_STATUS | GLB_CTRL | ALR_SUM | ALR_MASK | ALR_EVT | ALR_RAIL | ALR_PHLO | ALR_PHHI | ALR_ST
  | HB_CTRL | HB_STATUS | HB_ADDR | HB_CNT | HB_ARA | TB_CTRL | TB_STATUS | TB_SYNC | TB_SPHASE | TB_EPOCH_HI
  | TB_EPOCH_LO | TB_MCNT | TB_XCNT | TB_RSMP | TB_RSLK | LY_CTRL | LY_STATUS | LY_EVENT | LY_HOPD | LY_TOFS
  | LY_ERRC | LY_ACT | LY_ACTE_HI | LY_ACTE_LO | LY_ACTOK_HI | LY_ACTOK_LO | LY_ACTNO_HI | LY_ACTNO_LO
  | LY_GSEL | LY_GSTAT | LY_GCMD | LY_GTOT | LY_GPWR | RL_CTRL | RL_STATUS | RL_TDLY | RL_TCON | RL_RAMP
  | RL_TMO | RL_VOC | RL_SCNT | RL_VTGT | RL_ITGT | RL_VSLEW | RL_VACC | RL_VJERK | RL_ISLEW | RL_IACC
  | RL_IJERK | RL_LCTL | RL_LSTAT | RL_DLIM | RL_FXP | RL_SEXP | RL_DUTY | RL_LCNT | RL_MCTL | RL_MDUTY
  | RL_MANI | RL_FCTL | RL_PSET | RL_PISET | RL_ATCTL | RL_ATRES | RL_PMCTL | RL_PMSTAT | RL_PMROT | RL_PMBAL
  | RL_TRCTL | RL_TRTHR | RL_TRSTAT | RL_REVS | RL_TCTL | RL_VAVG | RL_IAVG | RL_PAVG | RL_EFWD_HI | RL_EFWD_LO
  | RL_EREV_HI | RL_EREV_LO | LK_CTRL | LK_STATUS | LK_EVENT | LK_ERRC | LK_ID_HI | LK_ID_LO | LK_PINFO
  | LK_PTEMP | RL_OV | RL_UV | RL_IBUD | RL_PRIO | RL_OVL | RL_TWF | RL_TWR | RL_PSTAT | PH_PCFG | PH_GUARD
  | PH_OVR | PH_DTOVR | PH_PSTAT | PH_PDUTY | PH_PPER | PH_PEVT | PH_ICAL | PH_IRAW | PH_ITEL | PH_ISTAT
  | PH_MSTAT | PH_WEAR | PH_FCNT | PH_BTRIM | ST_CFG | ST_FLAG | ST_CNT | ST_TEST | CV_CTRL | CV_STATUS
  | CV_VBDIV | CV_SCRUB | CV_CALSEL | CV_CALDATA | CV_CHSEL | CV_CHDATA | CV_VBUS | CV_VIN | CV_VINT
  | CV_TRIG | CV_TRES0 | CV_TRES1 | CV_SNS | CV_TRIM | CV_PKMAX | CV_PKMIN | CMP_SEL | CMP_THR | CMP_CONS
  | CMP_STATUS | CMP_ABOVE | CMP_BELOW | PR_PBUDGET | PR_VBOV | PR_VBUV | PR_START | PR_STATUS | PR_PDEV
  | PR_PPLAN | PR_QSTAT | TH_SEL | TH_CFG | TH_PAR1 | TH_PAR2 | TH_PAR3 | TH_STATUS | TH_DIE | TH_TEMP
  | TM_CTRL | TM_CNT | TM_TOP | TM_STAT | TM_CHSEL | TM_CHCFG | TM_CHVAL | TIO_AUX | TIO_OUT | TIO_IN
  | FAN_CTRL | FAN_CURVE | FAN_TACH | FAN_STAT | FAN_DERATE | FAN_IGAIN | FAN_IBAND | FM_CTRL | FM_STATUS
  | FM_CMD | FM_RETP_LO | FM_RETP_HI | FM_RETS | FM_CNT | FM_RSTC | BR_STAT | MS_SEL | MS_CFG | MS_LIM
  | MS_STAT | LB_CTRL | LB_STATUS | LB_SEL | LB_NEWEST | LB_DATA | TR_CTRL | TR_CMD | TR_TRIG | TR_STATUS
  | TR_PAGE | TR_FRZE_HI | TR_FRZE_LO | RP_CTRL | RP_STATUS | RP_DREC | RP_DREP | DBG_CMD | DBG_STATUS
  | DBG_CHAL_HI | DBG_CHAL_LO | FU_BUF | RG_CTRL | RG_CMD | RG_STATUS | RG_EVENT | RG_PAGE | RG_SLEN
  | RG_SWAPE_HI | RG_SWAPE_LO | RG_LASTE_HI | RG_LASTE_LO | RG_AID | RG_SID | RG_ACRC | RG_ASEQ | RG_SCRUB
  | SV_STATUS | SV_EVENT | FU_CMD | FU_STATUS | FU_OFS | FU_ACTE_HI | FU_ACTE_LO | FU_ISEL | FU_INFO0
  | FU_INFO1 | FU_INFO2 | SJ_STATUS | LC_SEL | LC_VAL_HI | LC_VAL_LO | KEY_STAT
deriving DecidableEq, Repr

/-- One line of the register map: the address of element 0, the stride, how many addresses there are, how many copies
are stored, the reset word, and the masks of the RW, W1C and RWL bits (R11). -/
structure RegRow where
  base : Nat
  stride : Nat
  addrs : Nat
  copies : Nat
  reset : Nat
  rw : Nat
  w1c : Nat
  rwl : Nat
deriving DecidableEq, Repr

/-- The register map (R412, R413) with the reset column and the access column of every field table. (Log entry: 3 DESIGN CHOICE.) -/
def Reg.row : Reg → RegRow
  | .GLB_ID => RegRow.mk 0x0000 0 1 1 0x5C4812B0 0 0 0
  | .GLB_STATUS => RegRow.mk 0x0004 0 1 1 0 0 0x00000003 0
  | .GLB_CTRL => RegRow.mk 0x0008 0 1 1 0 0 0 0
  | .ALR_SUM => RegRow.mk 0x000C 0 1 1 0 0 0 0
  | .ALR_MASK => RegRow.mk 0x0010 0 1 1 0 0x00007FFF 0 0
  | .ALR_EVT => RegRow.mk 0x0014 0 1 1 0 0 0x0FFF0FFF 0
  | .ALR_RAIL => RegRow.mk 0x0018 0 1 1 0 0 0 0
  | .ALR_PHLO => RegRow.mk 0x001C 0 1 1 0 0 0 0
  | .ALR_PHHI => RegRow.mk 0x0020 0 1 1 0 0 0 0
  | .ALR_ST => RegRow.mk 0x0024 0 1 1 0 0 0 0
  | .HB_CTRL => RegRow.mk 0x0100 0 1 1 0x00000010 0x8000031F 0 0
  | .HB_STATUS => RegRow.mk 0x0104 0 1 1 0 0 0x000000FE 0
  | .HB_ADDR => RegRow.mk 0x0108 0 1 1 0 0 0 0
  | .HB_CNT => RegRow.mk 0x010C 0 1 1 0 0xFFFFFFFF 0 0
  | .HB_ARA => RegRow.mk 0x0110 0 1 1 0 0xFFFFFFFF 0 0
  | .TB_CTRL => RegRow.mk 0x0200 0 1 1 0 0x0000001D 0 0
  | .TB_STATUS => RegRow.mk 0x0204 0 1 1 0 0 0x00000780 0
  | .TB_SYNC => RegRow.mk 0x0208 0 1 1 0x000000C8 0x000007FF 0 0
  | .TB_SPHASE => RegRow.mk 0x020C 0 1 1 0 0x0FFFFFFF 0 0
  | .TB_EPOCH_HI => RegRow.mk 0x0210 0 1 1 0 0 0 0
  | .TB_EPOCH_LO => RegRow.mk 0x0214 0 1 1 0 0 0 0
  | .TB_MCNT => RegRow.mk 0x0218 0 1 1 0 0xFFFFFFFF 0 0
  | .TB_XCNT => RegRow.mk 0x021C 0 1 1 0 0xFFFFFFFF 0 0
  | .TB_RSMP => RegRow.mk 0x0220 4 12 12 0x00000028 0 0 0x0001FFFF
  | .TB_RSLK => RegRow.mk 0x0250 4 12 12 0 0 0 0
  | .LY_CTRL => RegRow.mk 0x0280 0 1 1 0x00043202 0x003FFF03 0 0
  | .LY_STATUS => RegRow.mk 0x0284 0 1 1 0 0 0 0
  | .LY_EVENT => RegRow.mk 0x0288 0 1 1 0 0 0x00001FFF 0
  | .LY_HOPD => RegRow.mk 0x028C 0 1 1 0 0 0 0
  | .LY_TOFS => RegRow.mk 0x0290 0 1 1 0 0 0 0
  | .LY_ERRC => RegRow.mk 0x0294 0 1 1 0 0xFFFFFFFF 0 0
  | .LY_ACT => RegRow.mk 0x0298 0 1 1 0 0 0 0
  | .LY_ACTE_HI => RegRow.mk 0x029C 0 1 1 0 0x0000FFFF 0 0
  | .LY_ACTE_LO => RegRow.mk 0x02A0 0 1 1 0 0xFFFFFFFF 0 0
  | .LY_ACTOK_HI => RegRow.mk 0x02A4 0 1 1 0 0 0 0
  | .LY_ACTOK_LO => RegRow.mk 0x02A8 0 1 1 0 0 0 0
  | .LY_ACTNO_HI => RegRow.mk 0x02AC 0 1 1 0 0 0 0
  | .LY_ACTNO_LO => RegRow.mk 0x02B0 0 1 1 0 0 0 0
  | .LY_GSEL => RegRow.mk 0x02B4 0 1 1 0 0x0000000F 0 0
  | .LY_GSTAT => RegRow.mk 0x02B8 0 1 1 0 0 0 0
  | .LY_GCMD => RegRow.mk 0x02BC 0 1 1 0 0 0 0
  | .LY_GTOT => RegRow.mk 0x02C0 0 1 1 0 0 0 0
  | .LY_GPWR => RegRow.mk 0x02C4 0 1 1 0 0 0 0
  | .RL_CTRL => RegRow.mk 0x0400 0x100 12 12 0x00000002 0x00000003 0 0
  | .RL_STATUS => RegRow.mk 0x0404 0x100 12 12 0 0 0xC0000000 0
  | .RL_TDLY => RegRow.mk 0x0408 0x100 12 12 0x00000032 0xFFFFFFFF 0 0
  | .RL_TCON => RegRow.mk 0x040C 0x100 12 12 0x0A041414 0xFFFFFFFF 0 0
  | .RL_RAMP => RegRow.mk 0x0410 0x100 12 12 0x01F40064 0xFFFFFFFF 0 0
  | .RL_TMO => RegRow.mk 0x0414 0x100 12 12 0x143230C8 0xFFFFFFFF 0 0
  | .RL_VOC => RegRow.mk 0x0418 0x100 12 12 0 0x000FFFFF 0 0
  | .RL_SCNT => RegRow.mk 0x041C 0x100 12 12 0 0xFFFFFFFF 0 0
  | .RL_VTGT => RegRow.mk 0x0420 0x100 12 12 0 0x000FFFFF 0 0
  | .RL_ITGT => RegRow.mk 0x0424 0x100 12 12 0 0x0000FFFF 0 0
  | .RL_VSLEW => RegRow.mk 0x0428 0x100 12 12 0x000003E8 0x000FFFFF 0 0
  | .RL_VACC => RegRow.mk 0x042C 0x100 12 12 0x000003E8 0x000FFFFF 0 0
  | .RL_VJERK => RegRow.mk 0x0430 0x100 12 12 0x000003E8 0x000FFFFF 0 0
  | .RL_ISLEW => RegRow.mk 0x0434 0x100 12 12 0x00002710 0x000FFFFF 0 0
  | .RL_IACC => RegRow.mk 0x0438 0x100 12 12 0x00002710 0x000FFFFF 0 0
  | .RL_IJERK => RegRow.mk 0x043C 0x100 12 12 0x00002710 0x000FFFFF 0 0
  | .RL_LCTL => RegRow.mk 0x0440 0x100 12 12 0x00000003 0x00000007 0 0
  | .RL_LSTAT => RegRow.mk 0x0444 0x100 12 12 0x0000011F 0 0x00010000 0
  | .RL_DLIM => RegRow.mk 0x0448 0x100 12 12 0xF3330000 0xFFFFFFFF 0 0
  | .RL_FXP => RegRow.mk 0x044C 0x100 12 12 0x0E070707 0 0 0x1F1F1F1F
  | .RL_SEXP => RegRow.mk 0x0450 0x100 12 12 0 0 0 0
  | .RL_DUTY => RegRow.mk 0x0454 0x100 12 12 0 0 0 0
  | .RL_LCNT => RegRow.mk 0x0458 0x100 12 12 0 0xFFFFFFFF 0 0
  | .RL_MCTL => RegRow.mk 0x0460 0x100 12 12 0x00210000 0x00F10300 0xC0000000 0
  | .RL_MDUTY => RegRow.mk 0x0464 0x100 12 12 0 0x000FFFFF 0 0
  | .RL_MANI => RegRow.mk 0x0468 0x100 12 12 0 0x0000FFFF 0 0
  | .RL_FCTL => RegRow.mk 0x046C 0x100 12 12 0x00004000 0x0000F170 0x80000000 0
  | .RL_PSET => RegRow.mk 0x0470 0x100 12 12 0x80000000 0 0 0
  | .RL_PISET => RegRow.mk 0x0474 0x100 12 12 0x80000000 0 0 0
  | .RL_ATCTL => RegRow.mk 0x0478 0x100 12 12 0x00420333 0x00FFFFFF 0 0
  | .RL_ATRES => RegRow.mk 0x047C 0x100 12 12 0 0 0 0
  | .RL_PMCTL => RegRow.mk 0x0480 0x100 12 12 0x81813700 0xBFFFFFC0 0 0
  | .RL_PMSTAT => RegRow.mk 0x0484 0x100 12 12 0 0 0xF0000000 0
  | .RL_PMROT => RegRow.mk 0x0488 0x100 12 12 0x029F0000 0xFFFF0000 0 0
  | .RL_PMBAL => RegRow.mk 0x048C 0x100 12 12 0xC4200514 0xFFFFFFFF 0 0
  | .RL_TRCTL => RegRow.mk 0x0490 0x100 12 12 0x51008028 0xFFFFF3FF 0 0
  | .RL_TRTHR => RegRow.mk 0x0494 0x100 12 12 0x20082008 0xFFFFFFFF 0 0
  | .RL_TRSTAT => RegRow.mk 0x0498 0x100 12 12 0 0 0xE0000000 0
  | .RL_REVS => RegRow.mk 0x049C 0x100 12 12 0x00001400 0x8FFFFFFF 0 0
  | .RL_TCTL => RegRow.mk 0x04A0 0x100 12 12 0x00000004 0x0000000F 0 0
  | .RL_VAVG => RegRow.mk 0x04A4 0x100 12 12 0 0 0 0
  | .RL_IAVG => RegRow.mk 0x04A8 0x100 12 12 0 0 0 0
  | .RL_PAVG => RegRow.mk 0x04AC 0x100 12 12 0 0 0 0
  | .RL_EFWD_HI => RegRow.mk 0x04B0 0x100 12 12 0 0 0 0
  | .RL_EFWD_LO => RegRow.mk 0x04B4 0x100 12 12 0 0 0 0
  | .RL_EREV_HI => RegRow.mk 0x04B8 0x100 12 12 0 0 0 0
  | .RL_EREV_LO => RegRow.mk 0x04BC 0x100 12 12 0 0 0 0
  | .LK_CTRL => RegRow.mk 0x04C0 0x100 12 12 0 0x007F1FFF 0 0x00008000
  | .LK_STATUS => RegRow.mk 0x04C4 0x100 12 12 0x00000040 0 0 0
  | .LK_EVENT => RegRow.mk 0x04C8 0x100 12 12 0 0 0x000000FF 0
  | .LK_ERRC => RegRow.mk 0x04CC 0x100 12 12 0 0xFFFFFFFF 0 0
  | .LK_ID_HI => RegRow.mk 0x04D0 0x100 12 12 0 0 0 0
  | .LK_ID_LO => RegRow.mk 0x04D4 0x100 12 12 0 0 0 0
  | .LK_PINFO => RegRow.mk 0x04D8 0x100 12 12 0 0 0 0
  | .LK_PTEMP => RegRow.mk 0x04DC 0x100 12 12 0 0 0 0
  | .RL_OV => RegRow.mk 0x04E0 0x100 12 12 0x000FFFFF 0x000FFFFF 0 0
  | .RL_UV => RegRow.mk 0x04E4 0x100 12 12 0 0x000FFFFF 0 0
  | .RL_IBUD => RegRow.mk 0x04E8 0x100 12 12 0x0000FFFF 0xFFFFFFFF 0 0
  | .RL_PRIO => RegRow.mk 0x04EC 0x100 12 12 0x0000FF00 0x0000000F 0 0x0000FF00
  | .RL_OVL => RegRow.mk 0x04F0 0x100 12 12 0x03E8FFFF 0xFFFFFFFF 0 0
  | .RL_TWF => RegRow.mk 0x04F4 0x100 12 12 0x01680000 0xFFFFFFFF 0 0
  | .RL_TWR => RegRow.mk 0x04F8 0x100 12 12 0x01E0FF60 0xFFFFFFFF 0 0
  | .RL_PSTAT => RegRow.mk 0x04FC 0x100 12 12 0 0 0x80000000 0
  | .PH_PCFG => RegRow.mk 0x1000 0x40 48 48 0x0000000F 0 0 0
  | .PH_GUARD => RegRow.mk 0x1004 0x40 48 48 0x04000200 0x8FFF0FFF 0 0
  | .PH_OVR => RegRow.mk 0x1008 0x40 48 48 0 0x00000003 0x80000000 0
  | .PH_DTOVR => RegRow.mk 0x100C 0x40 48 48 0 0x8000FFFF 0 0
  | .PH_PSTAT => RegRow.mk 0x1010 0x40 48 48 0x08100000 0 0 0
  | .PH_PDUTY => RegRow.mk 0x1014 0x40 48 48 0 0 0 0
  | .PH_PPER => RegRow.mk 0x1018 0x40 48 48 0 0 0 0
  | .PH_PEVT => RegRow.mk 0x101C 0x40 48 48 0 0 0xE0000000 0
  | .PH_ICAL => RegRow.mk 0x1020 0x40 48 48 0x80000000 0xFFFF03FF 0 0
  | .PH_IRAW => RegRow.mk 0x1024 0x40 48 48 0 0 0 0
  | .PH_ITEL => RegRow.mk 0x1028 0x40 48 48 0 0 0 0
  | .PH_ISTAT => RegRow.mk 0x102C 0x40 48 48 0 0 0x00010000 0
  | .PH_MSTAT => RegRow.mk 0x1030 0x40 48 48 0 0 0xC0000000 0
  | .PH_WEAR => RegRow.mk 0x1034 0x40 48 48 0 0xFFFFFFFF 0 0
  | .PH_FCNT => RegRow.mk 0x1038 0x40 48 48 0 0xFFFFFFFF 0 0
  | .PH_BTRIM => RegRow.mk 0x103C 0x40 48 48 0 0 0x80000000 0
  | .ST_CFG => RegRow.mk 0x1C00 0x10 32 32 0x0000010F 0 0 0
  | .ST_FLAG => RegRow.mk 0x1C04 0x10 32 32 0 0 0x000017FF 0
  | .ST_CNT => RegRow.mk 0x1C08 0x10 32 32 0 0xFFFFFFFF 0 0
  | .ST_TEST => RegRow.mk 0x1C0C 0x10 32 32 0 0 0x00000002 0
  | .CV_CTRL => RegRow.mk 0x2000 0 1 1 0x00000006 0x00000007 0 0
  | .CV_STATUS => RegRow.mk 0x2004 0 1 1 0 0 0x000000FC 0
  | .CV_VBDIV => RegRow.mk 0x2008 0 1 1 0x00200000 0xFFFFFFFF 0 0
  | .CV_SCRUB => RegRow.mk 0x200C 0 1 1 0x00FF2004 0x0000FFFF 0 0
  | .CV_CALSEL => RegRow.mk 0x2010 0 1 1 0 0x0000007F 0 0
  | .CV_CALDATA => RegRow.mk 0x2014 0 1 96 0x80000000 0xFFFF0FFF 0 0
  | .CV_CHSEL => RegRow.mk 0x2018 0 1 1 0 0x0000007F 0 0
  | .CV_CHDATA => RegRow.mk 0x201C 0 1 1 0 0 0 0
  | .CV_VBUS => RegRow.mk 0x2020 0 1 1 0 0 0 0
  | .CV_VIN => RegRow.mk 0x2024 0 1 1 0 0 0 0
  | .CV_VINT => RegRow.mk 0x2028 0 1 1 0 0 0 0
  | .CV_TRIG => RegRow.mk 0x202C 0 1 1 0 0x0000FFFF 0 0
  | .CV_TRES0 => RegRow.mk 0x2030 0 1 1 0 0 0 0
  | .CV_TRES1 => RegRow.mk 0x2034 0 1 1 0 0 0 0
  | .CV_SNS => RegRow.mk 0x2040 4 12 12 0x00080000 0x00000FFF 0x04000000 0x00FF0000
  | .CV_TRIM => RegRow.mk 0x2070 4 12 12 0x80000000 0x800007FF 0 0
  | .CV_PKMAX => RegRow.mk 0x20A0 4 12 12 0 0 0 0
  | .CV_PKMIN => RegRow.mk 0x20D0 4 12 12 0 0 0 0
  | .CMP_SEL => RegRow.mk 0x2100 0 1 1 0 0x0000007F 0 0
  | .CMP_THR => RegRow.mk 0x2104 0 1 72 0 0x03FF03FF 0 0
  | .CMP_CONS => RegRow.mk 0x2108 0 1 1 0 0 0 0
  | .CMP_STATUS => RegRow.mk 0x210C 0 1 1 0 0 0x00000001 0
  | .CMP_ABOVE => RegRow.mk 0x2110 4 3 3 0 0 0 0
  | .CMP_BELOW => RegRow.mk 0x211C 4 3 3 0 0 0 0
  | .PR_PBUDGET => RegRow.mk 0x2200 0 1 1 0x7FFFFFFF 0xFFFFFFFF 0 0
  | .PR_VBOV => RegRow.mk 0x2204 0 1 1 0x000FFFFF 0x000FFFFF 0 0
  | .PR_VBUV => RegRow.mk 0x2208 0 1 1 0 0x000FFFFF 0 0
  | .PR_START => RegRow.mk 0x220C 0 1 1 0x1E140002 0xFFFF010F 0 0
  | .PR_STATUS => RegRow.mk 0x2210 0 1 1 0 0 0x0000007E 0
  | .PR_PDEV => RegRow.mk 0x2214 0 1 1 0 0 0 0
  | .PR_PPLAN => RegRow.mk 0x2218 0 1 1 0 0 0 0
  | .PR_QSTAT => RegRow.mk 0x221C 0 1 1 0 0x000FFFFF 0 0
  | .TH_SEL => RegRow.mk 0x2300 0 1 1 0 0x0000000F 0 0
  | .TH_CFG => RegRow.mk 0x2304 0 1 16 0x00020F00 0x00070000 0 0
  | .TH_PAR1 => RegRow.mk 0x2308 0 1 16 0x00002710 0xFFFFFFFF 0 0
  | .TH_PAR2 => RegRow.mk 0x230C 0 1 16 0x00002710 0xFFFFFFFF 0 0
  | .TH_PAR3 => RegRow.mk 0x2310 0 1 16 0x0D6B0000 0xFFFFFFFF 0 0
  | .TH_STATUS => RegRow.mk 0x2314 0 1 1 0x0000FFFF 0 0xFFFF0000 0
  | .TH_DIE => RegRow.mk 0x2318 0 1 1 0 0 0 0
  | .TH_TEMP => RegRow.mk 0x2340 4 16 16 0x80000000 0 0 0
  | .TM_CTRL => RegRow.mk 0x2400 0x10 12 12 0 0xEFFF0000 0 0
  | .TM_CNT => RegRow.mk 0x2404 0x10 12 12 0 0xFFFFFFFF 0 0
  | .TM_TOP => RegRow.mk 0x2408 0x10 12 12 0xFFFFFFFF 0xFFFFFFFF 0 0
  | .TM_STAT => RegRow.mk 0x240C 0x10 12 12 0 0 0x800000FF 0
  | .TM_CHSEL => RegRow.mk 0x24C0 0 1 1 0 0x000000F3 0x80000000 0
  | .TM_CHCFG => RegRow.mk 0x24C4 0 1 48 0 0x800001FF 0 0
  | .TM_CHVAL => RegRow.mk 0x24C8 0 1 48 0 0xFFFFFFFF 0 0
  | .TIO_AUX => RegRow.mk 0x24D0 4 8 8 0x00000032 0x00FF01FF 0 0
  | .TIO_OUT => RegRow.mk 0x24F0 0 1 1 0 0x000000FF 0 0
  | .TIO_IN => RegRow.mk 0x24F4 0 1 1 0 0 0 0
  | .FAN_CTRL => RegRow.mk 0x2500 0x10 4 4 0x4014B3E8 0xEFFFFFFF 0 0
  | .FAN_CURVE => RegRow.mk 0x2504 0x10 4 4 0x00003C1E 0xFFFFFFFF 0 0
  | .FAN_TACH => RegRow.mk 0x2508 0x10 4 4 0 0 0 0
  | .FAN_STAT => RegRow.mk 0x250C 0x10 4 4 0 0 0xE0000000 0
  | .FAN_DERATE => RegRow.mk 0x2540 0 1 1 0 0 0 0
  | .FAN_IGAIN => RegRow.mk 0x2550 8 4 4 0x00000064 0x0000FFFF 0 0
  | .FAN_IBAND => RegRow.mk 0x2554 8 4 4 0x07D00032 0xFFFFFFFF 0 0
  | .FM_CTRL => RegRow.mk 0x3000 0 1 1 0x00000003 0x00000003 0 0
  | .FM_STATUS => RegRow.mk 0x3004 0 1 1 0 0 0x000000EF 0
  | .FM_CMD => RegRow.mk 0x3008 0 1 1 0 0 0 0
  | .FM_RETP_LO => RegRow.mk 0x300C 0 1 1 0 0 0 0
  | .FM_RETP_HI => RegRow.mk 0x3010 0 1 1 0 0 0 0
  | .FM_RETS => RegRow.mk 0x3014 0 1 1 0 0 0 0
  | .FM_CNT => RegRow.mk 0x3018 0 1 1 0 0xFFFFFFFF 0 0
  | .FM_RSTC => RegRow.mk 0x301C 0 1 1 0 0 0 0
  | .BR_STAT => RegRow.mk 0x3020 4 16 16 0x0000000F 0 0xC0000000 0
  | .MS_SEL => RegRow.mk 0x3060 0 1 1 0 0x0000000F 0 0
  | .MS_CFG => RegRow.mk 0x3064 0 1 12 0 0xFFFFFFFF 0 0
  | .MS_LIM => RegRow.mk 0x3068 0 1 12 0x00001811 0xFFFFFFFF 0 0
  | .MS_STAT => RegRow.mk 0x306C 0 1 12 0 0 0x80000000 0
  | .LB_CTRL => RegRow.mk 0x3070 0 1 1 0 0 0 0
  | .LB_STATUS => RegRow.mk 0x3074 0 1 1 0 0 0x40000000 0
  | .LB_SEL => RegRow.mk 0x3078 0 1 1 0 0xFFFFFFFF 0 0
  | .LB_NEWEST => RegRow.mk 0x307C 0 1 1 0 0 0 0
  | .LB_DATA => RegRow.mk 0x3080 4 16 16 0 0 0 0
  | .TR_CTRL => RegRow.mk 0x30C0 0 1 1 0x00000FFF 0x00001FFF 0 0
  | .TR_CMD => RegRow.mk 0x30C4 0 1 1 0 0 0 0
  | .TR_TRIG => RegRow.mk 0x30C8 0 1 1 0x08000017 0x0FFF007F 0 0
  | .TR_STATUS => RegRow.mk 0x30CC 0 1 1 0 0 0x80000000 0
  | .TR_PAGE => RegRow.mk 0x30D0 0 1 1 0 0x0000003F 0 0
  | .TR_FRZE_HI => RegRow.mk 0x30D4 0 1 1 0 0 0 0
  | .TR_FRZE_LO => RegRow.mk 0x30D8 0 1 1 0 0 0 0
  | .RP_CTRL => RegRow.mk 0x30E0 0 1 1 0 0x00FFFFFF 0 0
  | .RP_STATUS => RegRow.mk 0x30E4 0 1 1 0 0 0x80000000 0
  | .RP_DREC => RegRow.mk 0x30E8 0 1 1 0 0 0 0
  | .RP_DREP => RegRow.mk 0x30EC 0 1 1 0 0 0 0
  | .DBG_CMD => RegRow.mk 0x30F0 0 1 1 0 0 0 0
  | .DBG_STATUS => RegRow.mk 0x30F4 0 1 1 0 0 0 0
  | .DBG_CHAL_HI => RegRow.mk 0x30F8 0 1 1 0 0 0 0
  | .DBG_CHAL_LO => RegRow.mk 0x30FC 0 1 1 0 0 0 0
  | .FU_BUF => RegRow.mk 0x3100 4 32 32 0 0xFFFFFFFF 0 0
  | .RG_CTRL => RegRow.mk 0x3180 0 1 1 0x00000001 0x00000003 0 0
  | .RG_CMD => RegRow.mk 0x3184 0 1 1 0 0 0 0
  | .RG_STATUS => RegRow.mk 0x3188 0 1 1 0 0 0 0
  | .RG_EVENT => RegRow.mk 0x318C 0 1 1 0 0 0x0000007F 0
  | .RG_PAGE => RegRow.mk 0x3190 0 1 1 0 0x0000000F 0 0
  | .RG_SLEN => RegRow.mk 0x3194 0 1 1 0 0 0 0
  | .RG_SWAPE_HI => RegRow.mk 0x3198 0 1 1 0 0x0000FFFF 0 0
  | .RG_SWAPE_LO => RegRow.mk 0x319C 0 1 1 0 0xFFFFFFFF 0 0
  | .RG_LASTE_HI => RegRow.mk 0x31A0 0 1 1 0 0 0 0
  | .RG_LASTE_LO => RegRow.mk 0x31A4 0 1 1 0 0 0 0
  | .RG_AID => RegRow.mk 0x31A8 0 1 1 0 0 0 0
  | .RG_SID => RegRow.mk 0x31AC 0 1 1 0 0 0 0
  | .RG_ACRC => RegRow.mk 0x31B0 0 1 1 0 0 0 0
  | .RG_ASEQ => RegRow.mk 0x31B4 0 1 1 0 0 0 0
  | .RG_SCRUB => RegRow.mk 0x31B8 0 1 1 0 0 0 0
  | .SV_STATUS => RegRow.mk 0x31C0 0 1 1 0 0 0 0
  | .SV_EVENT => RegRow.mk 0x31C4 0 1 1 0 0 0x000000FF 0
  | .FU_CMD => RegRow.mk 0x31C8 0 1 1 0 0 0 0
  | .FU_STATUS => RegRow.mk 0x31CC 0 1 1 0 0 0 0
  | .FU_OFS => RegRow.mk 0x31D0 0 1 1 0 0 0 0
  | .FU_ACTE_HI => RegRow.mk 0x31D4 0 1 1 0 0x0000FFFF 0 0
  | .FU_ACTE_LO => RegRow.mk 0x31D8 0 1 1 0 0xFFFFFFFF 0 0
  | .FU_ISEL => RegRow.mk 0x31DC 0 1 1 0 0x00000007 0 0
  | .FU_INFO0 => RegRow.mk 0x31E0 0 1 1 0 0 0 0
  | .FU_INFO1 => RegRow.mk 0x31E4 0 1 1 0 0 0 0
  | .FU_INFO2 => RegRow.mk 0x31E8 0 1 1 0 0 0 0
  | .SJ_STATUS => RegRow.mk 0x31EC 0 1 1 0 0 0 0
  | .LC_SEL => RegRow.mk 0x31F0 0 1 1 0 0x0000003F 0 0
  | .LC_VAL_HI => RegRow.mk 0x31F4 0 1 1 0 0 0 0
  | .LC_VAL_LO => RegRow.mk 0x31F8 0 1 1 0 0 0 0
  | .KEY_STAT => RegRow.mk 0x31FC 0 1 1 0x00050000 0 0 0

/-- A field of a register: its register, its lowest bit and its width (the Bits column of the field tables). -/
structure Fld where
  reg : Reg
  lo : Nat
  width : Nat
deriving DecidableEq, Repr

def GLB_ID.FAMILY : Fld := Fld.mk .GLB_ID 24 8
def GLB_ID.DEVICE : Fld := Fld.mk .GLB_ID 8 16
def GLB_ID.REV : Fld := Fld.mk .GLB_ID 0 8
def GLB_STATUS.NLIVE : Fld := Fld.mk .GLB_STATUS 8 4
def GLB_STATUS.DSBYERR : Fld := Fld.mk .GLB_STATUS 1 1
def GLB_STATUS.AWERR : Fld := Fld.mk .GLB_STATUS 0 1
def GLB_CTRL.TAG : Fld := Fld.mk .GLB_CTRL 28 4
def GLB_CTRL.CMD : Fld := Fld.mk .GLB_CTRL 24 4
def ALR_SUM.PEND : Fld := Fld.mk .ALR_SUM 31 1
def ALR_SUM.SRC : Fld := Fld.mk .ALR_SUM 0 15
def ALR_MASK.MASK : Fld := Fld.mk .ALR_MASK 0 15
def ALR_EVT.SPD : Fld := Fld.mk .ALR_EVT 16 12
def ALR_EVT.AT : Fld := Fld.mk .ALR_EVT 0 12
def ALR_RAIL.RAIL : Fld := Fld.mk .ALR_RAIL 0 12
def ALR_PHLO.PH : Fld := Fld.mk .ALR_PHLO 0 32
def ALR_PHHI.PH : Fld := Fld.mk .ALR_PHHI 0 16
def ALR_ST.ST : Fld := Fld.mk .ALR_ST 0 32
def HB_CTRL.PECLOCK : Fld := Fld.mk .HB_CTRL 31 1
def HB_CTRL.PEC : Fld := Fld.mk .HB_CTRL 8 2
def HB_CTRL.TOEN : Fld := Fld.mk .HB_CTRL 4 1
def HB_CTRL.GFLEN : Fld := Fld.mk .HB_CTRL 0 4
def HB_STATUS.WAKEA : Fld := Fld.mk .HB_STATUS 7 1
def HB_STATUS.TAGERR : Fld := Fld.mk .HB_STATUS 6 1
def HB_STATUS.ARBSP : Fld := Fld.mk .HB_STATUS 5 1
def HB_STATUS.TIMEOUT : Fld := Fld.mk .HB_STATUS 4 1
def HB_STATUS.PECERR : Fld := Fld.mk .HB_STATUS 3 1
def HB_STATUS.PARTIAL : Fld := Fld.mk .HB_STATUS 2 1
def HB_STATUS.ALIGNERR : Fld := Fld.mk .HB_STATUS 1 1
def HB_STATUS.ACKD : Fld := Fld.mk .HB_STATUS 0 1
def HB_ADDR.ADDR : Fld := Fld.mk .HB_ADDR 8 7
def HB_ADDR.L2 : Fld := Fld.mk .HB_ADDR 4 2
def HB_ADDR.L1 : Fld := Fld.mk .HB_ADDR 2 2
def HB_ADDR.L0 : Fld := Fld.mk .HB_ADDR 0 2
def HB_CNT.PECCNT : Fld := Fld.mk .HB_CNT 16 16
def HB_CNT.DUPCNT : Fld := Fld.mk .HB_CNT 0 16
def HB_ARA.LOSTCNT : Fld := Fld.mk .HB_ARA 16 16
def HB_ARA.WONCNT : Fld := Fld.mk .HB_ARA 0 16
def TB_CTRL.ACQ : Fld := Fld.mk .TB_CTRL 5 1
def TB_CTRL.RELOCK : Fld := Fld.mk .TB_CTRL 4 1
def TB_CTRL.SOMODE : Fld := Fld.mk .TB_CTRL 2 2
def TB_CTRL.SRC : Fld := Fld.mk .TB_CTRL 0 1
def TB_STATUS.CFGERR : Fld := Fld.mk .TB_STATUS 10 1
def TB_STATUS.TBLOSS : Fld := Fld.mk .TB_STATUS 9 1
def TB_STATUS.HOLDIN : Fld := Fld.mk .TB_STATUS 8 1
def TB_STATUS.MISS : Fld := Fld.mk .TB_STATUS 7 1
def TB_STATUS.PATHFAIL : Fld := Fld.mk .TB_STATUS 3 1
def TB_STATUS.PATH : Fld := Fld.mk .TB_STATUS 2 1
def TB_STATUS.HOLD : Fld := Fld.mk .TB_STATUS 1 1
def TB_STATUS.LOCK : Fld := Fld.mk .TB_STATUS 0 1
def TB_SYNC.MULT : Fld := Fld.mk .TB_SYNC 0 11
def TB_SPHASE.SOFF : Fld := Fld.mk .TB_SPHASE 17 11
def TB_SPHASE.PHASE : Fld := Fld.mk .TB_SPHASE 0 17
def TB_EPOCH_HI.TICK : Fld := Fld.mk .TB_EPOCH_HI 16 12
def TB_EPOCH_HI.EPOCH_H : Fld := Fld.mk .TB_EPOCH_HI 0 16
def TB_EPOCH_LO.EPOCH_L : Fld := Fld.mk .TB_EPOCH_LO 0 32
def TB_MCNT.COUNT : Fld := Fld.mk .TB_MCNT 0 32
def TB_XCNT.COUNT : Fld := Fld.mk .TB_XCNT 0 32
def TB_RSMP.DETLATCH : Fld := Fld.mk .TB_RSMP 16 1
def TB_RSMP.OFFSET : Fld := Fld.mk .TB_RSMP 8 8
def TB_RSMP.PERIOD : Fld := Fld.mk .TB_RSMP 0 8
def TB_RSLK.CLRW : Fld := Fld.mk .TB_RSLK 31 1
def TB_RSLK.WORST : Fld := Fld.mk .TB_RSLK 16 10
def TB_RSLK.LAST : Fld := Fld.mk .TB_RSLK 0 10
def LY_CTRL.NTOK : Fld := Fld.mk .LY_CTRL 16 6
def LY_CTRL.WRAPPCT : Fld := Fld.mk .LY_CTRL 8 8
def LY_CTRL.TFOLLOW : Fld := Fld.mk .LY_CTRL 1 1
def LY_CTRL.EN : Fld := Fld.mk .LY_CTRL 0 1
def LY_STATUS.MODE : Fld := Fld.mk .LY_STATUS 30 2
def LY_STATUS.HEAD : Fld := Fld.mk .LY_STATUS 29 1
def LY_STATUS.LSTART : Fld := Fld.mk .LY_STATUS 28 1
def LY_STATUS.LEND : Fld := Fld.mk .LY_STATUS 27 1
def LY_STATUS.TALIGN : Fld := Fld.mk .LY_STATUS 26 1
def LY_STATUS.TSTEER : Fld := Fld.mk .LY_STATUS 25 1
def LY_STATUS.PERMWRAP : Fld := Fld.mk .LY_STATUS 24 1
def LY_STATUS.NM1 : Fld := Fld.mk .LY_STATUS 16 6
def LY_STATUS.NUMV : Fld := Fld.mk .LY_STATUS 15 1
def LY_STATUS.MEMBER : Fld := Fld.mk .LY_STATUS 8 6
def LY_STATUS.HELD : Fld := Fld.mk .LY_STATUS 0 6
def LY_EVENT.CFGERR : Fld := Fld.mk .LY_EVENT 12 1
def LY_EVENT.TOKREGEN : Fld := Fld.mk .LY_EVENT 11 1
def LY_EVENT.ACTRES : Fld := Fld.mk .LY_EVENT 10 1
def LY_EVENT.ACTERR : Fld := Fld.mk .LY_EVENT 9 1
def LY_EVENT.DETACH : Fld := Fld.mk .LY_EVENT 8 1
def LY_EVENT.GRPERR : Fld := Fld.mk .LY_EVENT 7 1
def LY_EVENT.TMIS : Fld := Fld.mk .LY_EVENT 6 1
def LY_EVENT.SYNCERR : Fld := Fld.mk .LY_EVENT 5 1
def LY_EVENT.MEMERR : Fld := Fld.mk .LY_EVENT 4 1
def LY_EVENT.RESTORED : Fld := Fld.mk .LY_EVENT 3 1
def LY_EVENT.HOPOUT : Fld := Fld.mk .LY_EVENT 2 1
def LY_EVENT.HOPIN : Fld := Fld.mk .LY_EVENT 1 1
def LY_EVENT.FORMED : Fld := Fld.mk .LY_EVENT 0 1
def LY_HOPD.INDLY : Fld := Fld.mk .LY_HOPD 0 16
def LY_TOFS.OFS : Fld := Fld.mk .LY_TOFS 0 32
def LY_ERRC.HCNT : Fld := Fld.mk .LY_ERRC 16 16
def LY_ERRC.SCNT : Fld := Fld.mk .LY_ERRC 0 16
def LY_ACT.TAG : Fld := Fld.mk .LY_ACT 28 4
def LY_ACT.CMD : Fld := Fld.mk .LY_ACT 24 4
def LY_ACT.LASTID : Fld := Fld.mk .LY_ACT 8 8
def LY_ACT.RESULT : Fld := Fld.mk .LY_ACT 0 8
def LY_ACTE_HI.EPOCH_H : Fld := Fld.mk .LY_ACTE_HI 0 16
def LY_ACTE_LO.EPOCH_L : Fld := Fld.mk .LY_ACTE_LO 0 32
def LY_ACTOK_HI.MAP : Fld := Fld.mk .LY_ACTOK_HI 0 32
def LY_ACTOK_LO.MAP : Fld := Fld.mk .LY_ACTOK_LO 0 32
def LY_ACTNO_HI.MAP : Fld := Fld.mk .LY_ACTNO_HI 0 32
def LY_ACTNO_LO.MAP : Fld := Fld.mk .LY_ACTNO_LO 0 32
def LY_GSEL.REC : Fld := Fld.mk .LY_GSEL 0 4
def LY_GSTAT.GROUP : Fld := Fld.mk .LY_GSTAT 22 10
def LY_GSTAT.RAIL : Fld := Fld.mk .LY_GSTAT 18 4
def LY_GSTAT.ROLE : Fld := Fld.mk .LY_GSTAT 16 2
def LY_GSTAT.IDX : Fld := Fld.mk .LY_GSTAT 13 3
def LY_GSTAT.NMEM : Fld := Fld.mk .LY_GSTAT 9 4
def LY_GSTAT.ACTIVE : Fld := Fld.mk .LY_GSTAT 8 1
def LY_GSTAT.ATT : Fld := Fld.mk .LY_GSTAT 0 8
def LY_GCMD.NSPLG : Fld := Fld.mk .LY_GCMD 23 9
def LY_GCMD.AGE : Fld := Fld.mk .LY_GCMD 16 7
def LY_GCMD.ICMD : Fld := Fld.mk .LY_GCMD 0 16
def LY_GTOT.I : Fld := Fld.mk .LY_GTOT 0 32
def LY_GPWR.P : Fld := Fld.mk .LY_GPWR 0 32
def RL_CTRL.TAG : Fld := Fld.mk .RL_CTRL 28 4
def RL_CTRL.CMD : Fld := Fld.mk .RL_CTRL 24 4
def RL_CTRL.AUTO : Fld := Fld.mk .RL_CTRL 1 1
def RL_CTRL.EN : Fld := Fld.mk .RL_CTRL 0 1
def RL_STATUS.WERR : Fld := Fld.mk .RL_STATUS 31 1
def RL_STATUS.FLTF : Fld := Fld.mk .RL_STATUS 30 1
def RL_STATUS.SPDRIFT : Fld := Fld.mk .RL_STATUS 28 1
def RL_STATUS.LOCKOUT : Fld := Fld.mk .RL_STATUS 27 1
def RL_STATUS.QUEUED : Fld := Fld.mk .RL_STATUS 26 1
def RL_STATUS.SLOT : Fld := Fld.mk .RL_STATUS 25 1
def RL_STATUS.CONT : Fld := Fld.mk .RL_STATUS 24 1
def RL_STATUS.CAUSE : Fld := Fld.mk .RL_STATUS 16 8
def RL_STATUS.PREV : Fld := Fld.mk .RL_STATUS 8 4
def RL_STATUS.STATE : Fld := Fld.mk .RL_STATUS 0 4
def RL_TDLY.TOFFDLY : Fld := Fld.mk .RL_TDLY 16 16
def RL_TDLY.TONDLY : Fld := Fld.mk .RL_TDLY 0 16
def RL_TCON.TFAULT : Fld := Fld.mk .RL_TCON 24 8
def RL_TCON.MATCHN : Fld := Fld.mk .RL_TCON 16 8
def RL_TCON.TOPEN : Fld := Fld.mk .RL_TCON 8 8
def RL_TCON.TCLOSE : Fld := Fld.mk .RL_TCON 0 8
def RL_RAMP.RDN : Fld := Fld.mk .RL_RAMP 16 16
def RL_RAMP.RUP : Fld := Fld.mk .RL_RAMP 0 16
def RL_TMO.TSTART : Fld := Fld.mk .RL_TMO 24 8
def RL_TMO.TSTOP : Fld := Fld.mk .RL_TMO 16 8
def RL_TMO.NRST : Fld := Fld.mk .RL_TMO 12 4
def RL_TMO.PMI : Fld := Fld.mk .RL_TMO 0 12
def RL_VOC.VALID : Fld := Fld.mk .RL_VOC 31 1
def RL_VOC.VOC : Fld := Fld.mk .RL_VOC 0 20
def RL_SCNT.FLTCNT : Fld := Fld.mk .RL_SCNT 16 16
def RL_SCNT.STARTCNT : Fld := Fld.mk .RL_SCNT 0 16
def RL_VTGT.VTGT : Fld := Fld.mk .RL_VTGT 0 20
def RL_ITGT.ITGT : Fld := Fld.mk .RL_ITGT 0 16
def RL_VSLEW.LIMIT : Fld := Fld.mk .RL_VSLEW 0 20
def RL_VACC.LIMIT : Fld := Fld.mk .RL_VACC 0 20
def RL_VJERK.LIMIT : Fld := Fld.mk .RL_VJERK 0 20
def RL_ISLEW.LIMIT : Fld := Fld.mk .RL_ISLEW 0 20
def RL_IACC.LIMIT : Fld := Fld.mk .RL_IACC 0 20
def RL_IJERK.LIMIT : Fld := Fld.mk .RL_IJERK 0 20
def RL_LCTL.FRHOLD : Fld := Fld.mk .RL_LCTL 2 1
def RL_LCTL.OOFEN : Fld := Fld.mk .RL_LCTL 1 1
def RL_LCTL.AWEN : Fld := Fld.mk .RL_LCTL 0 1
def RL_LSTAT.LCFGERR : Fld := Fld.mk .RL_LSTAT 16 1
def RL_LSTAT.WHELD : Fld := Fld.mk .RL_LSTAT 12 1
def RL_LSTAT.CLAMPL : Fld := Fld.mk .RL_LSTAT 11 1
def RL_LSTAT.CLAMPH : Fld := Fld.mk .RL_LSTAT 10 1
def RL_LSTAT.FRMODE : Fld := Fld.mk .RL_LSTAT 8 1
def RL_LSTAT.BRAID : Fld := Fld.mk .RL_LSTAT 5 1
def RL_LSTAT.STA : Fld := Fld.mk .RL_LSTAT 0 5
def RL_DLIM.DMAX : Fld := Fld.mk .RL_DLIM 16 16
def RL_DLIM.DMIN : Fld := Fld.mk .RL_DLIM 0 16
def RL_FXP.FXO : Fld := Fld.mk .RL_FXP 24 5
def RL_FXP.FXB2 : Fld := Fld.mk .RL_FXP 16 5
def RL_FXP.FXB1 : Fld := Fld.mk .RL_FXP 8 5
def RL_FXP.FXP : Fld := Fld.mk .RL_FXP 0 5
def RL_SEXP.EO : Fld := Fld.mk .RL_SEXP 24 5
def RL_SEXP.EB2 : Fld := Fld.mk .RL_SEXP 16 5
def RL_SEXP.EB1 : Fld := Fld.mk .RL_SEXP 8 5
def RL_SEXP.EP : Fld := Fld.mk .RL_SEXP 0 5
def RL_DUTY.HELD : Fld := Fld.mk .RL_DUTY 31 1
def RL_DUTY.DUTY : Fld := Fld.mk .RL_DUTY 0 20
def RL_LCNT.OOFCNT : Fld := Fld.mk .RL_LCNT 16 16
def RL_LCNT.AWCNT : Fld := Fld.mk .RL_LCNT 0 16
def RL_MCTL.CFGERR : Fld := Fld.mk .RL_MCTL 31 1
def RL_MCTL.TWERR : Fld := Fld.mk .RL_MCTL 30 1
def RL_MCTL.XCNT : Fld := Fld.mk .RL_MCTL 20 4
def RL_MCTL.TSRC : Fld := Fld.mk .RL_MCTL 16 1
def RL_MCTL.REQ : Fld := Fld.mk .RL_MCTL 8 2
def RL_MCTL.MODE : Fld := Fld.mk .RL_MCTL 4 2
def RL_MCTL.PRE : Fld := Fld.mk .RL_MCTL 3 1
def RL_MDUTY.DUTY : Fld := Fld.mk .RL_MDUTY 0 20
def RL_MANI.MANI : Fld := Fld.mk .RL_MANI 0 16
def RL_FCTL.FERR : Fld := Fld.mk .RL_FCTL 31 1
def RL_FCTL.NOREG : Fld := Fld.mk .RL_FCTL 30 1
def RL_FCTL.PEND : Fld := Fld.mk .RL_FCTL 29 1
def RL_FCTL.PFACET : Fld := Fld.mk .RL_FCTL 24 3
def RL_FCTL.FCHG : Fld := Fld.mk .RL_FCTL 16 8
def RL_FCTL.FDWELL : Fld := Fld.mk .RL_FCTL 12 4
def RL_FCTL.FORCE : Fld := Fld.mk .RL_FCTL 8 1
def RL_FCTL.FSEL : Fld := Fld.mk .RL_FCTL 4 3
def RL_FCTL.FACET : Fld := Fld.mk .RL_FCTL 0 3
def RL_PSET.VREST : Fld := Fld.mk .RL_PSET 31 1
def RL_PSET.VBACK : Fld := Fld.mk .RL_PSET 30 1
def RL_PSET.VSET : Fld := Fld.mk .RL_PSET 0 20
def RL_PISET.IREST : Fld := Fld.mk .RL_PISET 31 1
def RL_PISET.IBACK : Fld := Fld.mk .RL_PISET 30 1
def RL_PISET.ISET : Fld := Fld.mk .RL_PISET 0 16
def RL_ATCTL.TAG : Fld := Fld.mk .RL_ATCTL 28 4
def RL_ATCTL.CMD : Fld := Fld.mk .RL_ATCTL 24 4
def RL_ATCTL.NCYC : Fld := Fld.mk .RL_ATCTL 20 4
def RL_ATCTL.HYS : Fld := Fld.mk .RL_ATCTL 16 4
def RL_ATCTL.AMP : Fld := Fld.mk .RL_ATCTL 0 16
def RL_ATRES.TU : Fld := Fld.mk .RL_ATRES 16 16
def RL_ATRES.APP : Fld := Fld.mk .RL_ATRES 6 10
def RL_ATRES.CODE : Fld := Fld.mk .RL_ATRES 0 4
def RL_PMCTL.PMEN : Fld := Fld.mk .RL_PMCTL 31 1
def RL_PMCTL.NMIN : Fld := Fld.mk .RL_PMCTL 24 6
def RL_PMCTL.SDWELL : Fld := Fld.mk .RL_PMCTL 20 4
def RL_PMCTL.ADWELL : Fld := Fld.mk .RL_PMCTL 16 4
def RL_PMCTL.RHOLD : Fld := Fld.mk .RL_PMCTL 12 4
def RL_PMCTL.RMAX : Fld := Fld.mk .RL_PMCTL 9 3
def RL_PMCTL.KILLN : Fld := Fld.mk .RL_PMCTL 6 3
def RL_PMSTAT.REVBLK : Fld := Fld.mk .RL_PMSTAT 31 1
def RL_PMSTAT.RESPLICE : Fld := Fld.mk .RL_PMSTAT 30 1
def RL_PMSTAT.NOADD : Fld := Fld.mk .RL_PMSTAT 29 1
def RL_PMSTAT.PMCFGERR : Fld := Fld.mk .RL_PMSTAT 28 1
def RL_PMSTAT.NACT : Fld := Fld.mk .RL_PMSTAT 18 6
def RL_PMSTAT.NSHED : Fld := Fld.mk .RL_PMSTAT 12 6
def RL_PMSTAT.NHELD : Fld := Fld.mk .RL_PMSTAT 6 6
def RL_PMSTAT.NRET : Fld := Fld.mk .RL_PMSTAT 0 6
def RL_PMROT.RPER : Fld := Fld.mk .RL_PMROT 16 16
def RL_PMROT.SHEDCNT : Fld := Fld.mk .RL_PMROT 8 8
def RL_PMROT.ADDCNT : Fld := Fld.mk .RL_PMROT 0 8
def RL_PMBAL.BEN : Fld := Fld.mk .RL_PMBAL 31 1
def RL_PMBAL.BINT : Fld := Fld.mk .RL_PMBAL 28 3
def RL_PMBAL.BSTEP : Fld := Fld.mk .RL_PMBAL 24 4
def RL_PMBAL.BGAIN : Fld := Fld.mk .RL_PMBAL 16 8
def RL_PMBAL.BDEAD : Fld := Fld.mk .RL_PMBAL 8 8
def RL_PMBAL.BMIN : Fld := Fld.mk .RL_PMBAL 0 8
def RL_TRCTL.UEN : Fld := Fld.mk .RL_TRCTL 31 1
def RL_TRCTL.OEN : Fld := Fld.mk .RL_TRCTL 30 1
def RL_TRCTL.SHEDJOIN : Fld := Fld.mk .RL_TRCTL 29 1
def RL_TRCTL.OREL : Fld := Fld.mk .RL_TRCTL 28 1
def RL_TRCTL.TRLOCK : Fld := Fld.mk .RL_TRCTL 20 8
def RL_TRCTL.UEXIT : Fld := Fld.mk .RL_TRCTL 12 8
def RL_TRCTL.TONMAX : Fld := Fld.mk .RL_TRCTL 0 10
def RL_TRTHR.UTH : Fld := Fld.mk .RL_TRTHR 24 8
def RL_TRTHR.USLP : Fld := Fld.mk .RL_TRTHR 16 8
def RL_TRTHR.OTH : Fld := Fld.mk .RL_TRTHR 8 8
def RL_TRTHR.OSLP : Fld := Fld.mk .RL_TRTHR 0 8
def RL_TRSTAT.ONF : Fld := Fld.mk .RL_TRSTAT 31 1
def RL_TRSTAT.OFFF : Fld := Fld.mk .RL_TRSTAT 30 1
def RL_TRSTAT.RELF : Fld := Fld.mk .RL_TRSTAT 29 1
def RL_TRSTAT.ACT : Fld := Fld.mk .RL_TRSTAT 24 2
def RL_TRSTAT.CAUSE : Fld := Fld.mk .RL_TRSTAT 20 4
def RL_TRSTAT.ONCNT : Fld := Fld.mk .RL_TRSTAT 8 8
def RL_TRSTAT.OFFCNT : Fld := Fld.mk .RL_TRSTAT 0 8
def RL_REVS.SHEN : Fld := Fld.mk .RL_REVS 31 1
def RL_REVS.PARTNER : Fld := Fld.mk .RL_REVS 24 4
def RL_REVS.SHARE : Fld := Fld.mk .RL_REVS 16 8
def RL_REVS.RLIM : Fld := Fld.mk .RL_REVS 10 6
def RL_REVS.VHI : Fld := Fld.mk .RL_REVS 0 10
def RL_TCTL.TAG : Fld := Fld.mk .RL_TCTL 28 4
def RL_TCTL.CMD : Fld := Fld.mk .RL_TCTL 24 4
def RL_TCTL.BLKW : Fld := Fld.mk .RL_TCTL 8 8
def RL_TCTL.WIN : Fld := Fld.mk .RL_TCTL 0 4
def RL_VAVG.VALUE : Fld := Fld.mk .RL_VAVG 0 32
def RL_IAVG.VALUE : Fld := Fld.mk .RL_IAVG 0 32
def RL_PAVG.VALUE : Fld := Fld.mk .RL_PAVG 0 32
def RL_EFWD_HI.E : Fld := Fld.mk .RL_EFWD_HI 0 32
def RL_EFWD_LO.E : Fld := Fld.mk .RL_EFWD_LO 0 32
def RL_EREV_HI.E : Fld := Fld.mk .RL_EREV_HI 0 32
def RL_EREV_LO.E : Fld := Fld.mk .RL_EREV_LO 0 32
def LK_CTRL.TAG : Fld := Fld.mk .LK_CTRL 28 4
def LK_CTRL.CMD : Fld := Fld.mk .LK_CTRL 24 4
def LK_CTRL.RETRY : Fld := Fld.mk .LK_CTRL 20 3
def LK_CTRL.LED : Fld := Fld.mk .LK_CTRL 16 4
def LK_CTRL.EN : Fld := Fld.mk .LK_CTRL 15 1
def LK_CTRL.WDOG : Fld := Fld.mk .LK_CTRL 0 13
def LK_STATUS.AMB : Fld := Fld.mk .LK_STATUS 24 8
def LK_STATUS.PFLAGS : Fld := Fld.mk .LK_STATUS 20 4
def LK_STATUS.LASTSEQ : Fld := Fld.mk .LK_STATUS 12 4
def LK_STATUS.SLOTSEQ : Fld := Fld.mk .LK_STATUS 8 4
def LK_STATUS.SAT : Fld := Fld.mk .LK_STATUS 7 1
def LK_STATUS.TAGE : Fld := Fld.mk .LK_STATUS 6 1
def LK_STATUS.WDRUN : Fld := Fld.mk .LK_STATUS 5 1
def LK_STATUS.REV : Fld := Fld.mk .LK_STATUS 4 1
def LK_STATUS.CHG : Fld := Fld.mk .LK_STATUS 3 1
def LK_STATUS.LSTATE : Fld := Fld.mk .LK_STATUS 0 2
def LK_EVENT.CFGERR : Fld := Fld.mk .LK_EVENT 7 1
def LK_EVENT.SATF : Fld := Fld.mk .LK_EVENT 6 1
def LK_EVENT.FRMERR : Fld := Fld.mk .LK_EVENT 5 1
def LK_EVENT.NOTFAIL : Fld := Fld.mk .LK_EVENT 4 1
def LK_EVENT.WDX : Fld := Fld.mk .LK_EVENT 3 1
def LK_EVENT.REBIND : Fld := Fld.mk .LK_EVENT 2 1
def LK_EVENT.GONE : Fld := Fld.mk .LK_EVENT 1 1
def LK_EVENT.BOUND : Fld := Fld.mk .LK_EVENT 0 1
def LK_ERRC.DUPCNT : Fld := Fld.mk .LK_ERRC 24 8
def LK_ERRC.SATCNT : Fld := Fld.mk .LK_ERRC 16 8
def LK_ERRC.VIOLCNT : Fld := Fld.mk .LK_ERRC 8 8
def LK_ERRC.CRCCNT : Fld := Fld.mk .LK_ERRC 0 8
def LK_ID_HI.SERIAL : Fld := Fld.mk .LK_ID_HI 0 32
def LK_ID_LO.SERIAL : Fld := Fld.mk .LK_ID_LO 0 32
def LK_PINFO.CELLS : Fld := Fld.mk .LK_PINFO 24 8
def LK_PINFO.CHEM : Fld := Fld.mk .LK_PINFO 16 8
def LK_PINFO.VMAX : Fld := Fld.mk .LK_PINFO 0 16
def LK_PTEMP.TMAX : Fld := Fld.mk .LK_PTEMP 16 16
def LK_PTEMP.TMIN : Fld := Fld.mk .LK_PTEMP 0 16
def RL_OV.MV : Fld := Fld.mk .RL_OV 0 20
def RL_UV.MV : Fld := Fld.mk .RL_UV 0 20
def RL_IBUD.IFLOOR : Fld := Fld.mk .RL_IBUD 16 16
def RL_IBUD.IBUDGET : Fld := Fld.mk .RL_IBUD 0 16
def RL_PRIO.TSENS : Fld := Fld.mk .RL_PRIO 8 8
def RL_PRIO.PRIO : Fld := Fld.mk .RL_PRIO 0 4
def RL_OVL.TOVL : Fld := Fld.mk .RL_OVL 16 16
def RL_OVL.IOVL : Fld := Fld.mk .RL_OVL 0 16
def RL_TWF.HI : Fld := Fld.mk .RL_TWF 16 16
def RL_TWF.LO : Fld := Fld.mk .RL_TWF 0 16
def RL_TWR.HI : Fld := Fld.mk .RL_TWR 16 16
def RL_TWR.LO : Fld := Fld.mk .RL_TWR 0 16
def RL_PSTAT.PCFGERR : Fld := Fld.mk .RL_PSTAT 31 1
def RL_PSTAT.TWF : Fld := Fld.mk .RL_PSTAT 30 1
def RL_PSTAT.TWR : Fld := Fld.mk .RL_PSTAT 29 1
def RL_PSTAT.BLIM : Fld := Fld.mk .RL_PSTAT 28 1
def RL_PSTAT.OVLPCT : Fld := Fld.mk .RL_PSTAT 20 8
def RL_PSTAT.CAP : Fld := Fld.mk .RL_PSTAT 0 16
def PH_PCFG.OFFSET : Fld := Fld.mk .PH_PCFG 12 8
def PH_PCFG.ORDER : Fld := Fld.mk .PH_PCFG 6 6
def PH_PCFG.RAIL : Fld := Fld.mk .PH_PCFG 0 4
def PH_GUARD.GMODE : Fld := Fld.mk .PH_GUARD 31 1
def PH_GUARD.TOFFMIN : Fld := Fld.mk .PH_GUARD 16 12
def PH_GUARD.TONMIN : Fld := Fld.mk .PH_GUARD 0 12
def PH_OVR.OVERR : Fld := Fld.mk .PH_OVR 31 1
def PH_OVR.SWAP : Fld := Fld.mk .PH_OVR 1 1
def PH_OVR.INV : Fld := Fld.mk .PH_OVR 0 1
def PH_DTOVR.DTF : Fld := Fld.mk .PH_DTOVR 31 1
def PH_DTOVR.DTLH : Fld := Fld.mk .PH_DTOVR 8 8
def PH_DTOVR.DTHL : Fld := Fld.mk .PH_DTOVR 0 8
def PH_PSTAT.OUT : Fld := Fld.mk .PH_PSTAT 26 2
def PH_PSTAT.CAUSE : Fld := Fld.mk .PH_PSTAT 20 4
def PH_PSTAT.DIDX : Fld := Fld.mk .PH_PSTAT 16 4
def PH_PSTAT.DTLH : Fld := Fld.mk .PH_PSTAT 8 8
def PH_PSTAT.DTHL : Fld := Fld.mk .PH_PSTAT 0 8
def PH_PDUTY.DUTY : Fld := Fld.mk .PH_PDUTY 0 20
def PH_PPER.SLEW : Fld := Fld.mk .PH_PPER 31 1
def PH_PPER.PCUR : Fld := Fld.mk .PH_PPER 0 18
def PH_PEVT.KILLF : Fld := Fld.mk .PH_PEVT 31 1
def PH_PEVT.GFIT : Fld := Fld.mk .PH_PEVT 30 1
def PH_PEVT.SKIPF : Fld := Fld.mk .PH_PEVT 29 1
def PH_PEVT.SKIPCNT : Fld := Fld.mk .PH_PEVT 0 16
def PH_ICAL.GAIN : Fld := Fld.mk .PH_ICAL 16 16
def PH_ICAL.OFS : Fld := Fld.mk .PH_ICAL 0 10
def PH_IRAW.OVR : Fld := Fld.mk .PH_IRAW 31 1
def PH_IRAW.BLK : Fld := Fld.mk .PH_IRAW 30 1
def PH_IRAW.RAW : Fld := Fld.mk .PH_IRAW 16 12
def PH_IRAW.CORR : Fld := Fld.mk .PH_IRAW 0 14
def PH_ITEL.I : Fld := Fld.mk .PH_ITEL 0 32
def PH_ISTAT.OVRF : Fld := Fld.mk .PH_ISTAT 16 1
def PH_ISTAT.OVRCNT : Fld := Fld.mk .PH_ISTAT 0 16
def PH_MSTAT.RETF : Fld := Fld.mk .PH_MSTAT 31 1
def PH_MSTAT.HOLDF : Fld := Fld.mk .PH_MSTAT 30 1
def PH_MSTAT.NRETRY : Fld := Fld.mk .PH_MSTAT 24 3
def PH_MSTAT.FCAUSE : Fld := Fld.mk .PH_MSTAT 20 4
def PH_MSTAT.STATE : Fld := Fld.mk .PH_MSTAT 0 3
def PH_WEAR.WEAR : Fld := Fld.mk .PH_WEAR 0 32
def PH_FCNT.KILLCNT : Fld := Fld.mk .PH_FCNT 16 16
def PH_FCNT.FLTCNT : Fld := Fld.mk .PH_FCNT 0 16
def PH_BTRIM.TLIM : Fld := Fld.mk .PH_BTRIM 31 1
def PH_BTRIM.TR : Fld := Fld.mk .PH_BTRIM 16 10
def PH_BTRIM.IMEAN : Fld := Fld.mk .PH_BTRIM 0 16
def ST_CFG.RETIRED : Fld := Fld.mk .ST_CFG 15 1
def ST_CFG.STATE : Fld := Fld.mk .ST_CFG 12 3
def ST_CFG.FRMODE : Fld := Fld.mk .ST_CFG 8 1
def ST_CFG.ROLE : Fld := Fld.mk .ST_CFG 4 2
def ST_CFG.RAIL : Fld := Fld.mk .ST_CFG 0 4
def ST_FLAG.MISS : Fld := Fld.mk .ST_FLAG 12 1
def ST_FLAG.CONV : Fld := Fld.mk .ST_FLAG 10 1
def ST_FLAG.NARF : Fld := Fld.mk .ST_FLAG 9 1
def ST_FLAG.ACCF : Fld := Fld.mk .ST_FLAG 8 1
def ST_FLAG.NARO : Fld := Fld.mk .ST_FLAG 7 1
def ST_FLAG.ACCO : Fld := Fld.mk .ST_FLAG 6 1
def ST_FLAG.NARB2 : Fld := Fld.mk .ST_FLAG 5 1
def ST_FLAG.ACCB2 : Fld := Fld.mk .ST_FLAG 4 1
def ST_FLAG.NARB1 : Fld := Fld.mk .ST_FLAG 3 1
def ST_FLAG.ACCB1 : Fld := Fld.mk .ST_FLAG 2 1
def ST_FLAG.NARP : Fld := Fld.mk .ST_FLAG 1 1
def ST_FLAG.ACCP : Fld := Fld.mk .ST_FLAG 0 1
def ST_CNT.SATCNT : Fld := Fld.mk .ST_CNT 16 16
def ST_CNT.MISSCNT : Fld := Fld.mk .ST_CNT 0 16
def ST_TEST.TAG : Fld := Fld.mk .ST_TEST 28 4
def ST_TEST.CMD : Fld := Fld.mk .ST_TEST 24 4
def ST_TEST.PASSCNT : Fld := Fld.mk .ST_TEST 8 8
def ST_TEST.FAIL : Fld := Fld.mk .ST_TEST 1 1
def ST_TEST.BUSY : Fld := Fld.mk .ST_TEST 0 1
def CV_CTRL.TAG : Fld := Fld.mk .CV_CTRL 28 4
def CV_CTRL.CMD : Fld := Fld.mk .CV_CTRL 24 4
def CV_CTRL.XCHKEN : Fld := Fld.mk .CV_CTRL 2 1
def CV_CTRL.DSCRUB : Fld := Fld.mk .CV_CTRL 1 1
def CV_CTRL.LPEN : Fld := Fld.mk .CV_CTRL 0 1
def CV_STATUS.TRGOVR : Fld := Fld.mk .CV_STATUS 7 1
def CV_STATUS.OPENL : Fld := Fld.mk .CV_STATUS 6 1
def CV_STATUS.DACFAIL : Fld := Fld.mk .CV_STATUS 5 1
def CV_STATUS.TC1DRIFT : Fld := Fld.mk .CV_STATUS 4 1
def CV_STATUS.TC0DRIFT : Fld := Fld.mk .CV_STATUS 3 1
def CV_STATUS.CFGERR : Fld := Fld.mk .CV_STATUS 2 1
def CV_STATUS.LPACT : Fld := Fld.mk .CV_STATUS 0 1
def CV_VBDIV.DIV : Fld := Fld.mk .CV_VBDIV 0 32
def CV_SCRUB.LASTDAC : Fld := Fld.mk .CV_SCRUB 16 8
def CV_SCRUB.XTOL : Fld := Fld.mk .CV_SCRUB 8 8
def CV_SCRUB.DTOL : Fld := Fld.mk .CV_SCRUB 0 8
def CV_CALSEL.CHAN : Fld := Fld.mk .CV_CALSEL 0 7
def CV_CALDATA.GAIN : Fld := Fld.mk .CV_CALDATA 16 16
def CV_CALDATA.OFS : Fld := Fld.mk .CV_CALDATA 0 12
def CV_CHSEL.CHAN : Fld := Fld.mk .CV_CHSEL 0 7
def CV_CHDATA.CORR : Fld := Fld.mk .CV_CHDATA 16 16
def CV_CHDATA.RAW : Fld := Fld.mk .CV_CHDATA 0 16
def CV_VBUS.MV : Fld := Fld.mk .CV_VBUS 0 32
def CV_VIN.MV : Fld := Fld.mk .CV_VIN 0 32
def CV_VINT.V5 : Fld := Fld.mk .CV_VINT 16 16
def CV_VINT.VCORE : Fld := Fld.mk .CV_VINT 0 16
def CV_TRIG.EN1 : Fld := Fld.mk .CV_TRIG 15 1
def CV_TRIG.CH1 : Fld := Fld.mk .CV_TRIG 8 7
def CV_TRIG.EN0 : Fld := Fld.mk .CV_TRIG 7 1
def CV_TRIG.CH0 : Fld := Fld.mk .CV_TRIG 0 7
def CV_TRES0.COUNT : Fld := Fld.mk .CV_TRES0 16 16
def CV_TRES0.CORR : Fld := Fld.mk .CV_TRES0 0 16
def CV_TRES1.COUNT : Fld := Fld.mk .CV_TRES1 16 16
def CV_TRES1.CORR : Fld := Fld.mk .CV_TRES1 0 16
def CV_SNS.TAG : Fld := Fld.mk .CV_SNS 28 4
def CV_SNS.RESTORE : Fld := Fld.mk .CV_SNS 27 1
def CV_SNS.OPEN : Fld := Fld.mk .CV_SNS 26 1
def CV_SNS.FBK : Fld := Fld.mk .CV_SNS 25 1
def CV_SNS.INLOC : Fld := Fld.mk .CV_SNS 24 1
def CV_SNS.ITRIG : Fld := Fld.mk .CV_SNS 16 8
def CV_SNS.BCOMP : Fld := Fld.mk .CV_SNS 0 12
def CV_TRIM.TRIMEN : Fld := Fld.mk .CV_TRIM 31 1
def CV_TRIM.FROZEN : Fld := Fld.mk .CV_TRIM 30 1
def CV_TRIM.LIMIT : Fld := Fld.mk .CV_TRIM 29 1
def CV_TRIM.TRIM : Fld := Fld.mk .CV_TRIM 0 11
def CV_PKMAX.I : Fld := Fld.mk .CV_PKMAX 0 32
def CV_PKMIN.I : Fld := Fld.mk .CV_PKMIN 0 32
def CMP_SEL.WIN : Fld := Fld.mk .CMP_SEL 0 7
def CMP_THR.UPPER : Fld := Fld.mk .CMP_THR 16 10
def CMP_THR.LOWER : Fld := Fld.mk .CMP_THR 0 10
def CMP_CONS.CONS : Fld := Fld.mk .CMP_CONS 0 4
def CMP_STATUS.CFGERR : Fld := Fld.mk .CMP_STATUS 0 1
def CMP_ABOVE.LEVEL : Fld := Fld.mk .CMP_ABOVE 0 32
def CMP_BELOW.LEVEL : Fld := Fld.mk .CMP_BELOW 0 32
def PR_PBUDGET.PBUDGET : Fld := Fld.mk .PR_PBUDGET 0 32
def PR_VBOV.MV : Fld := Fld.mk .PR_VBOV 0 20
def PR_VBUV.MV : Fld := Fld.mk .PR_VBUV 0 20
def PR_START.AGE : Fld := Fld.mk .PR_START 24 8
def PR_START.PBHYS : Fld := Fld.mk .PR_START 16 8
def PR_START.RINGTOK : Fld := Fld.mk .PR_START 8 1
def PR_START.NSTART : Fld := Fld.mk .PR_START 0 4
def PR_STATUS.BUDOVR : Fld := Fld.mk .PR_STATUS 6 1
def PR_STATUS.BUSOV : Fld := Fld.mk .PR_STATUS 5 1
def PR_STATUS.BUSUV : Fld := Fld.mk .PR_STATUS 4 1
def PR_STATUS.TSDF : Fld := Fld.mk .PR_STATUS 3 1
def PR_STATUS.CUTF : Fld := Fld.mk .PR_STATUS 2 1
def PR_STATUS.BOFF : Fld := Fld.mk .PR_STATUS 1 1
def PR_STATUS.TSDACT : Fld := Fld.mk .PR_STATUS 0 1
def PR_PDEV.P : Fld := Fld.mk .PR_PDEV 0 32
def PR_PPLAN.P : Fld := Fld.mk .PR_PPLAN 0 32
def PR_QSTAT.BWAIT : Fld := Fld.mk .PR_QSTAT 31 1
def PR_QSTAT.QLEN : Fld := Fld.mk .PR_QSTAT 24 4
def PR_QSTAT.NSLOT : Fld := Fld.mk .PR_QSTAT 20 4
def PR_QSTAT.WMAX : Fld := Fld.mk .PR_QSTAT 0 20
def TH_SEL.INPUT : Fld := Fld.mk .TH_SEL 0 4
def TH_CFG.FILT : Fld := Fld.mk .TH_CFG 16 3
def TH_CFG.RAIL : Fld := Fld.mk .TH_CFG 8 4
def TH_CFG.TYPE : Fld := Fld.mk .TH_CFG 0 2
def TH_PAR1.P1 : Fld := Fld.mk .TH_PAR1 0 32
def TH_PAR2.P2 : Fld := Fld.mk .TH_PAR2 0 32
def TH_PAR3.BN : Fld := Fld.mk .TH_PAR3 16 16
def TH_PAR3.OFS : Fld := Fld.mk .TH_PAR3 0 16
def TH_STATUS.INVF : Fld := Fld.mk .TH_STATUS 16 16
def TH_STATUS.INV : Fld := Fld.mk .TH_STATUS 0 16
def TH_DIE.T : Fld := Fld.mk .TH_DIE 0 16
def TH_TEMP.INV : Fld := Fld.mk .TH_TEMP 31 1
def TH_TEMP.T : Fld := Fld.mk .TH_TEMP 0 16
def TM_CTRL.EN : Fld := Fld.mk .TM_CTRL 31 1
def TM_CTRL.DBGRUN : Fld := Fld.mk .TM_CTRL 30 1
def TM_CTRL.LPCLK : Fld := Fld.mk .TM_CTRL 29 1
def TM_CTRL.PSC : Fld := Fld.mk .TM_CTRL 24 4
def TM_CTRL.SLV : Fld := Fld.mk .TM_CTRL 22 2
def TM_CTRL.MSTR : Fld := Fld.mk .TM_CTRL 21 1
def TM_CTRL.MCHAN : Fld := Fld.mk .TM_CTRL 19 2
def TM_CTRL.TRGSRC : Fld := Fld.mk .TM_CTRL 16 3
def TM_CNT.COUNT : Fld := Fld.mk .TM_CNT 0 32
def TM_TOP.TOP : Fld := Fld.mk .TM_TOP 0 32
def TM_STAT.WRAPF : Fld := Fld.mk .TM_STAT 31 1
def TM_STAT.TOPPEND : Fld := Fld.mk .TM_STAT 16 1
def TM_STAT.OUT : Fld := Fld.mk .TM_STAT 8 4
def TM_STAT.OVRF : Fld := Fld.mk .TM_STAT 4 4
def TM_STAT.EVF : Fld := Fld.mk .TM_STAT 0 4
def TM_CHSEL.CFGERR : Fld := Fld.mk .TM_CHSEL 31 1
def TM_CHSEL.TIMER : Fld := Fld.mk .TM_CHSEL 4 4
def TM_CHSEL.CHAN : Fld := Fld.mk .TM_CHSEL 0 2
def TM_CHCFG.IE : Fld := Fld.mk .TM_CHCFG 31 1
def TM_CHCFG.OINIT : Fld := Fld.mk .TM_CHCFG 8 1
def TM_CHCFG.EDGE : Fld := Fld.mk .TM_CHCFG 6 2
def TM_CHCFG.WACT : Fld := Fld.mk .TM_CHCFG 4 2
def TM_CHCFG.MACT : Fld := Fld.mk .TM_CHCFG 2 2
def TM_CHCFG.MODE : Fld := Fld.mk .TM_CHCFG 0 2
def TM_CHVAL.VALUE : Fld := Fld.mk .TM_CHVAL 0 32
def TIO_AUX.FUNC : Fld := Fld.mk .TIO_AUX 29 3
def TIO_AUX.POL : Fld := Fld.mk .TIO_AUX 28 1
def TIO_AUX.SEL : Fld := Fld.mk .TIO_AUX 24 4
def TIO_AUX.TM : Fld := Fld.mk .TIO_AUX 20 4
def TIO_AUX.CHAN : Fld := Fld.mk .TIO_AUX 18 2
def TIO_AUX.LMODE : Fld := Fld.mk .TIO_AUX 16 2
def TIO_AUX.ECO : Fld := Fld.mk .TIO_AUX 8 1
def TIO_AUX.ECODLY : Fld := Fld.mk .TIO_AUX 0 8
def TIO_OUT.OUT : Fld := Fld.mk .TIO_OUT 0 8
def TIO_IN.IN : Fld := Fld.mk .TIO_IN 0 8
def FAN_CTRL.MODE : Fld := Fld.mk .FAN_CTRL 30 2
def FAN_CTRL.SRC : Fld := Fld.mk .FAN_CTRL 29 1
def FAN_CTRL.TM : Fld := Fld.mk .FAN_CTRL 24 4
def FAN_CTRL.CHAN : Fld := Fld.mk .FAN_CTRL 22 2
def FAN_CTRL.PPR : Fld := Fld.mk .FAN_CTRL 20 2
def FAN_CTRL.DMIN : Fld := Fld.mk .FAN_CTRL 10 10
def FAN_CTRL.DUTY : Fld := Fld.mk .FAN_CTRL 0 10
def FAN_CURVE.TSEL : Fld := Fld.mk .FAN_CURVE 16 16
def FAN_CURVE.THI : Fld := Fld.mk .FAN_CURVE 8 8
def FAN_CURVE.TLO : Fld := Fld.mk .FAN_CURVE 0 8
def FAN_TACH.RPM : Fld := Fld.mk .FAN_TACH 16 16
def FAN_TACH.IFAN : Fld := Fld.mk .FAN_TACH 0 16
def FAN_STAT.BLOCKF : Fld := Fld.mk .FAN_STAT 31 1
def FAN_STAT.TLOSTF : Fld := Fld.mk .FAN_STAT 30 1
def FAN_STAT.KICKF : Fld := Fld.mk .FAN_STAT 29 1
def FAN_STAT.DOUT : Fld := Fld.mk .FAN_STAT 16 10
def FAN_STAT.KICKS : Fld := Fld.mk .FAN_STAT 4 2
def FAN_STAT.STATE : Fld := Fld.mk .FAN_STAT 0 3
def FAN_DERATE.DERATE : Fld := Fld.mk .FAN_DERATE 0 7
def FAN_IGAIN.IGAIN : Fld := Fld.mk .FAN_IGAIN 0 16
def FAN_IBAND.IHI : Fld := Fld.mk .FAN_IBAND 16 16
def FAN_IBAND.ILO : Fld := Fld.mk .FAN_IBAND 0 16
def FM_CTRL.DACRET : Fld := Fld.mk .FM_CTRL 1 1
def FM_CTRL.TKEN : Fld := Fld.mk .FM_CTRL 0 1
def FM_STATUS.CLRERR : Fld := Fld.mk .FM_STATUS 7 1
def FM_STATUS.SUPPERM : Fld := Fld.mk .FM_STATUS 6 1
def FM_STATUS.SUPWDT : Fld := Fld.mk .FM_STATUS 5 1
def FM_STATUS.UNBRAID : Fld := Fld.mk .FM_STATUS 4 1
def FM_STATUS.NOSPARE : Fld := Fld.mk .FM_STATUS 3 1
def FM_STATUS.TAKEOVER : Fld := Fld.mk .FM_STATUS 2 1
def FM_STATUS.PERM : Fld := Fld.mk .FM_STATUS 1 1
def FM_STATUS.TRANS : Fld := Fld.mk .FM_STATUS 0 1
def FM_CMD.TAG : Fld := Fld.mk .FM_CMD 28 4
def FM_CMD.CMD : Fld := Fld.mk .FM_CMD 24 4
def FM_CMD.ELEM : Fld := Fld.mk .FM_CMD 0 6
def FM_RETP_LO.RET : Fld := Fld.mk .FM_RETP_LO 0 32
def FM_RETP_HI.RET : Fld := Fld.mk .FM_RETP_HI 0 32
def FM_RETS.RET : Fld := Fld.mk .FM_RETS 0 32
def FM_CNT.PERMCNT : Fld := Fld.mk .FM_CNT 16 16
def FM_CNT.TRANSCNT : Fld := Fld.mk .FM_CNT 0 16
def FM_RSTC.WAKE : Fld := Fld.mk .FM_RSTC 6 1
def FM_RSTC.PIN : Fld := Fld.mk .FM_RSTC 5 1
def FM_RSTC.CLK : Fld := Fld.mk .FM_RSTC 4 1
def FM_RSTC.VCORE : Fld := Fld.mk .FM_RSTC 3 1
def FM_RSTC.V5 : Fld := Fld.mk .FM_RSTC 2 1
def FM_RSTC.VIN : Fld := Fld.mk .FM_RSTC 1 1
def FM_RSTC.POR : Fld := Fld.mk .FM_RSTC 0 1
def BR_STAT.MISF : Fld := Fld.mk .BR_STAT 31 1
def BR_STAT.PERMF : Fld := Fld.mk .BR_STAT 30 1
def BR_STAT.MISCNT : Fld := Fld.mk .BR_STAT 16 8
def BR_STAT.RAIL : Fld := Fld.mk .BR_STAT 0 4
def MS_SEL.RAIL : Fld := Fld.mk .MS_SEL 0 4
def MS_CFG.MA : Fld := Fld.mk .MS_CFG 16 16
def MS_CFG.MB : Fld := Fld.mk .MS_CFG 0 16
def MS_LIM.MR : Fld := Fld.mk .MS_LIM 16 16
def MS_LIM.RLIM : Fld := Fld.mk .MS_LIM 8 8
def MS_LIM.MCNT64 : Fld := Fld.mk .MS_LIM 2 6
def MS_LIM.FBKACT : Fld := Fld.mk .MS_LIM 1 1
def MS_LIM.EN : Fld := Fld.mk .MS_LIM 0 1
def MS_STAT.DISF : Fld := Fld.mk .MS_STAT 31 1
def MS_STAT.COUNT : Fld := Fld.mk .MS_STAT 16 12
def MS_STAT.LASTRES : Fld := Fld.mk .MS_STAT 0 16
def LB_CTRL.TAG : Fld := Fld.mk .LB_CTRL 28 4
def LB_CTRL.CMD : Fld := Fld.mk .LB_CTRL 24 4
def LB_STATUS.NOREC : Fld := Fld.mk .LB_STATUS 31 1
def LB_STATUS.LOSTF : Fld := Fld.mk .LB_STATUS 30 1
def LB_STATUS.QLEN : Fld := Fld.mk .LB_STATUS 24 6
def LB_STATUS.LOST : Fld := Fld.mk .LB_STATUS 20 4
def LB_STATUS.SUPP : Fld := Fld.mk .LB_STATUS 13 7
def LB_STATUS.COUNT : Fld := Fld.mk .LB_STATUS 0 13
def LB_SEL.SEQ : Fld := Fld.mk .LB_SEL 0 32
def LB_NEWEST.SEQ : Fld := Fld.mk .LB_NEWEST 0 32
def LB_DATA.DATA : Fld := Fld.mk .LB_DATA 0 32
def TR_CTRL.ALL : Fld := Fld.mk .TR_CTRL 12 1
def TR_CTRL.EN : Fld := Fld.mk .TR_CTRL 0 12
def TR_CMD.TAG : Fld := Fld.mk .TR_CMD 28 4
def TR_CMD.CMD : Fld := Fld.mk .TR_CMD 24 4
def TR_CMD.MASK : Fld := Fld.mk .TR_CMD 0 12
def TR_TRIG.POST : Fld := Fld.mk .TR_TRIG 16 12
def TR_TRIG.TM1 : Fld := Fld.mk .TR_TRIG 6 1
def TR_TRIG.TM0 : Fld := Fld.mk .TR_TRIG 5 1
def TR_TRIG.PHF : Fld := Fld.mk .TR_TRIG 4 1
def TR_TRIG.TRESP : Fld := Fld.mk .TR_TRIG 3 1
def TR_TRIG.MISS : Fld := Fld.mk .TR_TRIG 2 1
def TR_TRIG.MODEL : Fld := Fld.mk .TR_TRIG 1 1
def TR_TRIG.FAULT : Fld := Fld.mk .TR_TRIG 0 1
def TR_STATUS.FRZF : Fld := Fld.mk .TR_STATUS 31 1
def TR_STATUS.SRC : Fld := Fld.mk .TR_STATUS 12 4
def TR_STATUS.FROZEN : Fld := Fld.mk .TR_STATUS 0 12
def TR_PAGE.PAGE : Fld := Fld.mk .TR_PAGE 0 6
def TR_FRZE_HI.TICK : Fld := Fld.mk .TR_FRZE_HI 16 12
def TR_FRZE_HI.EPOCH_H : Fld := Fld.mk .TR_FRZE_HI 0 16
def TR_FRZE_LO.EPOCH_L : Fld := Fld.mk .TR_FRZE_LO 0 32
def RP_CTRL.TAG : Fld := Fld.mk .RP_CTRL 28 4
def RP_CTRL.CMD : Fld := Fld.mk .RP_CTRL 24 4
def RP_CTRL.STRAND : Fld := Fld.mk .RP_CTRL 19 5
def RP_CTRL.RAIL : Fld := Fld.mk .RP_CTRL 15 4
def RP_CTRL.CKPT : Fld := Fld.mk .RP_CTRL 13 2
def RP_CTRL.CFGSRC : Fld := Fld.mk .RP_CTRL 12 1
def RP_CTRL.COUNT : Fld := Fld.mk .RP_CTRL 0 12
def RP_STATUS.DONEF : Fld := Fld.mk .RP_STATUS 31 1
def RP_STATUS.STATE : Fld := Fld.mk .RP_STATUS 28 3
def RP_STATUS.CODE : Fld := Fld.mk .RP_STATUS 24 4
def RP_STATUS.NRUN : Fld := Fld.mk .RP_STATUS 12 12
def RP_STATUS.FIRST : Fld := Fld.mk .RP_STATUS 0 12
def RP_DREC.D : Fld := Fld.mk .RP_DREC 0 20
def RP_DREP.SONLY : Fld := Fld.mk .RP_DREP 31 1
def RP_DREP.D : Fld := Fld.mk .RP_DREP 0 20
def DBG_CMD.TAG : Fld := Fld.mk .DBG_CMD 28 4
def DBG_CMD.CMD : Fld := Fld.mk .DBG_CMD 24 4
def DBG_STATUS.BLOCK : Fld := Fld.mk .DBG_STATUS 4 1
def DBG_STATUS.FAILCNT : Fld := Fld.mk .DBG_STATUS 2 2
def DBG_STATUS.LEVEL : Fld := Fld.mk .DBG_STATUS 0 2
def DBG_CHAL_HI.CHAL : Fld := Fld.mk .DBG_CHAL_HI 0 32
def DBG_CHAL_LO.CHAL : Fld := Fld.mk .DBG_CHAL_LO 0 32
def FU_BUF.DATA : Fld := Fld.mk .FU_BUF 0 32
def RG_CTRL.SIGREQ : Fld := Fld.mk .RG_CTRL 1 1
def RG_CTRL.SCRUBEN : Fld := Fld.mk .RG_CTRL 0 1
def RG_CMD.TAG : Fld := Fld.mk .RG_CMD 28 4
def RG_CMD.CMD : Fld := Fld.mk .RG_CMD 0 4
def RG_STATUS.DETAIL : Fld := Fld.mk .RG_STATUS 16 12
def RG_STATUS.CODE : Fld := Fld.mk .RG_STATUS 8 8
def RG_STATUS.NOACT : Fld := Fld.mk .RG_STATUS 3 1
def RG_STATUS.STATE : Fld := Fld.mk .RG_STATUS 0 3
def RG_EVENT.SHDBE : Fld := Fld.mk .RG_EVENT 6 1
def RG_EVENT.DBE : Fld := Fld.mk .RG_EVENT 5 1
def RG_EVENT.CORR : Fld := Fld.mk .RG_EVENT 4 1
def RG_EVENT.WERR : Fld := Fld.mk .RG_EVENT 3 1
def RG_EVENT.SWAPPED : Fld := Fld.mk .RG_EVENT 2 1
def RG_EVENT.REFUSED : Fld := Fld.mk .RG_EVENT 1 1
def RG_EVENT.DONE : Fld := Fld.mk .RG_EVENT 0 1
def RG_PAGE.PAGE : Fld := Fld.mk .RG_PAGE 0 4
def RG_SLEN.SLEN : Fld := Fld.mk .RG_SLEN 0 19
def RG_SWAPE_HI.EPOCH_H : Fld := Fld.mk .RG_SWAPE_HI 0 16
def RG_SWAPE_LO.EPOCH_L : Fld := Fld.mk .RG_SWAPE_LO 0 32
def RG_LASTE_HI.EPOCH_H : Fld := Fld.mk .RG_LASTE_HI 0 16
def RG_LASTE_LO.EPOCH_L : Fld := Fld.mk .RG_LASTE_LO 0 32
def RG_AID.ID : Fld := Fld.mk .RG_AID 0 32
def RG_SID.ID : Fld := Fld.mk .RG_SID 0 32
def RG_ACRC.VALUE : Fld := Fld.mk .RG_ACRC 0 32
def RG_ASEQ.VALUE : Fld := Fld.mk .RG_ASEQ 0 32
def RG_SCRUB.PASS : Fld := Fld.mk .RG_SCRUB 16 16
def RG_SCRUB.CORR : Fld := Fld.mk .RG_SCRUB 0 16
def SV_STATUS.STATE : Fld := Fld.mk .SV_STATUS 24 2
def SV_STATUS.SETAPPL : Fld := Fld.mk .SV_STATUS 17 1
def SV_STATUS.SLOT : Fld := Fld.mk .SV_STATUS 16 1
def SV_STATUS.HALFCNT : Fld := Fld.mk .SV_STATUS 8 8
def SV_STATUS.BOOTCODE : Fld := Fld.mk .SV_STATUS 0 8
def SV_EVENT.SETDISC : Fld := Fld.mk .SV_EVENT 7 1
def SV_EVENT.HALFERASE : Fld := Fld.mk .SV_EVENT 6 1
def SV_EVENT.FALLBACK : Fld := Fld.mk .SV_EVENT 5 1
def SV_EVENT.COMMITTED : Fld := Fld.mk .SV_EVENT 4 1
def SV_EVENT.ROLLEDBACK : Fld := Fld.mk .SV_EVENT 3 1
def SV_EVENT.TRIAL : Fld := Fld.mk .SV_EVENT 2 1
def SV_EVENT.REFUSED : Fld := Fld.mk .SV_EVENT 1 1
def SV_EVENT.DONE : Fld := Fld.mk .SV_EVENT 0 1
def FU_CMD.TAG : Fld := Fld.mk .FU_CMD 28 4
def FU_CMD.CMD : Fld := Fld.mk .FU_CMD 24 4
def FU_CMD.ARG : Fld := Fld.mk .FU_CMD 0 24
def FU_STATUS.BUSY : Fld := Fld.mk .FU_STATUS 31 1
def FU_STATUS.ACTPEND : Fld := Fld.mk .FU_STATUS 30 1
def FU_STATUS.TRIAL : Fld := Fld.mk .FU_STATUS 29 1
def FU_STATUS.OPEN : Fld := Fld.mk .FU_STATUS 28 1
def FU_STATUS.CODE : Fld := Fld.mk .FU_STATUS 4 8
def FU_STATUS.LASTCMD : Fld := Fld.mk .FU_STATUS 0 4
def FU_OFS.OFS : Fld := Fld.mk .FU_OFS 0 21
def FU_ACTE_HI.EPOCH_H : Fld := Fld.mk .FU_ACTE_HI 0 16
def FU_ACTE_LO.EPOCH_L : Fld := Fld.mk .FU_ACTE_LO 0 32
def FU_ISEL.SEL : Fld := Fld.mk .FU_ISEL 0 3
def FU_INFO0.STATE : Fld := Fld.mk .FU_INFO0 24 8
def FU_INFO0.CLVL : Fld := Fld.mk .FU_INFO0 16 8
def FU_INFO0.CMIN : Fld := Fld.mk .FU_INFO0 8 8
def FU_INFO0.SETFMT : Fld := Fld.mk .FU_INFO0 0 8
def FU_INFO1.ID : Fld := Fld.mk .FU_INFO1 0 32
def FU_INFO2.SEQ : Fld := Fld.mk .FU_INFO2 0 32
def SJ_STATUS.SETFMT : Fld := Fld.mk .SJ_STATUS 24 8
def SJ_STATUS.FREE : Fld := Fld.mk .SJ_STATUS 16 8
def SJ_STATUS.LIVE : Fld := Fld.mk .SJ_STATUS 0 16
def LC_SEL.IDX : Fld := Fld.mk .LC_SEL 0 6
def LC_VAL_HI.VALUE : Fld := Fld.mk .LC_VAL_HI 0 32
def LC_VAL_LO.VALUE : Fld := Fld.mk .LC_VAL_LO 0 32
def KEY_STAT.PECLK : Fld := Fld.mk .KEY_STAT 25 1
def KEY_STAT.SIGLK : Fld := Fld.mk .KEY_STAT 24 1
def KEY_STAT.FKEY : Fld := Fld.mk .KEY_STAT 16 4
def KEY_STAT.DKEY : Fld := Fld.mk .KEY_STAT 8 8
def KEY_STAT.IKEY : Fld := Fld.mk .KEY_STAT 0 8

/-- Registers 0 to 31, in address order. -/
def regList0 : List Reg :=
  [Reg.GLB_ID, Reg.GLB_STATUS, Reg.GLB_CTRL, Reg.ALR_SUM, Reg.ALR_MASK, Reg.ALR_EVT, Reg.ALR_RAIL, Reg.ALR_PHLO, Reg.ALR_PHHI, Reg.ALR_ST, Reg.HB_CTRL, Reg.HB_STATUS, Reg.HB_ADDR, Reg.HB_CNT, Reg.HB_ARA, Reg.TB_CTRL, Reg.TB_STATUS, Reg.TB_SYNC, Reg.TB_SPHASE, Reg.TB_EPOCH_HI, Reg.TB_EPOCH_LO, Reg.TB_MCNT, Reg.TB_XCNT, Reg.TB_RSMP, Reg.TB_RSLK, Reg.LY_CTRL, Reg.LY_STATUS, Reg.LY_EVENT, Reg.LY_HOPD, Reg.LY_TOFS, Reg.LY_ERRC, Reg.LY_ACT]

/-- Registers 32 to 63, in address order. -/
def regList1 : List Reg :=
  [Reg.LY_ACTE_HI, Reg.LY_ACTE_LO, Reg.LY_ACTOK_HI, Reg.LY_ACTOK_LO, Reg.LY_ACTNO_HI, Reg.LY_ACTNO_LO, Reg.LY_GSEL, Reg.LY_GSTAT, Reg.LY_GCMD, Reg.LY_GTOT, Reg.LY_GPWR, Reg.RL_CTRL, Reg.RL_STATUS, Reg.RL_TDLY, Reg.RL_TCON, Reg.RL_RAMP, Reg.RL_TMO, Reg.RL_VOC, Reg.RL_SCNT, Reg.RL_VTGT, Reg.RL_ITGT, Reg.RL_VSLEW, Reg.RL_VACC, Reg.RL_VJERK, Reg.RL_ISLEW, Reg.RL_IACC, Reg.RL_IJERK, Reg.RL_LCTL, Reg.RL_LSTAT, Reg.RL_DLIM, Reg.RL_FXP, Reg.RL_SEXP]

/-- Registers 64 to 95, in address order. -/
def regList2 : List Reg :=
  [Reg.RL_DUTY, Reg.RL_LCNT, Reg.RL_MCTL, Reg.RL_MDUTY, Reg.RL_MANI, Reg.RL_FCTL, Reg.RL_PSET, Reg.RL_PISET, Reg.RL_ATCTL, Reg.RL_ATRES, Reg.RL_PMCTL, Reg.RL_PMSTAT, Reg.RL_PMROT, Reg.RL_PMBAL, Reg.RL_TRCTL, Reg.RL_TRTHR, Reg.RL_TRSTAT, Reg.RL_REVS, Reg.RL_TCTL, Reg.RL_VAVG, Reg.RL_IAVG, Reg.RL_PAVG, Reg.RL_EFWD_HI, Reg.RL_EFWD_LO, Reg.RL_EREV_HI, Reg.RL_EREV_LO, Reg.LK_CTRL, Reg.LK_STATUS, Reg.LK_EVENT, Reg.LK_ERRC, Reg.LK_ID_HI, Reg.LK_ID_LO]

/-- Registers 96 to 127, in address order. -/
def regList3 : List Reg :=
  [Reg.LK_PINFO, Reg.LK_PTEMP, Reg.RL_OV, Reg.RL_UV, Reg.RL_IBUD, Reg.RL_PRIO, Reg.RL_OVL, Reg.RL_TWF, Reg.RL_TWR, Reg.RL_PSTAT, Reg.PH_PCFG, Reg.PH_GUARD, Reg.PH_OVR, Reg.PH_DTOVR, Reg.PH_PSTAT, Reg.PH_PDUTY, Reg.PH_PPER, Reg.PH_PEVT, Reg.PH_ICAL, Reg.PH_IRAW, Reg.PH_ITEL, Reg.PH_ISTAT, Reg.PH_MSTAT, Reg.PH_WEAR, Reg.PH_FCNT, Reg.PH_BTRIM, Reg.ST_CFG, Reg.ST_FLAG, Reg.ST_CNT, Reg.ST_TEST, Reg.CV_CTRL, Reg.CV_STATUS]

/-- Registers 128 to 159, in address order. -/
def regList4 : List Reg :=
  [Reg.CV_VBDIV, Reg.CV_SCRUB, Reg.CV_CALSEL, Reg.CV_CALDATA, Reg.CV_CHSEL, Reg.CV_CHDATA, Reg.CV_VBUS, Reg.CV_VIN, Reg.CV_VINT, Reg.CV_TRIG, Reg.CV_TRES0, Reg.CV_TRES1, Reg.CV_SNS, Reg.CV_TRIM, Reg.CV_PKMAX, Reg.CV_PKMIN, Reg.CMP_SEL, Reg.CMP_THR, Reg.CMP_CONS, Reg.CMP_STATUS, Reg.CMP_ABOVE, Reg.CMP_BELOW, Reg.PR_PBUDGET, Reg.PR_VBOV, Reg.PR_VBUV, Reg.PR_START, Reg.PR_STATUS, Reg.PR_PDEV, Reg.PR_PPLAN, Reg.PR_QSTAT, Reg.TH_SEL, Reg.TH_CFG]

/-- Registers 160 to 191, in address order. -/
def regList5 : List Reg :=
  [Reg.TH_PAR1, Reg.TH_PAR2, Reg.TH_PAR3, Reg.TH_STATUS, Reg.TH_DIE, Reg.TH_TEMP, Reg.TM_CTRL, Reg.TM_CNT, Reg.TM_TOP, Reg.TM_STAT, Reg.TM_CHSEL, Reg.TM_CHCFG, Reg.TM_CHVAL, Reg.TIO_AUX, Reg.TIO_OUT, Reg.TIO_IN, Reg.FAN_CTRL, Reg.FAN_CURVE, Reg.FAN_TACH, Reg.FAN_STAT, Reg.FAN_DERATE, Reg.FAN_IGAIN, Reg.FAN_IBAND, Reg.FM_CTRL, Reg.FM_STATUS, Reg.FM_CMD, Reg.FM_RETP_LO, Reg.FM_RETP_HI, Reg.FM_RETS, Reg.FM_CNT, Reg.FM_RSTC, Reg.BR_STAT]

/-- Registers 192 to 223, in address order. -/
def regList6 : List Reg :=
  [Reg.MS_SEL, Reg.MS_CFG, Reg.MS_LIM, Reg.MS_STAT, Reg.LB_CTRL, Reg.LB_STATUS, Reg.LB_SEL, Reg.LB_NEWEST, Reg.LB_DATA, Reg.TR_CTRL, Reg.TR_CMD, Reg.TR_TRIG, Reg.TR_STATUS, Reg.TR_PAGE, Reg.TR_FRZE_HI, Reg.TR_FRZE_LO, Reg.RP_CTRL, Reg.RP_STATUS, Reg.RP_DREC, Reg.RP_DREP, Reg.DBG_CMD, Reg.DBG_STATUS, Reg.DBG_CHAL_HI, Reg.DBG_CHAL_LO, Reg.FU_BUF, Reg.RG_CTRL, Reg.RG_CMD, Reg.RG_STATUS, Reg.RG_EVENT, Reg.RG_PAGE, Reg.RG_SLEN, Reg.RG_SWAPE_HI]

/-- Registers 224 to 247, in address order. -/
def regList7 : List Reg :=
  [Reg.RG_SWAPE_LO, Reg.RG_LASTE_HI, Reg.RG_LASTE_LO, Reg.RG_AID, Reg.RG_SID, Reg.RG_ACRC, Reg.RG_ASEQ, Reg.RG_SCRUB, Reg.SV_STATUS, Reg.SV_EVENT, Reg.FU_CMD, Reg.FU_STATUS, Reg.FU_OFS, Reg.FU_ACTE_HI, Reg.FU_ACTE_LO, Reg.FU_ISEL, Reg.FU_INFO0, Reg.FU_INFO1, Reg.FU_INFO2, Reg.SJ_STATUS, Reg.LC_SEL, Reg.LC_VAL_HI, Reg.LC_VAL_LO, Reg.KEY_STAT]

/-- Every register, in address order. -/
def allRegs : List Reg :=
  List.flatten [regList0, regList1, regList2, regList3, regList4, regList5, regList6, regList7]

end Sys2Proof.Machine
end

