-- ==== Sys2Proof/Machine/Parts.lean ====
section
/-! DEFINITION. Machine/Parts.lean: the parts of the state that no register shows, block by block. What a register
shows is held in the register file alone. Times are in ticks since reset release unless a field says taps. -/
namespace Sys2Proof.Machine

/-- The loop modes of the MODE field (Table 4-1): 0 CV, 1 CC, 2 manual current, 3 manual duty. -/
inductive LoopMode where
  | cv | cc | manI | manD
deriving DecidableEq, Repr

/-- The state of a phase engine's output before INV and SWAP (Table 6-9): 0 LS, 1 HS, 2 both-off. -/
inductive Out where
  | ls | hs | off
deriving DecidableEq, Repr

/-- The level of a window comparator (R229). -/
inductive Level where
  | above | inside | below
deriving DecidableEq, Repr

/-- The strand's input vector (Table 4-1): `e` and `ovr` are the two parts of EW. -/
structure InVec where
  e : Int := 0
  ovr : Bool := false
  isum : Int := 0
  nact : Nat := 0
  vb : Nat := 0
  vset : Nat := 0
  iset : Int := 0
  facet : Fin 8 := 0
  mode : LoopMode := .cv
  mduty : Nat := 0
  pre : Bool := false
  oof : Bool := false
  fmode : Bool := true
deriving DecidableEq, Repr

/-- The strand's state: the state words of the stages with their exponents (R107, R108), the clamp state (R117) and the
transfer words (R148). In fraction mode the words are Q15 words and the exponents the fraction exponents. -/
structure StrandState where
  frac : Bool := true
  i : Int := 0
  d : Int := 0
  eP : Nat := 7
  xp : Int := 0
  s11 : Int := 0
  s12 : Int := 0
  eB1 : Nat := 7
  s21 : Int := 0
  s22 : Int := 0
  eB2 : Nat := 7
  xh : Int := 0
  dh : Int := 0
  eO : Nat := 14
  uc : Int := 0
  eUC : Nat := 7
  clampH : Bool := false
  clampL : Bool := false
  dp : Nat := 0
  vrp : Nat := 0
  lrp : Nat := 0
  xvp : Int := 0
  xip : Int := 0
deriving DecidableEq, Repr

/-- The saturation flags of ST_FLAG bits 10 to 0 (Table 4-4). -/
structure SatFlags where
  accP : Bool := false
  narP : Bool := false
  accB1 : Bool := false
  narB1 : Bool := false
  accB2 : Bool := false
  narB2 : Bool := false
  accO : Bool := false
  narO : Bool := false
  accF : Bool := false
  narF : Bool := false
  conv : Bool := false
deriving DecidableEq, Repr

/-- Everything besides state and input vector that a duty depends on (R106), as it stands at the sample instant. -/
structure StrandPar where
  loop : LoopE := {}
  coef : Vector Word 19 := Vector.replicate 19 0
  tables : TablesE := {}
  cslsb : Nat := 0
  dmin : Nat := 0
  dmax : Nat := 0xF333
  awen : Bool := true
  oofen : Bool := true
  fxP : Nat := 7
  fxB1 : Nat := 7
  fxB2 : Nat := 7
  fxO : Nat := 14
deriving DecidableEq, Repr

/-- The configuration that a sample depends on (R106) and that a freeze copies (R269): the sections of the active set and
the words of RL_DLIM, RL_LCTL and RL_FXP. -/
structure FrozenCfg where
  loop : LoopE := {}
  facets : Vector FacetE 8 := Vector.replicate 8 {}
  tables : TablesE := {}
  cslsb : Nat := 0
  dlim : Word := 0
  lctl : Word := 0
  fxp : Word := 0
deriving DecidableEq, Repr

/-- A sample of a rail from its instant until its trace record is written: `at_` is its instant, `first` marks the first
sample of PREMATCH (R126), `conv` that its coefficients are converted (R127), `mark` that a checkpoint precedes it (R268),
`missed` that its duty-latch instant has passed, the rest is what the trace records beside the vector (Table 9-6). -/
structure Sample where
  at_ : Nat
  vec : InVec
  par : StrandPar
  first : Bool := false
  conv : Bool := false
  mark : Bool := false
  missed : Bool := false
  blk : Bool := false
  pchg : Bool := false
  trig : Bool := false
  bmis : Bool := false
  res : Int := 0
deriving DecidableEq, Repr

/-- A sample whose duty has been computed and that waits for its duty-latch instant (R23): the computed duty and
signature, and whether the duty comes into force. -/
structure DoneSample where
  sample : Sample
  duty : Nat
  ssig : Nat
  inForce : Bool := false
deriving DecidableEq, Repr

/-- The loop of a rail (chapter 4): the agreed strand state (a braid's checkpoint, R248), samples taken and not yet
computed (the catch-up buffer of R251 among them), samples computed whose duty-latch instant is still to come, the duty
that DETLATCH holds back, samples since PREMATCH entry, a re-run or takeover in progress with the claimed strands, the old
ones and those of them that differed (R253), the instant and the configuration of the latest sample, whether a swap
has come since, and whether a takeover has left the rail to a single strand (R251). -/
structure LoopX where
  st : StrandState := {}
  jobs : List Sample := []
  started : Bool := false
  done : List DoneSample := []
  waiting : Option Nat := none
  count : Nat := 0
  rerun : Bool := false
  takeover : Bool := false
  claimed : List (Fin 32) := []
  oldStrands : List (Fin 32) := []
  suspect : List (Fin 32) := []
  lastAt : Option Nat := none
  lastCfg : Option FrozenCfg := none
  swapped : Bool := false
  unbraided : Bool := false
deriving DecidableEq, Repr

/-- The rail error converter (§3.2) and the model's memory of the sample before: the word last delivered, whether it was a
blanking repeat, whether any word has been delivered since the converter powered up, the rail state of that sample (R195),
whether it lay clear of everything that R259 names, whether it exceeded, and the OOF of the next sample (R260). -/
structure ErrConv where
  e : Int := 0
  ovr : Bool := false
  blanked : Bool := false
  fresh : Bool := false
  st : Nat := 0
  clean : Bool := false
  exceed : Bool := false
  oof : Bool := false
deriving DecidableEq, Repr

/-- One segment of a profile plan: constant jerk for a time in ms. -/
structure Seg where
  jerk : Rat
  dur : Rat
deriving DecidableEq, Repr

/-- A profile generator (§5.1): ideal position, velocity and acceleration at the last step, in mV or mA and ms, the plan
that remains, the target and limits it was planned for, the time left of a behind plan's brake, and the value computed
at the last step with the tick at which it comes into force (R137). -/
structure Gen where
  p : Rat := 0
  v : Rat := 0
  a : Rat := 0
  plan : List Seg := []
  target : Rat := 0
  vmax : Nat := 1000
  amax : Nat := 1000
  jmax : Nat := 1000
  planned : Bool := false
  back : Rat := 0
  next : Option (Nat × Int) := none
deriving DecidableEq, Repr

/-- A relay auto-tune in progress (R156, R157): D0, the relay's side, the tick from which samples run it, the latest
low-to-high switch, the full cycles since the first one, the measured periods, the least and largest E over the measured
cycles, and the samples since the latest switch. -/
structure Tune where
  d0 : Nat
  high : Bool := true
  fromTick : Nat
  cycles : Nat := 0
  lastUp : Option Nat := none
  periods : List Nat := []
  eMin : Int := 0
  eMax : Int := 0
  seen : Bool := false
  idle : Nat := 0
deriving DecidableEq, Repr

/-- Set-points, loop mode and facet of a rail (chapter 5). `cc` says that automatic operation runs in CC, `xcnt` is the
transfer count (R146), `last` the MODE of the latest sample, `preAt` the tick from which the next sample carries a preset that
another event asked for, `facet` the facet in force, `facetNext` a decided change with the tick from which samples carry it
and whether it carries a preset and counts (R153, R154), `facetFirst` that the choice of R153 is made, `exits` the exit count,
and the sums form the operating point (R151). -/
structure ModeX where
  vgen : Gen := {}
  igen : Gen := {}
  cc : Bool := false
  xcnt : Nat := 0
  last : Option LoopMode := none
  preAt : Option Nat := none
  facet : Fin 8 := 0
  facetNext : Option (Nat × Fin 8 × Bool) := none
  facetFirst : Bool := false
  exits : Nat := 0
  isSum : Int := 0
  isCnt : Nat := 0
  lastVb : Nat := 0
  tune : Option Tune := none
  faultMode : Nat := 0
deriving DecidableEq, Repr

/-- The carrier of a rail (§6.2), in taps: the tick from which a bell boundary starts it, and, once it runs, the period whose
length's successor was fixed last: its index, start and length, the length of the one before and of the one after, with the
switching frequency of the facet in force for the rail's samples (R175). That period starts up to 16 ticks later (R162). -/
structure CarrierX where
  waiting : Option Nat := none
  running : Bool := false
  k : Nat := 0
  ck : Nat := 0
  pprev : Nat := 0
  fsw : Nat := 0
  pk : Nat := 0
  pnext : Nat := 0
deriving DecidableEq, Repr

/-- The lifecycle of a rail beside RL_STATUS (chapter 8): tick of entry to the state, since when the start condition holds, arrival in the
queue and whether its age has run out, tick at which CONTn is driven, the tick at which the drive decided last reaches CONTn and the drive
before it (R212), tick of PREMATCH entry, profile steps in CLOSE and an over-range seen there, the run of matching frames, the stop
request in force, the ramp cap in units of 10 mA, the run of low-current steps in RAMPDOWN, the causes that arose in this FAULT, the ticks
of the entries to FAULT that count (R228), whether the fault is permanent, whether the over-voltage was one of VLOC, whether no strand is
left to start with (R253), and NACT as the choice at PREMATCH made it (R86). -/
structure LifeX where
  entry : Nat := 0
  condSince : Option Nat := none
  arrival : Option Nat := none
  aged : Bool := false
  contAt : Option Nat := none
  contEdge : Nat := 0
  contWas : Bool := false
  preTick : Nat := 0
  closeSteps : Nat := 0
  closeOvr : Bool := false
  matchRun : Nat := 0
  stopReq : Option Nat := none
  budgetOff : Bool := false
  ramp : Rat := 0
  lowRun : Nat := 0
  causes : List Nat := []
  counted : List Nat := []
  permanent : Bool := false
  ovLoc : Bool := false
  noStrand : Bool := false
  offNact : Nat := 0
deriving DecidableEq, Repr

/-- Protection of a rail (§8.6 to §8.8): overload accumulator, runs of frames beyond the limits, temperature window runs
and the budget cap's follower. -/
structure ProtX where
  q : Nat := 0
  ovRun : Nat := 0
  uvRun : Nat := 0
  okF : Nat := 0
  okR : Nat := 0
  demand : Nat := 0
deriving DecidableEq, Repr

/-- What waits for its tick at a rail: of the transient responder an all-on or an all-off, the end of either, and at a follower the begin
and the end of its lead's all-off (R198, R200); a cause of FAULT that arose at a tick at which the rail had left OFF (R213); and the look
at a rail whose last phase is held from that tick on (R202, R205). -/
inductive RespKind where
  | on | off | onEnd | offEnd | leadOff | leadEnd | cause | phases
deriving DecidableEq, Repr

/-- A request of the responder that waits for its tick (R198): the tick, what it asks, CAUSE, and the cause of the FAULT that an
all-off with release of the contactor brings. -/
structure RespReq where
  at_ : Nat
  kind : RespKind
  cause : Nat := 0
  fault : Option Nat := none
deriving DecidableEq, Repr

/-- The phase manager and the responder of a rail (chapter 7): the counts of R185 and R186, the rotation timer in bells, the
phase that a rotation has added with its first HS edge, as a carrier period and the taps into it (R189), whether every shed phase is to be
added (R205), whether the present balancing interval is discarded (R193), the responder's requests that wait for their tick, oldest first
(R198), the request tick of the responder action in force, the ending sample of the last all-on (R197), and the run of R207. -/
structure ManX where
  shedCnt : Nat := 0
  addCnt : Nat := 0
  rotBell : Nat := 0
  rotPh : Option (Fin 48 × Option (Nat × Nat)) := none
  readd : Bool := false
  discard : Bool := false
  reqs : List RespReq := []
  respAt : Nat := 0
  ended : Option Nat := none
  revRun : Nat := 0
deriving DecidableEq, Repr

/-- Rail telemetry (§3.8): the two VRAIL readings of the frame, the VLOC reading, the corrected codes of the frame's second VRAIL and of
its VLOC, each with the REFCODE of its conversion (R96), sums over the frame and over the averaging window, energy residues and the peaks'
valid mark, a change of the error input with its tick (R82, R83), since when the condition of R83 has held and since when the armed
detector has seen its contrary (R81), and the sums of the current
triggers, newest first, with tick, sum and NACT (R86). -/
structure SenseX where
  vr1 : Nat := 0
  vr2 : Nat := 0
  vloc : Nat := 0
  trimR : Nat × Int := (0, 0)
  trimL : Nat × Int := (0, 0)
  isSum : Int := 0
  isCnt : Nat := 0
  ovrSeen : Bool := false
  blkCnt : Nat := 0
  vf : Nat := 0
  iF : Int := 0
  pf : Int := 0
  wV : Nat := 0
  wI : Int := 0
  wP : Int := 0
  wN : Nat := 0
  resF : Nat := 0
  resR : Nat := 0
  peaks : Bool := false
  goodSince : Option Nat := none
  badSince : Option Nat := none
  fbkAt : Option (Nat × Bool) := none
  sums : List (Nat × Int × Nat) := []
  temp : Int := 0
deriving DecidableEq, Repr

/-- Everything of a rail that no register shows. -/
structure RailX where
  loop : LoopX := {}
  err : ErrConv := {}
  mode : ModeX := {}
  carrier : CarrierX := {}
  life : LifeX := {}
  prot : ProtX := {}
  man : ManX := {}
  sense : SenseX := {}
deriving DecidableEq, Repr
/-- A phase engine, its manager's record and its converter (chapters 6, 7 and §3.4). Edges, starts and ends are in taps. `due` is the
index of the carrier period whose phase start is committed next; `start`, `tr`, `tmax`, `len`, `dix` and `ton`, its on-time floor, are
those of the phase period last committed (R163, R166, R167), `dixWas` the dither index of the one before, and `pulse` says that its
falling group is still to be committed. `resume` and `lsGap` are the two cases of R174: the earliest commit tick, and the instant from
which LS has stood. `endAt` is the end of an HS that an all-on has left and that TONMIN still holds (R173). `since` is the tick from which
the present state counts and `was` the state that counts till then (R188, R202), `shedAt` the tick from which a decided shed waits for its
commit, and `shedding` says that its edge is placed. `irAt` is the tick of the latest conversion and `irOld` what PH_IRAW holds until it
completes (R84). -/
structure PhaseX where
  edges : List (Nat × Out) := []
  due : Nat := 0
  tr : Nat := 0
  tmax : Nat := 0
  len : Nat := 0
  dix : Nat := 0
  dixWas : Nat := 0
  start : Nat := 0
  ton : Nat := 32
  pulse : Bool := false
  hsStart : Nat := 0
  lastHsEnd : Nat := 0
  offSince : Nat := 0
  resume : Option Nat := none
  lsGap : Option Nat := none
  endAt : Option Nat := none
  lastTrans : Option Nat := none
  inOn : Bool := false
  killed : Bool := false
  killRun : Nat := 0
  killPer : Option Nat := none
  since : Nat := 0
  was : Nat := 0
  shedAt : Option Nat := none
  shedding : Bool := false
  holdEnd : Nat := 0
  addDue : Bool := false
  events : List Nat := []
  wear : Nat := 0
  balSum : Int := 0
  balCnt : Nat := 0
  dead : Nat := 0
  trimNext : Option (Nat × Int) := none
  fresh : Bool := false
  irAt : Nat := 0
  irOld : Word := 0
  telSum : Int := 0
  telCnt : Nat := 0
deriving DecidableEq, Repr

/-- A window comparator (§8.5): live level, the level consumers see, the end of blanking, and since when the level seen
has stood; `failed` after a DAC failure of a rail window (R255). -/
structure WinX where
  live : Level := .inside
  seen : Level := .inside
  blankTo : Nat := 0
  since : Nat := 0
  failed : Bool := false
deriving DecidableEq, Repr

/-- A strand beside its registers: the run of passes and failures of its self-tests, whether it is on probation
(R253, R256), and the tick of the last self-test's start. -/
structure StrandX where
  passRun : Nat := 0
  failRun : Nat := 0
  probation : Bool := false
  lastTest : Nat := 0
deriving DecidableEq, Repr

/-- A braid: the tick of its latest mismatch (R250). -/
structure BraidX where
  missAt : Option Nat := none
deriving DecidableEq, Repr

end Sys2Proof.Machine
end

