-- ==== Sys2Proof/Machine/Parts2.lean ====
section
/-! DEFINITION. Machine/Parts2.lean: the parts of the state of the device-wide blocks that no register shows. -/
namespace Sys2Proof.Machine

/-- The time base (§1.5): the flywheel's latest edge and the latest SYNCIN edge in taps, what the intervals of SYNCIN have run beyond
0.5 % of a period in 1/25 tap (R30), the runs that lock, holdover and relock count, the latest profile step and bell boundary done, the
health of the two paths (R37), and whether TB_CTRL has been written (R39). -/
structure TimeX where
  edge : Option Nat := none
  raw : Option Nat := none
  drift : Int := 0
  onRef : Nat := 0
  misses : Nat := 0
  relock : Nat := 0
  acquiring : Bool := false
  lastStep : Option Nat := none
  lastBell : Option Nat := none
  okA : Bool := true
  okB : Bool := true
  soWritten : Bool := false
deriving DecidableEq, Repr

/-- The telemetry converters (§3.5): TC0's slot in its frame, the frame count, the ticks at which the frame began and at which its next
slot begins, the length of the frame before, TC1's slot in its frame with the tick at which it begins and TC1's low-power mode, the runs
of failed DAC and XREF readbacks with the latest XREF codes, since when each drift flag has stood and whether that is permanent, the raw
and corrected codes of the latest conversions by channel, the latest VBUS reading and the frame's sum, the frame's VIN, V5 and VCORE, the
ticks of the triggers of TM0 and TM1 whose inserted conversions have not ended, the tick since which the device power exceeds the budget
(R239), and the runs of frames with the bus at its limits (R235). -/
structure TeleX where
  slot : Nat := 0
  frame : Nat := 0
  frameAt : Nat := 0
  slotAt : Nat := 0
  frameLen : Nat := 0
  slot1 : Nat := 0
  slotAt1 : Nat := 0
  low1 : Bool := false
  dacRuns : List (Nat × Nat) := []
  xref0 : Nat := 0
  xref1 : Nat := 0
  xcode0 : Nat := 0
  xcode1 : Nat := 0
  driftAt0 : Option Nat := none
  driftAt1 : Option Nat := none
  driftPerm0 : Bool := false
  driftPerm1 : Bool := false
  raw : Vector Nat 96 := Vector.replicate 96 0
  corr : Vector Nat 96 := Vector.replicate 96 0
  vbNow : Nat := 0
  vbSum : Nat := 0
  vinMv : Nat := 0
  v5Mv : Nat := 0
  vcoreMv : Nat := 0
  pend0 : List Nat := []
  pend1 : List Nat := []
  overAt : Option Nat := none
  busHi : Nat := 0
  busLo : Nat := 0
deriving DecidableEq, Repr

/-- A logbook record before its SEQ is given (Table 9-5). -/
structure LogRec where
  src : Nat
  elem : Nat
  cls : Nat
  epoch : Nat := 0
  tick : Nat := 0
  state : Nat := 0xFF
  flags : Nat := 0
  vrail : Nat := 0
  irail : Int := 0
  vbus : Nat := 0
  trail : Int := 0
  tdie : Nat := 0
  duty : Nat := 0
  d1 : Nat := 0
  d2 : Nat := 0
  aid : Nat := 0
  member : Nat := 0xFF
deriving DecidableEq, Repr

/-- The logbook (§9.7) beside its ring in flash: the queue that survives a supervisor reboot, the next SEQ, and the latest acceptance per
source and element (R265). -/
structure LogX where
  queue : List LogRec := []
  nextSeq : Nat := 0
  accepted : List (Nat × Nat × Nat) := []
deriving DecidableEq, Repr

/-- The trace of a rail (§9.8): the ring of 8-word records, oldest first, the records still to come after a trigger with
its source, whether the next sample is the trigger sample, the checkpoint slots of 16 words, oldest first, and the copy
made at the freeze. -/
structure TraceX where
  ring : List (List Nat) := []
  post : Option (Nat × Nat) := none
  trig : Option Nat := none
  slots : List (List Nat) := []
  cfg : FrozenCfg := {}
deriving DecidableEq, Repr

/-- A replay in progress (R271). -/
structure ReplayX where
  strand : Fin 32
  rail : Fin 12
  slot : Nat
  cfgsrc : Bool
  count : Nat
deriving DecidableEq, Repr

/-- The fault manager's own state (chapter 9): watchdog start and expiries (R261), the debug token buffer of 20 words,
whether a challenge stands, the end of an unlock block, whether a first freeze has been recorded, and the replay (R271). -/
structure FaultX where
  wdogAt : Nat := 0
  expiries : List Nat := []
  token : Vector Word 20 := Vector.replicate 20 0
  chal : Bool := false
  blockEnd : Nat := 0
  freezeSeen : Bool := false
  replay : Option ReplayX := none
deriving DecidableEq, Repr

/-- The state of a slot of firmware (R405). -/
inductive FwState where
  | empty | opened | staged | trial | active | standby | invalid
deriving DecidableEq, Repr

/-- The state of a key slot (R401). -/
inductive KeyState where
  | empty | loaded | revoked
deriving DecidableEq, Repr

/-- A key slot: its state and its 64 bytes. -/
structure KeySlot where
  st : KeyState := .empty
  key : List Byte := []
deriving DecidableEq, Repr

/-- A firmware slot: its state and its bytes. `factory` says that it holds the image of manufacture, whose bytes the spec
does not give and whose check passes. -/
structure FwSlot where
  st : FwState := .empty
  bytes : List (Nat × Byte) := []
  factory : Bool := false
deriving DecidableEq, Repr

/-- A rigging slot in flash (R395, R407): its bytes, and whether a load refused it. -/
structure RigSlot where
  bytes : List (Nat × Byte) := []
  refused : Bool := false
deriving DecidableEq, Repr

/-- A settings-journal record (Table 14-7). -/
structure SetRec where
  kind : Nat
  fmt : Nat
  key : Nat
  v0 : Nat
  v1 : Nat := 0
  v2 : Nat := 0
deriving DecidableEq, Repr

/-- The boot record in force (Table 14-4) beside the slot states. -/
structure BootRec where
  prefRig : Bool := false
  vrigA : Nat := 0
  vrigB : Nat := 0
  signedA : Bool := false
  signedB : Bool := false
  fwFloor : Nat := 0
  rigFloor : Nat := 0
  fallbacks : Nat := 0
deriving DecidableEq, Repr

/-- The regions of flash that hold records (Table 14-2): the settings journal, the logbook, the erase journal, the lifetime counter ring and
the boot record ring. -/
inductive Region where
  | settings | logbook | erases | counters | boots
deriving DecidableEq, Repr

/-- A ring of records (R264, R387, R389, R397): the bytes at each place that is not blank, by place, the place to be written next, and the
SEQ numbered last. -/
structure Ring where
  recs : List (Nat × List Byte) := []
  head : Nat := 0
  seq : Nat := 0
deriving DecidableEq, Repr

/-- A record to be written, with its SEQ: of the settings journal, a lifetime counter, the boot record with the states of the firmware
slots, or the logbook. -/
inductive FlashRec where
  | setting (seq : Nat) (r : SetRec)
  | counter (seq idx value : Nat)
  | boot (seq : Nat) (b : BootRec) (fwA fwB : FwState)
  | log (seq : Nat) (r : LogRec)
deriving DecidableEq, Repr

/-- What is programmed into the provisioning sector (R401 to R403, R409): a key slot, the locks, or the firmware keys that stay. -/
inductive Provision where
  | key (debug : Bool) (slot : Nat) (k : KeySlot)
  | locks (sig pec : Bool)
  | firmwareKeys (key0 key1 : Bool)
deriving DecidableEq, Repr

/-- A flash operation waiting or in progress (R384): what is done when it completes. One operation erases one sector or programs at most
128 bytes. `cmd` marks the last operation of an FU_CMD command. Of a RIGSAVE the 64 erases of its slot come first, and `k` counts the
operations done; of an erase of the logbook (R266) likewise, with the sector that takes the CLEARED record. (Log entry: 17 DEDUCED.) -/
inductive FlashOp where
  | erase (sectors : List Nat) (cmd : Bool)
  | program (slot : Bool) (offset : Nat) (data : List Byte)
  | rigsave (slot : Bool) (k : Nat) (data : List Byte) (id : Nat) (signed : Bool)
  | record (r : FlashRec) (cmd : Bool)
  | provision (p : Provision) (cmd : Bool)
  | clearLog (seq : Nat) (r : LogRec) (k sector : Nat)
deriving DecidableEq, Repr

/-- A running trial (R409): when its firmware began to run, AUTOCOMMIT. -/
structure Trial where
  began : Option Nat
  auto : Bool
deriving DecidableEq, Repr

/-- The flash and the supervisor (chapter 14): firmware and rigging slots, the rings of records, the provisioning sector, the sectors
whose erase was cut off (R388), and the operations waiting. Of the rings the supervisor holds in its SRAM the boot record, the lifetime
counters with what they take their increases from, and the wear counts last recorded; beside them stand the pending activation (epoch,
AUTOCOMMIT, and SRC and ACTID where it came over the lanyard), the trial, the firmware that runs, and the staging buffer (R55). (Log
entry: 5 DESIGN CHOICE.) -/
structure FlashX where
  fwA : FwSlot := { st := .active, factory := true }
  fwB : FwSlot := {}
  rigA : RigSlot := {}
  rigB : RigSlot := {}
  settings : Ring := {}
  logbook : Ring := {}
  erases : Ring := {}
  counterRing : Ring := {}
  boots : Ring := {}
  boot : BootRec := {}
  counters : List (Nat × Nat) := []
  energyRead : List (Nat × Nat) := []
  energyPart : List (Nat × Nat) := []
  upBells : Nat := 0
  wearSaved : List (Nat × Nat) := []
  imageKeys : Vector KeySlot 4 := Vector.replicate 4 {}
  debugKeys : Vector KeySlot 4 := Vector.replicate 4 {}
  fkey0 : Bool := true
  fkey1 : Bool := true
  lockSig : Bool := false
  lockPec : Bool := false
  pendAct : Option (Nat × Bool × Option (Nat × Nat)) := none
  trial : Option Trial := none
  runSlot : Bool := false
  ops : List FlashOp := []
  half : List Nat := []
  staging : List (Nat × Byte) := []
deriving DecidableEq, Repr

/-- The power states of chapter 16. -/
inductive PowerMode where
  | held | running | sleep | standby
deriving DecidableEq, Repr

/-- The instructions of the test access port (R451, R454). -/
inductive TapInstr where
  | bypass | idcode | samplePreload | extest | highz | clamp
deriving DecidableEq, Repr

/-- The 16 bytes that the always-on domain retains (R443): the flash offsets at which the settings journal and the rings of §14.4 go on, in
4 bytes each, and 4 bytes of no use. -/
structure Retained where
  settings : Nat
  counters : Nat
  boots : Nat
  spare : Nat := 0
deriving DecidableEq, Repr

/-- Power, reset and the test port (chapter 16): the hold conditions of R433 (true: the condition holds), the causes gathered for FM_RSTC,
requests for reset and standby, sleep's low-power accumulator, a wake that waits for a path, and whether its own address started it (R435,
R444), what deep standby retains (R443), whether the boot has run with the tick at which the host interface becomes ready (R316), and the
port: its instruction, the one that it left last and when, the cells preloaded, and what was sampled (R451 to R453). (Log entry: 6 DESIGN
CHOICE.) -/
structure PowerX where
  mode : PowerMode := .held
  vinLow : Bool := true
  v5Low : Bool := true
  vcoreLow : Bool := true
  pllOff : Bool := true
  pinLow : Bool := false
  causes : Nat := 1
  resetReq : Bool := false
  standbyReq : Bool := false
  lpAcc : Nat := 0
  waking : Option Bool := none
  retained : Option Retained := none
  ready : Bool := false
  readyAt : Nat := 0
  tap : TapInstr := .idcode
  tapLeft : Option (Nat × TapInstr) := none
  cells : Cells := {}
  sampled : Boundary := {}
  halted : Bool := false
deriving DecidableEq, Repr

end Sys2Proof.Machine
end

