-- ==== Sys2Proof/Machine/Parts3.lean ====
section
/-! DEFINITION. Machine/Parts3.lean: the parts of the state of the pack links, the host bus, the lanyard, the timers,
fans and temperature inputs, the rigging control block and the pins that no register shows. -/
namespace Sys2Proof.Machine

/-- A NOTIFY event (Table 10-3): EVENT, CAUSE and STATE. -/
structure NoteEvent where
  event : Nat
  cause : Nat
  state : Nat
deriving DecidableEq, Repr

/-- The NOTIFY outstanding (R294): its event and SEQ, the retries made, the tick at which its acknowledgement window closes, and the tick at
which the next retry is sent or the last one has failed. -/
structure NoteOut where
  ev : NoteEvent
  seq : Nat
  tries : Nat
  close : Nat
  due : Nat
deriving DecidableEq, Repr

/-- The pack temperature report of R300: TAVG, TMAX and TMIN in 0.125 °C, its tick, and whether it still waits to be
counted as a reading at the end of a TC0 frame. -/
structure PackTemp where
  tavg : Int
  tmax : Int
  tmin : Int
  at_ : Nat
  fresh : Bool := true
deriving DecidableEq, Repr

/-- A pack link (chapter 10) beside its registers: the last accepted frame's SEQ, CRC and result (R292), the tick of the
last valid frame with the WDOG that runs from it (R289, R301, R303), the current target L (R297), the outstanding NOTIFY,
the queue and the next NOTIFY's SEQ (R294), the temperature report, the bytes of the latest frame sent with its LED drive and
the ticks of its start and its end (R280, R282), the ACKs that wait for their start, oldest first, each with its start, SEQ and payload
(R291), the tick at which the last frame received ended and the one of the last transition seen (R282), the epoch of the latest beacon,
and the LINK entry that a swap has replaced and that stands until the next frame boundary (R62). -/
structure LinkX where
  accepted : Option (Nat × Nat × Nat) := none
  heardAt : Nat := 0
  wdog : Nat := 0
  limit : Int := 0
  out : Option NoteOut := none
  queue : List NoteEvent := []
  nextSeq : Nat := 0
  report : Option PackTemp := none
  sent : List Byte := []
  sentLed : Nat := 0
  tx : Option (Nat × Nat) := none
  acks : List (Nat × Nat × List Byte) := []
  rxAt : Option Nat := none
  edgeAt : Option Nat := none
  params : Option LinkE := none
  beaconAt : Option Nat := none
deriving DecidableEq, Repr

/-- A remembered tagged command (R321): the register's address, the word and the acceptance tick. -/
structure Tagged where
  addr : Nat
  word : Word
  at_ : Nat
deriving DecidableEq, Repr

/-- The host interface (chapter 11): the address pointer, the remembered tagged commands, the captured snapshot group, the
PEC mode and the filter length that the running transaction uses (R306, R313), whether a write runs, whether it started
inside the staging window and has gone past it (R55), whether a read runs, the word and PEC byte last read, the address byte last answered
to an ARA, and the device's answers to the bytes of the latest command, true for an acknowledge (R317). -/
structure BusX where
  ptr : Nat := 0
  tags : List Tagged := []
  snap : List (Nat × Word) := []
  pec : Nat := 0
  gflen : Nat := 0
  block : Bool := false
  inStaging : Bool := false
  past : Bool := false
  reading : Bool := false
  acks : List Bool := []
  lastRead : Option (Word × Option Byte) := none
  ara : Option (Nat × Option Byte) := none
deriving DecidableEq, Repr

/-- What a spanning group of this device holds beside its registers (§12.4), kept per local rail: the attached members (by IDX) with their
latest report and its tick, the members that have reported since the ring formed, frames since the latest valid slot and whether one has
come, CNT, the latest ICMD, the follower's commands with the tick from which each holds, its latest report's tick with what it said of
NSPL, state and LOCK (R350), the lead's sum of I_s since its last frame, FEPO, the OFF bit, and the group's totals of the latest frame
(R350). -/
structure GroupX where
  reports : List (Nat × SpanRpt × Nat) := []
  heard : List Nat := []
  age : Nat := 127
  seen : Bool := false
  cnt : Nat := 0
  icmd : Int := 0
  iset : List (Nat × Int) := []
  rptAt : Nat := 0
  rptWas : Option (Nat × Nat × Bool) := none
  sum : Int := 0
  num : Nat := 0
  fepo : Nat := 0
  allOff : Bool := false
  tot : Int := 0
  pwr : Int := 0
deriving DecidableEq, Repr

/-- An activation this member has issued or follows (R357): SRC, ACTID, KIND, EPOCH. -/
structure ActX where
  src : Nat
  actid : Nat
  kind : Nat
  epoch : Nat
deriving DecidableEq, Repr

/-- The lanyard (chapter 12) beside its registers: ticks of the latest frame sent and received, the frame last sent, those that the next
frames sent carry on, oldest first, each with the tick at which its first bit arrived (R333, R338), the reverse frame last sent with its
tick and the cell that the next one carries, the SEQs of the own broadcasts that have set out in reverse, the ring-direction frames of a
line since a reverse frame has come (R352, R354), the line starts told of and whether the line was one at its forming (R338, R350), the
slots of the frame before (R336), messages waiting and their SEQ, whether the own CLAIM is out, tokens held with their rails, the token
duties (R355, R356), the members heard since the own MEMBER and between it and the one before, what they report, the tick of the own one,
activations (R357, R358), hop losses with their hop (R353), the restore epoch, the latest probe, the tick of the marker's answer (R339),
the offset (R341), and the groups. -/
structure LanX where
  sentAt : Nat := 0
  heardAt : Nat := 0
  sent : Option LyFrame := none
  carried : List (Nat × LyFrame) := []
  rev : Option LyFrame := none
  revAt : Nat := 0
  back : LyMsg := {}
  revSeqs : List Nat := []
  revMiss : Nat := 0
  breaks : List Nat := []
  line : Bool := false
  prevW : Vector Nat 12 := Vector.replicate 12 0
  msgs : List LyMsg := []
  seq : Nat := 0
  claimed : Bool := false
  held : List (Nat × Fin 12) := []
  skip : Bool := false
  tokenSeen : List Nat := []
  tokenMiss : List (Nat × Nat) := []
  heardNow : List Nat := []
  heardLast : List Nat := []
  masks : List (Nat × Nat) := []
  levels : List (Nat × Nat × Nat × Bool) := []
  memberAt : Nat := 0
  nextAct : Nat := 0
  acts : List (Nat × Nat) := []
  repeats : List (Nat × ActX) := []
  latest : Option ActX := none
  losses : List (Nat × Nat) := []
  restoreAt : Option Nat := none
  probeAt : Nat := 0
  marker : Option Nat := none
  ofs : Int := 0
  stamped : Bool := false
  memErr : Bool := false
  groups : Vector GroupX 12 := Vector.replicate 12 {}
deriving DecidableEq, Repr

/-- A timer channel beside its registers: the value that a step at the tick of the latest compare write still uses (R363). -/
structure ChanX where
  old : Nat := 0
  at_ : Option Nat := none
deriving DecidableEq, Repr

/-- A timer (chapter 13) beside its registers: the tick from which the prescaler runs, the ticks it had counted before, the tick of the
latest write of the count with the count before it (R361), the TOP in force, the slave events still to act (R369), the low-power
accumulator in 1/64 tick (R371), the freeze of a debug halt (R370), and the channels. -/
structure TimerX where
  from_ : Nat := 0
  pre : Nat := 0
  wrote : Option (Nat × Nat) := none
  top : Nat := 0xFFFFFFFF
  slaveAt : List Nat := []
  lpAcc : Nat := 0
  capPend : List Nat := []
  chans : Vector ChanX 4 := Vector.replicate 4 {}
deriving DecidableEq, Repr

/-- A fan channel (§13.5) beside its registers: the commanded duty, the duty that the curve last gave, the latest accepted tach edge, the
tick at which the present state or kick began, the duty in force before its latest change with the tick of the change (R372), whether a
retry kick of BLOCKED runs, the interval between the last two accepted edges of a fan that turns (R374), the latest tick at which a timer
source was 1, and the corrected codes of the latest TC0 frames, newest first. -/
structure FanX where
  cmd : Nat := 0
  autoDuty : Nat := 1000
  edge : Option Nat := none
  at_ : Nat := 0
  was : Nat := 0
  changed : Nat := 0
  retry : Bool := false
  gap : Option Nat := none
  srcAt : Option Nat := none
  codes : List Nat := []
deriving DecidableEq, Repr

/-- A temperature input (§13.6): its TYPE as last loaded, the run of valid conversions, a diode's 10 µA code with the
frame it belongs to, and the 100 µA code of this frame. -/
structure TempX where
  type : Nat := 0
  run : Nat := 0
  low : Option (Nat × Nat) := none
  high : Option Nat := none
deriving DecidableEq, Repr

/-- A pending swap (R59): the epoch of its boundary, and the lanyard activation it serves. -/
structure SwapReq where
  epoch : Nat
  act : Option ActX := none
deriving DecidableEq, Repr

/-- The rigging control block (chapter 2) beside its registers: the pending swap, and the rails whose CFGECC fault is
permanent (R69). -/
structure RigX where
  swap : Option SwapReq := none
  permRails : List Nat := []
deriving DecidableEq, Repr

/-- The pins: their outputs follow from the other state; what stays is the level each TIO pin is driven to from outside, that level behind
the filter of 20 ns, the edges that are not yet seen with the tick at which they are (R364), and whether the full drive of an economised
contactor pin has ended (R366). (Log entry: 6 DESIGN CHOICE.) -/
structure PinX where
  tioIn : Nat := 0
  tioSeen : Nat := 0
  tioQ : List (Nat × Fin 8 × Bool) := []
  ecoOn : Vector Bool 8 := Vector.replicate 8 false
deriving DecidableEq, Repr

end Sys2Proof.Machine
end

