-- ==== Sys2Proof/Machine/State.lean ====
section
/-! DEFINITION. Machine/State.lean: the state of the block as plain data, its stops, and the machine at reset. -/
namespace Sys2Proof.Machine

/-- The key of a register of the file: its name and the element's number. -/
structure RKey where
  reg : Reg
  n : Nat := 0
deriving DecidableEq, Repr

/-- The register file: the registers whose word differs from the reset word, sorted, each once. -/
abbrev RegFile := List (RKey × Word)

/-- What hardware has set at a tick (R13, R415): the W1C flags set and the counters counted up, by register and bit. -/
structure HotX where
  at_ : Nat := 0
  bits : List (RKey × Nat) := []
deriving DecidableEq, Repr

/-- What a rail was before the transition it made at tick `at_`, its phases and the registers that an entry writes among it, the words in
the order of `railUndoRegs` and `phaseUndoRegs`: at that tick a trigger of higher rank still decides in that transition's place (R213). -/
structure RailUndo where
  at_ : Nat
  rail : Fin 12
  x : RailX
  queue : List NoteEvent
  regs : List Word
  phases : List (Fin 48 × PhaseX × List Word)
deriving DecidableEq, Repr

/-- The state of an SKV4812 or SKV2406. `regs` holds every register of the map. `wlog` holds the words that writes still in flight
replaced, with the acceptance tick (R39, R137: some registers act a set time after their write). `hot` holds what hardware set at the
latest tick at which it set anything: a host's clear of that tick leaves it set (R13). `now` counts ticks since reset release and `skew`
what the epoch steps have added (R19, R342). `quiet` is the tick since which the conditions of sleep hold (R439). `small` is the variant
fuse (R8). `frees` counts the free values taken: it is the model's own field. `pending` is the queue of commands that wait, the model's
own field too. `undo` holds what the rails were that have made a transition at the present tick (R213). The rest is named after the block
it belongs to. (Log entries 1, 4 to 7, 12 and 13.) -/
structure State where
  regs : RegFile := []
  wlog : List (RKey × Word × Nat) := []
  hot : HotX := {}
  now : Nat := 0
  skew : Int := 0
  quiet : Option Nat := none
  small : Bool := false
  frees : Nat := 0
  pending : List Instr := []
  active : RigSet := {}
  shadow : RigSet := {}
  rails : Vector RailX 12 := Vector.replicate 12 {}
  phases : Vector PhaseX 48 := Vector.replicate 48 {}
  wins : Vector WinX 72 := Vector.replicate 72 {}
  strands : Vector StrandX 32 := Vector.replicate 32 {}
  braids : Vector BraidX 16 := Vector.replicate 16 {}
  time : TimeX := {}
  tele : TeleX := {}
  log : LogX := {}
  trace : Vector TraceX 12 := Vector.replicate 12 {}
  fault : FaultX := {}
  flash : FlashX := {}
  power : PowerX := {}
  links : Vector LinkX 12 := Vector.replicate 12 {}
  lan : LanX := {}
  timers : Vector TimerX 12 := Vector.replicate 12 {}
  fans : Vector FanX 4 := Vector.replicate 4 {}
  temps : Vector TempX 16 := Vector.replicate 16 {}
  bus : BusX := {}
  rig : RigX := {}
  pins : PinX := {}
  undo : List RailUndo := []
deriving DecidableEq, Repr

/-- Why the machine stops. No command of the spec stops the block: each row of the table has an effect. -/
inductive Fault where
  /-- A command that acts on an element the block does not have in any variant. No command raises it: every element number
  is bounded by its type. Safe. -/
  | noSuchElement
deriving DecidableEq, Repr

/-- Why a command has no meaning in the model. -/
inductive Refusal where
  /-- A row of the table whose meaning is not written; raised by exec's refused arms alone. Safe. -/
  | notModelled (mnemonic : String)
deriving DecidableEq, Repr

/-- The block before reset is released: every hold condition stands, every register at its reset word, every queue empty (R316, R433,
R455). (Log entries: 3 DESIGN CHOICE, 4 DESIGN CHOICE, 6 DESIGN CHOICE.) -/
def State.reset : State := {}

end Sys2Proof.Machine
end

