-- ==== Sys2Proof/Machine/Operands.lean ====
section
/-! DEFINITION. Machine/Operands.lean: the forms a value takes on its way: rounding (R109), aligned terms and
accumulators (R110 to R113), coefficient words (R49, R107, R108), the compensation tables (R124), the CRC of every
record and image (R44), and byte order. -/
namespace Sys2Proof.Machine

/-- round_half_even of `n / d` (R109). -/
def rhe (n : Int) (d : Nat) : Int :=
  let q := n / (d : Int)
  let r := n % (d : Int)
  if d = 0 then 0
  else if 2 * r < d then q
  else if (d : Int) < 2 * r then q + 1
  else if q % 2 = 0 then q else q + 1

/-- round_half_even of a rational (R109). -/
def rheRat (v : Rat) : Int := rhe v.num v.den

/-- round_half_even of `v * 2 ^ z` (R112). -/
def rheShift (v z : Int) : Int := if 0 ≤ z then v * 2 ^ z.toNat else rhe v (2 ^ (-z).toNat)

/-- `2 ^ z` as a rational. -/
def pow2 (z : Int) : Rat := if 0 ≤ z then ((2 ^ z.toNat : Nat) : Rat) else 1 / ((2 ^ (-z).toNat : Nat) : Rat)

/-- An integer with its weight: the value is `t * 2 ^ w` (§4.2). -/
structure Term where
  t : Int
  w : Int
deriving DecidableEq, Repr

/-- The product of two weighted integers, exact (R110). -/
def Term.mul (x y : Term) : Term := ⟨x.t * y.t, x.w + y.w⟩

/-- The two's-complement negation (R111). -/
def Term.neg (x : Term) : Term := ⟨-x.t, x.w⟩

/-- The exact sum at the smaller weight (R149). -/
def Term.add (x y : Term) : Term :=
  let w := min x.w y.w
  ⟨x.t * 2 ^ (x.w - w).toNat + y.t * 2 ^ (y.w - w).toNat, w⟩

/-- Bits of the accumulator, the output word and the guard G in each arithmetic mode (R107, R108, R110). -/
def accTop (frac : Bool) : Int := if frac then 2 ^ 39 else 2 ^ 47
def wordTop (frac : Bool) : Int := if frac then 32768 else 131072
def guardG (frac : Bool) : Int := if frac then 4 else 6

/-- The weight of a signal or state word of exponent `e` (Tables 4-2 and 4-3); in fraction mode `e` is the stage's
fraction exponent. -/
def wordWeight (frac : Bool) (e : Nat) : Int := if frac then (e : Int) - 22 else (e : Int) - 24

/-- A clamp to the accumulator range and whether it acted. -/
def clampAcc (frac : Bool) (a : Int) : Int × Bool :=
  (clampInt (-accTop frac) (accTop frac - 1) a, decide (a < -accTop frac ∨ accTop frac ≤ a))

/-- A term as it enters an accumulator of weight `wA`, and whether it was clamped (R110). -/
def align (frac : Bool) (wA : Int) (x : Term) : Int × Bool :=
  if wA ≤ x.w then clampAcc frac (x.t * 2 ^ (x.w - wA).toNat)
  else if 63 < wA - x.w then (0, false)
  else (rhe x.t (2 ^ (wA - x.w).toNat), false)

/-- An evaluation (R111): the terms added in order, with the clamp after each addition; the flag is ACC. -/
def accumulate (frac : Bool) (wA : Int) (terms : List Term) : Int × Bool :=
  terms.foldl (fun (acc : Int × Bool) x =>
    let a := align frac wA x
    let r := clampAcc frac (acc.1 + a.1)
    (r.1, acc.2 || a.2 || r.2)) (0, false)

/-- Whether a value fits the output word (R112). -/
def fitsWord (frac : Bool) (v : Int) : Bool := decide (-wordTop frac ≤ v ∧ v < wordTop frac)

/-- The narrowing of R112 to weight `wo`; the flag is NAR. -/
def narrow (frac : Bool) (x : Term) (wo : Int) : Int × Bool :=
  let v := rheShift x.t (x.w - wo)
  (clampInt (-wordTop frac) (wordTop frac - 1) v, !fitsWord frac v)

/-- The smallest exponent from `e` to 31 at which every value fits (R113), 31 when none does. -/
def normExp (xs : List Term) : Nat → Nat → Nat
  | 0, _ => 31
  | fuel + 1, e => if xs.all (fun x => fitsWord false (rheShift x.t (x.w - ((e : Int) - 24)))) then e
      else normExp xs fuel (e + 1)

/-- A block of results brought to its words (R113): normalised in block floating, narrowed to the stage's fraction
exponent `fx` in fraction mode. Answers the words, their exponent and NAR. -/
def settleBlock (frac : Bool) (fx : Nat) (xs : List Term) : List Int × Nat × Bool :=
  let e := if frac then fx else normExp xs 32 0
  let rs := xs.map fun x => narrow frac x (wordWeight frac e)
  (rs.map (·.1), e, rs.any (·.2))

/-- A single signal brought to its word (R113). -/
def settleOne (frac : Bool) (fx : Nat) (x : Term) : Int × Nat × Bool :=
  let e := if frac then fx else normExp [x] 32 0
  let r := narrow frac x (wordWeight frac e)
  (r.1, e, r.2)

/-- The mantissa M and the exponent code EC of a coefficient word (R49). -/
def coefM (w : Word) : Int := signedOf 18 w.toNat
def coefEC (w : Word) : Nat := w.toNat / 2 ^ 18 % 32

/-- The fraction form of a mantissa (Table 4-3). -/
def coefQ (w : Word) : Int := clampInt (-32768) 32767 (rhe (coefM w) 4)

/-- A coefficient in the arithmetic mode (R107, R108). -/
def coefTerm (frac : Bool) (w : Word) : Term :=
  if frac then ⟨coefQ w, (coefEC w : Int) - 30⟩ else ⟨coefM w, (coefEC w : Int) - 32⟩

/-- Whether the conversion of a coefficient to fraction form clamps (R127). -/
def coefClamps (w : Word) : Bool := decide (32767 < rhe (coefM w) 4 ∨ rhe (coefM w) 4 < -32768)

/-- The interpolation of R124 over a 32-entry table. -/
def tableAt (tab : Nat → Int) (iMin : Int) (iStep : Nat) (cur : Int) : Int :=
  let p := cur - iMin
  if p ≤ 0 then tab 0
  else if 31 * (iStep : Int) ≤ p then tab 31
  else
    let i := p.toNat / iStep
    let r := p.toNat % iStep
    tab i + rhe ((tab (i + 1) - tab i) * r) iStep

/-- One bit of the CRC-32 of R44 in reflected form. -/
def crcBit (c : Nat) : Nat := if c % 2 = 1 then (c / 2) ^^^ 0xEDB88320 else c / 2

/-- One byte of the CRC. -/
def crcByte (c : Nat) (b : Nat) : Nat :=
  crcBit (crcBit (crcBit (crcBit (crcBit (crcBit (crcBit (crcBit (c ^^^ b))))))))

/-- The CRC-32 of R44 over bytes. -/
def crc32 (bs : List Nat) : Nat := (bs.foldl crcByte 0xFFFFFFFF) ^^^ 0xFFFFFFFF

/-- The four bytes of a 32-bit value, most significant first. -/
def bytesBE (w : Nat) : List Nat := [w / 2 ^ 24 % 256, w / 2 ^ 16 % 256, w / 2 ^ 8 % 256, w % 256]

/-- The CRC-32 over words stored most significant byte first. -/
def crcWords (ws : List Nat) : Nat := crc32 (ws.flatMap bytesBE)

/-- The big-endian number that bytes spell. -/
def beNat (bs : List Nat) : Nat := bs.foldl (fun a b => a * 256 + b) 0

/-- A field of a word-sized number: `width` bits from bit `lo`. -/
def bitsOf (v lo width : Nat) : Nat := v / 2 ^ lo % 2 ^ width

/-- The bit at `k`. -/
def bitAt (v k : Nat) : Bool := v / 2 ^ k % 2 == 1

/-- A truth value as a bit. -/
def bit (b : Bool) : Nat := if b then 1 else 0

/-- Element `i` of a vector of `n`, the first one where `i` lies outside it; `n` is never 0 here. -/
def vget {α : Type} {n : Nat} [NeZero n] (v : Vector α n) (i : Nat) : α :=
  if h : i < n then v[i] else v[0]'(Nat.pos_of_ne_zero (NeZero.ne n))

end Sys2Proof.Machine
end

