-- ==== Sys2Proof/Machine/Strand.lean ====
section
/-! DEFINITION. Machine/Strand.lean: what a strand computes from its state, its parameters and an input vector
(chapter 4 and the preset of R149), bit by bit. -/
namespace Sys2Proof.Machine

/-- The coefficient word `k` of Table 2-10 in the arithmetic mode. -/
def StrandPar.coefAt (q : StrandPar) (frac : Bool) (k : Nat) : Term := coefTerm frac (vget q.coef k)

/-- The bus ratio VR of R116 with NARF. -/
def busRatio (frac : Bool) (vset vb : Nat) : Nat × Bool :=
  let top : Int := if frac then 32767 else 131071
  let v := rhe ((vset : Int) * (if frac then 16384 else 65536)) (if vb = 0 then 1 else vb)
  ((clampInt 0 top v).toNat, decide (top < v))

/-- The per-phase current I_ph of R116. -/
def phaseCurrent (isum : Int) (cslsb nact : Nat) : Int :=
  rhe (isum * cslsb) (40000 * (if nact = 0 then 1 else nact))

/-- The roll-off factor LR of R116 at the scale of the arithmetic mode (Table 4-3). -/
def rollOff (q : StrandPar) (frac : Bool) (iph : Int) : Nat :=
  let lr := tableAt (fun k => ((vget q.tables.lroll k : Nat) : Int)) q.tables.iMin q.tables.iStep iph
  (if frac then clampInt 0 32767 (rhe lr 2) else lr).toNat

/-- The weights of VR and LR (Tables 4-2 and 4-3). -/
def wVR (frac : Bool) : Int := if frac then -14 else -16
def wLR (frac : Bool) : Int := if frac then -14 else -15

/-- The current error of R145. -/
def currentError (q : StrandPar) (v : InVec) : Int :=
  let isetq := rhe (v.iset * 40000) q.cslsb
  clampInt (-256) 256 (rhe (isetq - v.isum) (if v.nact = 0 then 1 else v.nact))

/-- The error input x0 (R115, R122). -/
def errorInput (q : StrandPar) (v : InVec) : Int :=
  match v.mode with
  | .cv => -v.e
  | .cc => currentError q v
  | .manI => currentError q v
  | .manD => -v.e

/-- The state at the first sample of PREMATCH (R126). -/
def StrandState.fresh (q : StrandPar) (x0 : Int) : StrandState :=
  { frac := true, eP := q.fxP, eB1 := q.fxB1, eB2 := q.fxB2, eO := q.fxO, eUC := q.fxP, xp := x0 }

/-- A state word moved from block floating to fraction mode (R129), with CONV. -/
def toFracWord (fx e : Nat) (m : Int) : Int × Bool :=
  let v := rheShift m ((e : Int) - fx - 2)
  (clampInt (-32768) 32767 v, decide (v < -32768 ∨ 32767 < v))

/-- The change from fraction mode to block floating (R128). -/
def StrandState.toBlock (s : StrandState) : StrandState :=
  { s with frac := false, i := 4 * s.i, d := 4 * s.d, s11 := 4 * s.s11, s12 := 4 * s.s12, s21 := 4 * s.s21,
           s22 := 4 * s.s22, xh := 4 * s.xh, dh := 4 * s.dh, uc := 4 * s.uc }

/-- The change from block floating to fraction mode (R129), with CONV. -/
def StrandState.toFrac (s : StrandState) (q : StrandPar) : StrandState × Bool :=
  let i := toFracWord q.fxP s.eP s.i
  let d := toFracWord q.fxP s.eP s.d
  let a := toFracWord q.fxB1 s.eB1 s.s11
  let b := toFracWord q.fxB1 s.eB1 s.s12
  let c := toFracWord q.fxB2 s.eB2 s.s21
  let e := toFracWord q.fxB2 s.eB2 s.s22
  let x := toFracWord q.fxO s.eO s.xh
  let h := toFracWord q.fxO s.eO s.dh
  let u := toFracWord q.fxP s.eUC s.uc
  ({ s with frac := true, i := i.1, d := d.1, eP := q.fxP, s11 := a.1, s12 := b.1, eB1 := q.fxB1, s21 := c.1,
            s22 := e.1, eB2 := q.fxB2, xh := x.1, dh := h.1, eO := q.fxO, uc := u.1, eUC := q.fxP },
   i.2 || d.2 || a.2 || b.2 || c.2 || e.2 || x.2 || h.2 || u.2)

/-- The change of arithmetic mode before step 0 (R128, R129). -/
def StrandState.toMode (s : StrandState) (q : StrandPar) (frac : Bool) : StrandState × Bool :=
  if s.frac = frac then (s, false)
  else if frac then s.toFrac q
  else (s.toBlock, false)

/-- Union of the flags of two evaluations. -/
def SatFlags.or (a b : SatFlags) : SatFlags :=
  { accP := a.accP || b.accP, narP := a.narP || b.narP, accB1 := a.accB1 || b.accB1, narB1 := a.narB1 || b.narB1,
    accB2 := a.accB2 || b.accB2, narB2 := a.narB2 || b.narB2, accO := a.accO || b.accO, narO := a.narO || b.narO,
    accF := a.accF || b.accF, narF := a.narF || b.narF, conv := a.conv || b.conv }

/-- Bits 10 to 0 of ST_FLAG (Table 4-17). -/
def SatFlags.bits (f : SatFlags) : Nat :=
  bit f.accP + 2 * bit f.narP + 4 * bit f.accB1 + 8 * bit f.narB1 + 16 * bit f.accB2 + 32 * bit f.narB2
    + 64 * bit f.accO + 128 * bit f.narO + 256 * bit f.accF + 512 * bit f.narF + 1024 * bit f.conv

/-- The compensator output U* that reproduces the last duty, at weight -30 (R149). `oldFrac` is the mode of the sample
that formed the transfer words. -/
def presetU (s : StrandState) (oldFrac : Bool) (q : StrandPar) (frac : Bool) : Int :=
  let kff := q.coefAt frac 18
  let d := (s.dp : Rat) * pow2 (-20)
  let f := if q.loop.ffVbus then (kff.t : Rat) * pow2 kff.w * (s.vrp : Rat) * pow2 (wVR oldFrac) else 0
  let l := if q.loop.ffLtab ∧ s.lrp ≠ 0 then (s.lrp : Rat) * pow2 (wLR oldFrac) else 1
  clampInt (-(2 ^ 47)) (2 ^ 47 - 1) (rheRat ((d - f) * pow2 30 / l))

/-- Step 0: the preset words of Table 5-4, narrowed or normalised as R129 gives. (Log entry: 49 DESIGN CHOICE.) -/
def StrandState.preset (s : StrandState) (oldFrac : Bool) (q : StrandPar) (v : InVec) : StrandState × SatFlags :=
  let frac := v.fmode
  let u : Term := ⟨presetU s oldFrac q frac, -30⟩
  let xp : Int := match v.mode with
    | .cc => s.xip
    | .manI => s.xip
    | .cv => s.xvp
    | .manD => s.xvp
  let k := fun j => q.coefAt frac j
  let pI := u.add ((k 0).mul ⟨xp, 0⟩).neg
  let rp := settleBlock frac q.fxP [pI, ⟨0, pI.w⟩]
  let bw := fun (b0 : Nat) =>
    let s2 := ((k (b0 + 2)).add (k (b0 + 4)).neg).mul u
    let s1 := (((k (b0 + 1)).add (k (b0 + 3)).neg).mul u).add s2
    [s1, s2]
  let r1 := settleBlock frac q.fxB1 (bw 4)
  let r2 := settleBlock frac q.fxB2 (bw 9)
  let ro := settleBlock frac q.fxO [⟨xp, 0⟩, ⟨0, 0⟩]
  let ru := settleOne frac q.fxP u
  let s := { s with i := rp.1.headD 0, d := 0, eP := rp.2.1, xp := xp, uc := ru.1, eUC := ru.2.1 }
  let s := if 1 ≤ q.loop.nbiq then { s with s11 := r1.1.headD 0, s12 := r1.1.getLastD 0, eB1 := r1.2.1 } else s
  let s := if q.loop.nbiq = 2 then { s with s21 := r2.1.headD 0, s22 := r2.1.getLastD 0, eB2 := r2.2.1 } else s
  let s := if q.loop.observer then { s with xh := ro.1.headD 0, dh := 0, eO := ro.2.1 } else s
  (s, { narP := rp.2.2, narB1 := decide (1 ≤ q.loop.nbiq) && r1.2.2, narB2 := decide (q.loop.nbiq = 2) && r2.2.2,
        narO := (q.loop.observer && ro.2.2) || ru.2.2 })

/-- Stage P (R117): the new state, u_P with its weight, and the flags. -/
def stageP (s : StrandState) (q : StrandPar) (frac withhold : Bool) (x0 : Int) : StrandState × Term × SatFlags :=
  let k := fun j => q.coefAt frac j
  let wA := (k 0).w - guardG frac
  let wS := wordWeight frac s.eP
  let dx := x0 - s.xp
  let ai := accumulate frac wA ([⟨s.i, wS⟩] ++ (if withhold then [] else [(k 1).mul ⟨x0, 0⟩]))
  let ad := accumulate frac wA [(k 3).mul ⟨s.d, wS⟩, (k 2).mul ⟨dx, 0⟩]
  let r := settleBlock frac q.fxP [⟨ai.1, wA⟩, ⟨ad.1, wA⟩]
  let i := r.1.headD 0
  let d := r.1.getLastD 0
  let wN := wordWeight frac r.2.1
  let au := accumulate frac wA [(k 0).mul ⟨x0, 0⟩, ⟨i, wN⟩, ⟨d, wN⟩]
  let u := settleOne frac q.fxP ⟨au.1, wA⟩
  ({ s with i := i, d := d, eP := r.2.1, xp := x0 }, ⟨u.1, wordWeight frac u.2.1⟩,
   { accP := ai.2 || ad.2 || au.2, narP := r.2.2 || u.2.2 })

/-- A biquad stage (R118) on input `x` with coefficient words from `b0` on and state block (s1, s2): the output with its
weight, the new block and its exponent, ACC and NAR. -/
def stageB (q : StrandPar) (frac : Bool) (b0 fx : Nat) (s1 s2 : Int) (e : Nat) (x : Term) :
    Term × (Int × Int × Nat) × Bool × Bool :=
  let k := fun j => q.coefAt frac (b0 + j)
  let wA := (k 0).w + x.w - guardG frac
  let wS := wordWeight frac e
  let ay := accumulate frac wA [(k 0).mul x, ⟨s1, wS⟩]
  let y := settleOne frac fx ⟨ay.1, wA⟩
  let yt : Term := ⟨y.1, wordWeight frac y.2.1⟩
  let a1 := accumulate frac wA [(k 1).mul x, ((k 3).mul yt).neg, ⟨s2, wS⟩]
  let a2 := accumulate frac wA [(k 2).mul x, ((k 4).mul yt).neg]
  let r := settleBlock frac fx [⟨a1.1, wA⟩, ⟨a2.1, wA⟩]
  (yt, (r.1.headD 0, r.1.getLastD 0, r.2.1), ay.2 || a1.2 || a2.2, y.2.2 || r.2.2)

/-- The observer stage (R119): the new state, uo, and the flags. -/
def stageO (s : StrandState) (q : StrandPar) (frac : Bool) (x0 : Int) : StrandState × Term × SatFlags :=
  let k := fun j => q.coefAt frac (14 + j)
  let wA := (k 0).w - guardG frac
  let wS := wordWeight frac s.eO
  let an := accumulate frac wA [⟨x0, 0⟩, ⟨-s.xh, wS⟩]
  let nu := settleOne frac q.fxO ⟨an.1, wA⟩
  let nt : Term := ⟨nu.1, wordWeight frac nu.2.1⟩
  let ax := accumulate frac wA
    [(k 2).mul ⟨s.xh, wS⟩, (k 3).mul ⟨s.uc, wordWeight frac s.eUC⟩, (k 0).mul nt]
  let ad := accumulate frac wA [⟨s.dh, wS⟩, (k 1).mul nt]
  let r := settleBlock frac q.fxO [⟨ax.1, wA⟩, ⟨ad.1, wA⟩]
  ({ s with xh := r.1.headD 0, dh := r.1.getLastD 0, eO := r.2.1 },
   ⟨r.1.getLastD 0, wordWeight frac r.2.1⟩, { accO := an.2 || ax.2 || ad.2, narO := nu.2.2 || r.2.2 })

/-- The compensator sum (R120): u_C as a word with its exponent, and the flags. `e` is the exponent of u_last. -/
def compSum (q : StrandPar) (frac : Bool) (ulast : Term) (uo : Option Term) : Int × Nat × SatFlags :=
  match uo with
  | some o =>
    let wA := min ulast.w o.w
    let a := accumulate frac wA [ulast, o]
    let r := settleOne frac q.fxP ⟨a.1, wA⟩
    (r.1, r.2.1, { accO := a.2, narO := r.2.2 })
  | none =>
    if frac then
      let r := narrow true ulast (wordWeight true q.fxP)
      (r.1, q.fxP, { narO := r.2 })
    else (ulast.t, (ulast.w + 24).toNat, {})

/-- The duty limits of R121 and R122: the delivered duty, CLAMPH and CLAMPL. -/
def limitDuty (q : StrandPar) (raw : Int) : Nat × Bool × Bool :=
  ((min (max raw ((q.dmin * 16 : Nat) : Int)) ((q.dmax * 16 : Nat) : Int)).toNat,
   decide (((q.dmax * 16 : Nat) : Int) < raw), decide (raw < ((q.dmin * 16 : Nat) : Int)))

/-- The output stage (R121): the raw duty and the flags. -/
def stageF (q : StrandPar) (frac : Bool) (uc : Term) (vr lr : Nat) : Int × SatFlags :=
  let t1 := if q.loop.ffLtab then Term.mul ⟨lr, wLR frac⟩ uc else uc
  let a := accumulate frac (-26)
    ([t1] ++ (if q.loop.ffVbus then [(q.coefAt frac 18).mul ⟨vr, wVR frac⟩] else []))
  let raw := rhe a.1 64
  (raw, { accF := a.2, narF := decide (raw < 0 ∨ 1048575 < raw) })

/-- What one sample of a strand gives: its state afterwards, the delivered duty, the flags it would set, and whether
each condition of R117 withheld the integrator. -/
structure StrandOut where
  st : StrandState
  duty : Nat
  flags : SatFlags
  whAw : Bool
  whOof : Bool
deriving DecidableEq, Repr

/-- One sample (Table 4-5) from the state after the previous one. `newCoef` says that the coefficients are converted to fraction form at
this sample (R127). (Log entry: 49 DESIGN CHOICE.) -/
def evalStrand (s0 : StrandState) (q : StrandPar) (v : InVec) (first newCoef : Bool) : StrandOut :=
  let frac := v.fmode
  let x0 := errorInput q v
  let s := if first then StrandState.fresh q x0 else s0
  let oldFrac := s.frac
  let m := s.toMode q frac
  let s := m.1
  let cc := frac && (newCoef || first || !oldFrac) && q.coef.toList.any coefClamps
  let f0 : SatFlags := { conv := m.2 || cc }
  let p := if v.pre then s.preset oldFrac q v else (s, {})
  let s := p.1
  let f0 := f0.or p.2
  let vr := busRatio frac v.vset v.vb
  let lr := rollOff q frac (phaseCurrent v.isum q.cslsb v.nact)
  let f0 := f0.or { narF := vr.2 }
  match v.mode with
  | .manD =>
    let l := limitDuty q v.mduty
    let s := { s with xp := x0, clampH := l.2.1, clampL := l.2.2, dp := l.1, vrp := vr.1, lrp := lr, xvp := -v.e,
                      xip := currentError q v }
    ⟨s, l.1, f0, false, false⟩
  | _ =>
    let prod := (q.coefAt frac 1).t * x0
    let whAw := q.awen && ((s.clampH && decide (0 < prod)) || (s.clampL && decide (prod < 0)))
    let whOof := q.oofen && v.oof
    let rP := stageP s q frac (whAw || whOof) x0
    let rO := if q.loop.observer then stageO rP.1 q frac x0 else (rP.1, ⟨0, 0⟩, {})
    let s := rO.1
    let uP := rP.2.1
    let f := (f0.or rP.2.2).or rO.2.2
    let b1 := stageB q frac 4 q.fxB1 s.s11 s.s12 s.eB1 uP
    let s1 := if 1 ≤ q.loop.nbiq then { s with s11 := b1.2.1.1, s12 := b1.2.1.2.1, eB1 := b1.2.1.2.2 } else s
    let u1 := if 1 ≤ q.loop.nbiq then b1.1 else uP
    let f := if 1 ≤ q.loop.nbiq then f.or { accB1 := b1.2.2.1, narB1 := b1.2.2.2 } else f
    let b2 := stageB q frac 9 q.fxB2 s.s21 s.s22 s.eB2 u1
    let s2 := if q.loop.nbiq = 2 then { s1 with s21 := b2.2.1.1, s22 := b2.2.1.2.1, eB2 := b2.2.1.2.2 } else s1
    let u2 := if q.loop.nbiq = 2 then b2.1 else u1
    let f := if q.loop.nbiq = 2 then f.or { accB2 := b2.2.2.1, narB2 := b2.2.2.2 } else f
    let c := compSum q frac u2 (if q.loop.observer then some rO.2.1 else none)
    let f := f.or c.2.2
    let o := stageF q frac ⟨c.1, wordWeight frac c.2.1⟩ vr.1 lr
    let f := f.or o.2
    let l := limitDuty q o.1
    let s := { s2 with uc := c.1, eUC := c.2.1, clampH := l.2.1, clampL := l.2.2, dp := l.1, vrp := vr.1, lrp := lr,
                       xvp := -v.e, xip := currentError q v }
    ⟨s, l.1, f, whAw, whOof⟩

/-- A state word of a checkpoint (R268). -/
def stateWord (m : Int) (e : Nat) : Nat := unsignedOf 18 m + e % 32 * 2 ^ 18

/-- The words 0x04 to 0x38 of a checkpoint (Table 9-7). -/
def StrandState.words (s : StrandState) : List Nat :=
  [stateWord s.i s.eP, stateWord s.d s.eP, stateWord s.s11 s.eB1, stateWord s.s12 s.eB1, stateWord s.s21 s.eB2,
   stateWord s.s22 s.eB2, stateWord s.xh s.eO, stateWord s.dh s.eO, stateWord s.uc s.eUC,
   bit s.frac * 2 ^ 31 + bit s.clampH * 2 ^ 17 + bit s.clampL * 2 ^ 16 + unsignedOf 11 s.xp,
   s.dp % 2 ^ 20, s.vrp % 2 ^ 18, s.lrp % 2 ^ 16, unsignedOf 10 s.xvp * 2 ^ 16 + unsignedOf 10 s.xip]

/-- The state signature SSIG (R248). -/
def StrandState.ssig (s : StrandState) : Nat := crcWords s.words

/-- A checkpoint: the tick of the sample that follows, the state words, the CRC (Table 9-7). -/
def StrandState.checkpoint (s : StrandState) (tick : Nat) : List Nat :=
  let ws := tick % 2 ^ 32 :: s.words
  ws ++ [crcWords ws]

/-- The state that the words of a checkpoint hold (R270, R272). -/
def StrandState.ofWords (ws : List Nat) : StrandState :=
  let g := fun k => ws.getD k 0
  let m := fun k => signedOf 18 (g k)
  let e := fun k => bitsOf (g k) 18 5
  { frac := bitAt (g 10) 31, i := m 1, d := m 2, eP := e 1, s11 := m 3, s12 := m 4, eB1 := e 3, s21 := m 5, s22 := m 6,
    eB2 := e 5, xh := m 7, dh := m 8, eO := e 7, uc := m 9, eUC := e 9, clampH := bitAt (g 10) 17,
    clampL := bitAt (g 10) 16, xp := signedOf 11 (g 10), dp := bitsOf (g 11) 0 20, vrp := bitsOf (g 12) 0 18,
    lrp := bitsOf (g 13) 0 16, xvp := signedOf 10 (bitsOf (g 14) 16 10), xip := signedOf 10 (bitsOf (g 14) 0 10) }

/-- The input vector as the words 0 to 4 of a trace record (Table 9-6), with the flags of word 2 in `marks`. -/
def InVec.words (v : InVec) (marks : Nat) (res : Int) : List Nat :=
  let mode := match v.mode with
    | .cv => 0
    | .cc => 1
    | .manI => 2
    | .manD => 3
  [(bit v.ovr * 512 + unsignedOf 9 v.e) * 2 ^ 22 + mode * 2 ^ 20 + unsignedOf 20 v.isum,
   v.nact % 64 * 2 ^ 26 + v.facet.val * 2 ^ 23 + bit v.pre * 2 ^ 22 + bit v.oof * 2 ^ 21 + bit v.fmode * 2 ^ 20
     + v.vb % 2 ^ 20,
   marks * 2 ^ 27 + v.vset % 2 ^ 20, v.mduty % 2 ^ 20 * 2 ^ 12, unsignedOf 16 v.iset * 2 ^ 16 + unsignedOf 16 res]

/-- The input vector that the words of a trace record hold. -/
def InVec.ofWords (ws : List Nat) : InVec :=
  let g := fun k => ws.getD k 0
  { e := signedOf 9 (bitsOf (g 0) 22 9), ovr := bitAt (g 0) 31,
    mode := match bitsOf (g 0) 20 2 with
      | 0 => .cv
      | 1 => .cc
      | 2 => .manI
      | _ => .manD
    isum := signedOf 20 (bitsOf (g 0) 0 20), nact := bitsOf (g 1) 26 6,
    facet := ⟨bitsOf (g 1) 23 3 % 8, Nat.mod_lt _ (by decide)⟩, pre := bitAt (g 1) 22, oof := bitAt (g 1) 21,
    fmode := bitAt (g 1) 20, vb := bitsOf (g 1) 0 20, vset := bitsOf (g 2) 0 20, mduty := bitsOf (g 3) 12 20,
    iset := signedOf 16 (bitsOf (g 4) 16 16) }

end Sys2Proof.Machine
end

