-- ==== Sys2Proof/Machine/Ops.lean ====
section
/-! DEFINITION. Machine/Ops.lean: the named operations over the register file, the memories, the time base and the
elements of the state, which every meaning uses. -/
namespace Sys2Proof.Machine

/-- The reset word of a register (the reset column of its field table). -/
def RKey.dflt (k : RKey) : Word := BitVec.ofNat 32 k.reg.row.reset

/-- The order of the register file: by name, then by element. -/
def RKey.before (a b : RKey) : Bool :=
  decide (a.reg.ctorIdx < b.reg.ctorIdx) || (decide (a.reg.ctorIdx = b.reg.ctorIdx) && decide (a.n < b.n))

/-- The word a register holds; a register that the file does not list holds its reset word. -/
def RegFile.get (f : RegFile) (k : RKey) : Word :=
  match f with
  | [] => k.dflt
  | e :: r => if e.1 = k then e.2 else RegFile.get r k

/-- The file without a register. -/
def RegFile.drop (f : RegFile) (k : RKey) : RegFile :=
  match f with
  | [] => []
  | e :: r => if e.1 = k then RegFile.drop r k else e :: RegFile.drop r k

/-- An entry put at its place. -/
def RegFile.ins (f : RegFile) (e : RKey × Word) : RegFile :=
  match f with
  | [] => [e]
  | d :: r => if e.1.before d.1 then e :: d :: r else d :: RegFile.ins r e

/-- A register set to a word; the reset word leaves no entry. -/
def RegFile.put (f : RegFile) (k : RKey) (w : Word) : RegFile :=
  if w = k.dflt then RegFile.drop f k else RegFile.ins (RegFile.drop f k) (k, w)

/-- The canonical form: sorted, each register once, no reset word listed. -/
def RegFile.wf : RegFile → Bool
  | [] => true
  | e :: r => decide (e.2 ≠ e.1.dflt) && r.all (fun d => e.1.before d.1) && RegFile.wf r

/-- A register's word. -/
def State.reg (s : State) (r : Reg) (n : Nat) : Word := s.regs.get ⟨r, n⟩

/-- A register set. -/
def State.setReg (s : State) (r : Reg) (n : Nat) (w : Word) : State := { s with regs := s.regs.put ⟨r, n⟩ w }

/-- A word with the `width` bits from `lo` replaced. -/
def setBits (w : Word) (lo width v : Nat) : Word :=
  BitVec.ofNat 32 (w.toNat / 2 ^ (lo + width) * 2 ^ (lo + width) + v % 2 ^ width * 2 ^ lo + w.toNat % 2 ^ lo)

/-- A field as a number. -/
def State.fld (s : State) (f : Fld) (n : Nat) : Nat := bitsOf (s.reg f.reg n).toNat f.lo f.width

/-- A field in two's complement. -/
def State.fldS (s : State) (f : Fld) (n : Nat) : Int := signedOf f.width (s.fld f n)

/-- A one-bit field. -/
def State.flag (s : State) (f : Fld) (n : Nat) : Bool := s.fld f n == 1

/-- The counter registers that a write of any value clears (R415). -/
def Reg.counter : Reg → Bool
  | .TB_MCNT => true
  | .TB_XCNT => true
  | .LY_ERRC => true
  | .RL_SCNT => true
  | .RL_LCNT => true
  | .LK_ERRC => true
  | .PH_FCNT => true
  | .ST_CNT => true
  | .FM_CNT => true
  | .HB_CNT => true
  | .HB_ARA => true
  | .PR_QSTAT => true
  | _ => false

/-- A field that counts, and that a host write clears to 0: those of the counter registers, and those that a W1C flag beside them
clears (R415). -/
def Fld.counts (f : Fld) : Bool :=
  (f.reg.counter && f.reg != .PR_QSTAT) || f == PH_PEVT.SKIPCNT || f == PH_ISTAT.OVRCNT || f == LB_STATUS.LOST

/-- Hardware sets the bit `i` of a register at this tick (R13). -/
def State.note (s : State) (r : Reg) (n i : Nat) : State :=
  { s with hot := { at_ := s.now, bits := (⟨r, n⟩, i) :: if s.hot.at_ = s.now then s.hot.bits else [] } }

/-- The bits of a register that hardware has set at this tick (R13). (Log entry: 1 DESIGN CHOICE.) -/
def State.hotBits (s : State) (r : Reg) (n : Nat) : Nat :=
  if s.hot.at_ = s.now then s.hot.bits.foldl (fun a e => if e.1 = ⟨r, n⟩ then a ||| 2 ^ e.2 else a) 0 else 0

/-- A field set to the low bits of a number. A W1C flag set to 1 and a count that is not 0 are noted as set at this tick. -/
def State.setFld (s : State) (f : Fld) (n v : Nat) : State :=
  { s with
    regs := s.regs.put ⟨f.reg, n⟩ (setBits (s.reg f.reg n) f.lo f.width v)
    hot := if (f.width = 1 ∧ v = 1 ∧ bitAt f.reg.row.w1c f.lo = true) ∨ (v ≠ 0 ∧ f.counts = true)
      then (s.note f.reg n f.lo).hot else s.hot }

/-- A field set in two's complement. -/
def State.setFldS (s : State) (f : Fld) (n : Nat) (v : Int) : State := s.setFld f n (unsignedOf f.width v)

/-- A flag set to 1: how hardware sets a W1C flag (R13). -/
def State.raise (s : State) (f : Fld) (n : Nat) : State := s.setFld f n 1

/-- One bit of a field of W1C flags set to 1 (R13). -/
def State.raiseBit (s : State) (f : Fld) (n i : Nat) : State := (s.setFld f n (s.fld f n ||| 2 ^ i)).note f.reg n (f.lo + i)

/-- The bits `m` of a register of W1C flags set to 1 (R13). -/
def State.raiseMask (s : State) (r : Reg) (n m : Nat) : State :=
  (List.range 32).foldl (fun s i => if bitAt m i then s.note r n i else s) (s.setReg r n (BitVec.ofNat 32 ((s.reg r n).toNat ||| m)))

/-- A counter field counted up, saturating at all ones. -/
def State.bump (s : State) (f : Fld) (n : Nat) : State := s.setFld f n (satNat (2 ^ f.width - 1) (s.fld f n + 1))

/-- A field of a word written. -/
def Fld.of (f : Fld) (w : Word) : Nat := bitsOf w.toNat f.lo f.width

/-- The fields of one register set in turn. -/
def State.setFlds (s : State) (n : Nat) (fs : List (Fld × Nat)) : State := fs.foldl (fun s e => s.setFld e.1 n e.2) s

/-- The rail of a number that may lie outside the rails. -/
def railOf (n : Nat) : Fin 12 := ⟨n % 12, Nat.mod_lt _ (by decide)⟩
def phaseOf (n : Nat) : Fin 48 := ⟨n % 48, Nat.mod_lt _ (by decide)⟩
def strandOf (n : Nat) : Fin 32 := ⟨n % 32, Nat.mod_lt _ (by decide)⟩
def facetOf (n : Nat) : Fin 8 := ⟨n % 8, Nat.mod_lt _ (by decide)⟩
def chanOf (n : Nat) : Fin 4 := ⟨n % 4, Nat.mod_lt _ (by decide)⟩
def winOf (n : Nat) : Fin 72 := ⟨n % 72, Nat.mod_lt _ (by decide)⟩
def braidOf (n : Nat) : Fin 16 := ⟨n % 16, Nat.mod_lt _ (by decide)⟩

/-- A step over every element of a kind, in number order. -/
def State.forRails (s : State) (f : State → Fin 12 → State) : State := (List.finRange 12).foldl f s
def State.forPhases (s : State) (f : State → Fin 48 → State) : State := (List.finRange 48).foldl f s
def State.forStrands (s : State) (f : State → Fin 32 → State) : State := (List.finRange 32).foldl f s
def State.forWins (s : State) (f : State → Fin 72 → State) : State := (List.finRange 72).foldl f s

/-- The records of one element, read and changed. -/
def State.rail (s : State) (n : Fin 12) : RailX := s.rails[n]
def State.modRail (s : State) (n : Fin 12) (f : RailX → RailX) : State := { s with rails := s.rails.set n (f s.rails[n]) }
def State.modLoop (s : State) (n : Fin 12) (f : LoopX → LoopX) : State := s.modRail n fun r => { r with loop := f r.loop }
def State.modErr (s : State) (n : Fin 12) (f : ErrConv → ErrConv) : State := s.modRail n fun r => { r with err := f r.err }
def State.modMode (s : State) (n : Fin 12) (f : ModeX → ModeX) : State := s.modRail n fun r => { r with mode := f r.mode }
def State.modCarrier (s : State) (n : Fin 12) (f : CarrierX → CarrierX) : State :=
  s.modRail n fun r => { r with carrier := f r.carrier }
def State.modLife (s : State) (n : Fin 12) (f : LifeX → LifeX) : State := s.modRail n fun r => { r with life := f r.life }
def State.modProt (s : State) (n : Fin 12) (f : ProtX → ProtX) : State := s.modRail n fun r => { r with prot := f r.prot }
def State.modMan (s : State) (n : Fin 12) (f : ManX → ManX) : State := s.modRail n fun r => { r with man := f r.man }
def State.modSense (s : State) (n : Fin 12) (f : SenseX → SenseX) : State := s.modRail n fun r => { r with sense := f r.sense }
def State.phase (s : State) (p : Fin 48) : PhaseX := s.phases[p]
def State.modPhase (s : State) (p : Fin 48) (f : PhaseX → PhaseX) : State :=
  { s with phases := s.phases.set p (f s.phases[p]) }
def State.win (s : State) (x : Fin 72) : WinX := s.wins[x]
def State.modWin (s : State) (x : Fin 72) (f : WinX → WinX) : State := { s with wins := s.wins.set x (f s.wins[x]) }
def State.strand (s : State) (k : Fin 32) : StrandX := s.strands[k]
def State.modStrand (s : State) (k : Fin 32) (f : StrandX → StrandX) : State :=
  { s with strands := s.strands.set k (f s.strands[k]) }
def State.modBraid (s : State) (k : Fin 16) (f : BraidX → BraidX) : State :=
  { s with braids := s.braids.set k (f s.braids[k]) }
def State.modTrace (s : State) (n : Fin 12) (f : TraceX → TraceX) : State := { s with trace := s.trace.set n (f s.trace[n]) }
def State.link (s : State) (n : Fin 12) : LinkX := s.links[n]
def State.modLink (s : State) (n : Fin 12) (f : LinkX → LinkX) : State := { s with links := s.links.set n (f s.links[n]) }
def State.group (s : State) (n : Fin 12) : GroupX := s.lan.groups[n]
def State.modLan (s : State) (f : LanX → LanX) : State := { s with lan := f s.lan }
def State.modGroup (s : State) (n : Fin 12) (f : GroupX → GroupX) : State :=
  s.modLan fun l => { l with groups := l.groups.set n (f l.groups[n]) }
def State.timer (s : State) (k : Fin 12) : TimerX := s.timers[k]
def State.modTimer (s : State) (k : Fin 12) (f : TimerX → TimerX) : State :=
  { s with timers := s.timers.set k (f s.timers[k]) }
def State.fan (s : State) (k : Fin 4) : FanX := s.fans[k]
def State.modFan (s : State) (k : Fin 4) (f : FanX → FanX) : State := { s with fans := s.fans.set k (f s.fans[k]) }
def State.temp (s : State) (i : Fin 16) : TempX := s.temps[i]
def State.modTemp (s : State) (i : Fin 16) (f : TempX → TempX) : State := { s with temps := s.temps.set i (f s.temps[i]) }
def State.modTele (s : State) (f : TeleX → TeleX) : State := { s with tele := f s.tele }
def State.modTime (s : State) (f : TimeX → TimeX) : State := { s with time := f s.time }
def State.modFault (s : State) (f : FaultX → FaultX) : State := { s with fault := f s.fault }
def State.modFlash (s : State) (f : FlashX → FlashX) : State := { s with flash := f s.flash }
def State.modPower (s : State) (f : PowerX → PowerX) : State := { s with power := f s.power }
def State.modBus (s : State) (f : BusX → BusX) : State := { s with bus := f s.bus }
def State.modRig (s : State) (f : RigX → RigX) : State := { s with rig := f s.rig }
def State.modPins (s : State) (f : PinX → PinX) : State := { s with pins := f s.pins }
def State.modLog (s : State) (f : LogX → LogX) : State := { s with log := f s.log }

/-- Absolute time at a tick since reset release (R19): 60 bits. (Log entry: 12 DEDUCED.) -/
def State.absAt (s : State) (t : Nat) : Nat := ((t : Int) + s.skew).toNat % 2 ^ 60

/-- Absolute time T, the epoch E and the bell count K (R19). (Log entry: 12 DEDUCED.) -/
def State.T (s : State) : Nat := s.absAt s.now
def State.E (s : State) : Nat := s.T / 4096
def State.K (s : State) : Nat := s.T % 4096

/-- The first tick, at `t` or later, at which absolute time is `o` modulo `m`. (Log entries: 2 DESIGN CHOICE, 12 DEDUCED.) -/
def State.nextGrid (s : State) (t m o : Nat) : Nat :=
  t + ((o : Int) - ((t : Int) + s.skew)).emod (m : Int) |>.toNat

/-- The event of tick `t`: time goes on to it, and never back. (Log entry: 2 DESIGN CHOICE.) -/
def State.advance (s : State) (t : Nat) : State := { s with now := max s.now t }

/-- What was due at tick `t` happens as of that tick; time stands at the later of the two afterwards. (Log entry: 36 DEDUCED.) -/
def State.asOf (s : State) (t : Nat) (f : State → State) : State := (f { s with now := t }).advance s.now

/-- Ticks of a microsecond and of a millisecond (R18). -/
def us : Nat := 200
def ms : Nat := 200000

/-- The host interface is ready (R316): the boot has run, and the power-up sequence or the wake has ended. -/
def State.ready (s : State) : Bool := s.power.ready && decide (s.power.readyAt ≤ s.now)

/-- A free value of `w` bits is taken. (Log entry: 7 DESIGN CHOICE.) -/
def State.takeFree (s : State) (w : Nat) : BitVec w × State := (Config.freeValue w s.frees, { s with frees := s.frees + 1 })

/-- A value for a 20-bit field: as it is where it fits, free where it does not, since the spec states none. (Log entry: 7 DESIGN CHOICE.)
-/
def State.field20 (s : State) (v : Nat) : Nat × State :=
  if v < 2 ^ 20 then (v, s) else
    let q := s.takeFree 20
    (q.1.toNat, q.2)

/-- The registers whose writes act a set time later (R137, R147, R180, R232). (Log entry: 13 DEDUCED.) -/
def Reg.delayed : Reg → Bool
  | .RL_LCTL => true
  | .RL_DLIM => true
  | .RL_VTGT => true
  | .RL_ITGT => true
  | .RL_VSLEW => true
  | .RL_VACC => true
  | .RL_VJERK => true
  | .RL_ISLEW => true
  | .RL_IACC => true
  | .RL_IJERK => true
  | .RL_MCTL => true
  | .RL_MDUTY => true
  | .RL_MANI => true
  | .RL_FCTL => true
  | .RL_PMCTL => true
  | .RL_PMROT => true
  | .RL_PMBAL => true
  | .RL_TRCTL => true
  | .RL_TRTHR => true
  | .RL_REVS => true
  | .CMP_THR => true
  | .PH_OVR => true
  | _ => false

/-- A register set by a write whose old word the write log keeps. (Log entry: 13 DEDUCED.) -/
def State.writeReg (s : State) (r : Reg) (n : Nat) (w : Word) : State :=
  let s := if r.delayed ∧ s.reg r n ≠ w then { s with wlog := (⟨r, n⟩, s.reg r n, s.now) :: s.wlog } else s
  s.setReg r n w

/-- The word of a register as the writes accepted at least 2 ticks before tick `t` left it. (Log entry: 13 DEDUCED.) -/
def State.regAt (s : State) (r : Reg) (n t : Nat) : Word :=
  s.wlog.foldl (fun w e => if e.1 = ⟨r, n⟩ ∧ t < e.2.2 + 2 then e.2.1 else w) (s.reg r n)

/-- A field as those writes left it. (Log entry: 13 DEDUCED.) -/
def State.fldAt (s : State) (f : Fld) (n t : Nat) : Nat := bitsOf (s.regAt f.reg n t).toNat f.lo f.width
def State.fldSAt (s : State) (f : Fld) (n t : Nat) : Int := signedOf f.width (s.fldAt f n t)

/-- A field as the writes accepted before the present tick left it: a write acts from the next tick on (R232). (Log entry: 13 DEDUCED.) -/
def State.fldNext (s : State) (f : Fld) (n : Nat) : Nat :=
  bitsOf (s.wlog.foldl (fun w e => if e.1 = ⟨f.reg, n⟩ ∧ s.now ≤ e.2.2 then e.2.1 else w) (s.reg f.reg n)).toNat f.lo f.width

/-- Writes that every reader has passed leave the write log. (Log entry: 13 DEDUCED.) -/
def State.pruneLog (s : State) : State := { s with wlog := s.wlog.filter fun e => decide (s.now < e.2.2 + 1024) }

/-- One byte of an addressed memory: bytes that nothing has written read as `fill`. -/
def memGet (fill : Byte) (m : List Host.Cell) (a : Nat) : Byte :=
  match m with
  | [] => fill
  | e :: r => if e.1 = a then e.2 else memGet fill r a

/-- A memory without an address. -/
def memDrop (m : List Host.Cell) (a : Nat) : List Host.Cell :=
  match m with
  | [] => []
  | e :: r => if e.1 = a then memDrop r a else e :: memDrop r a

/-- A byte put at its place. -/
def memIns (m : List Host.Cell) (e : Host.Cell) : List Host.Cell :=
  match m with
  | [] => [e]
  | d :: r => if e.1 < d.1 then e :: d :: r else d :: memIns r e

/-- A byte written; the value an unlisted address reads as leaves no entry. -/
def memPut (fill : Byte) (m : List Host.Cell) (a : Nat) (b : Byte) : List Host.Cell :=
  if b = fill then memDrop m a else memIns (memDrop m a) (a, b)

/-- Bytes written from an address on. -/
def memPutAll (fill : Byte) (m : List Host.Cell) (a : Nat) (bs : List Byte) : List Host.Cell :=
  match bs with
  | [] => m
  | b :: r => memPutAll fill (memPut fill m a b) (a + 1) r

/-- `k` bytes from an address on. -/
def memBytes (fill : Byte) (m : List Host.Cell) (a : Nat) : Nat → List Nat
  | 0 => []
  | k + 1 => (memGet fill m a).toNat :: memBytes fill m (a + 1) k

/-- The canonical form of a memory: addresses strictly rising, no byte equal to what an unlisted address reads as. -/
def memWf (fill : Byte) : List Host.Cell → Bool
  | [] => true
  | e :: r => decide (e.2 ≠ fill) && r.all (fun d => decide (e.1 < d.1)) && memWf fill r

end Sys2Proof.Machine
end

