-- ==== Sys2Proof/Machine/Flags.lean ====
section
/-! DEFINITION. Machine/Flags.lean: the alert summary (§15.3) and how every command ends: with the alert line evaluated
once (R326, R420). -/
namespace Sys2Proof.Machine

/-- The flags that raise an alert (Table 15-14): the source, the field, and how many elements have it. The timer's flags
stand apart, because a channel's IE decides. -/
def alertTable : List (Nat × Fld × Nat) :=
  [(0, TB_STATUS.TBLOSS, 1), (0, TB_STATUS.HOLDIN, 1),
   (1, RG_EVENT.SHDBE, 1), (1, RG_EVENT.DBE, 1), (1, RG_EVENT.SWAPPED, 1), (1, RG_EVENT.REFUSED, 1), (1, RG_EVENT.DONE, 1),
   (2, CV_STATUS.OPENL, 1), (2, CV_STATUS.DACFAIL, 1), (2, CV_STATUS.TC1DRIFT, 1), (2, CV_STATUS.TC0DRIFT, 1),
   (3, ST_FLAG.MISS, 32), (3, ST_TEST.FAIL, 32), (3, ALR_EVT.AT, 1),
   (4, PH_PEVT.GFIT, 48), (4, PH_MSTAT.RETF, 48), (4, PH_MSTAT.HOLDF, 48), (4, PH_BTRIM.TLIM, 48),
   (4, RL_PMSTAT.REVBLK, 12), (4, RL_PMSTAT.RESPLICE, 12), (4, RL_TRSTAT.ONF, 12), (4, RL_TRSTAT.OFFF, 12),
   (5, RL_STATUS.FLTF, 12), (5, ALR_EVT.SPD, 1),
   (6, PR_STATUS.BUDOVR, 1), (6, PR_STATUS.BUSOV, 1), (6, PR_STATUS.BUSUV, 1), (6, PR_STATUS.TSDF, 1), (6, PR_STATUS.BOFF, 1),
   (7, FM_STATUS.SUPPERM, 1), (7, FM_STATUS.SUPWDT, 1), (7, FM_STATUS.NOSPARE, 1), (7, FM_STATUS.TAKEOVER, 1),
   (7, FM_STATUS.PERM, 1), (7, FM_STATUS.TRANS, 1), (7, MS_STAT.DISF, 12), (7, TR_STATUS.FRZF, 1), (7, RP_STATUS.DONEF, 1),
   (8, LK_EVENT.NOTFAIL, 12), (8, LK_EVENT.WDX, 12), (8, LK_EVENT.REBIND, 12), (8, LK_EVENT.GONE, 12), (8, LK_EVENT.BOUND, 12),
   (9, HB_STATUS.ARBSP, 1), (9, HB_STATUS.TIMEOUT, 1), (9, HB_STATUS.PECERR, 1),
   (10, LY_EVENT.TOKREGEN, 1), (10, LY_EVENT.ACTRES, 1), (10, LY_EVENT.ACTERR, 1), (10, LY_EVENT.DETACH, 1),
   (10, LY_EVENT.GRPERR, 1), (10, LY_EVENT.TMIS, 1), (10, LY_EVENT.SYNCERR, 1), (10, LY_EVENT.MEMERR, 1),
   (10, LY_EVENT.RESTORED, 1), (10, LY_EVENT.HOPOUT, 1), (10, LY_EVENT.HOPIN, 1), (10, LY_EVENT.FORMED, 1),
   (12, FAN_STAT.BLOCKF, 4), (12, FAN_STAT.TLOSTF, 4), (13, TH_STATUS.INVF, 1),
   (14, SV_EVENT.SETDISC, 1), (14, SV_EVENT.HALFERASE, 1), (14, SV_EVENT.FALLBACK, 1), (14, SV_EVENT.COMMITTED, 1),
   (14, SV_EVENT.ROLLEDBACK, 1), (14, SV_EVENT.TRIAL, 1), (14, SV_EVENT.REFUSED, 1)]

/-- The key of a timer channel's registers: they are reached through TM_CHSEL and stored once for each channel. -/
def chanKey (k c : Nat) : Nat := k * 4 + c

/-- The EVF bits of a timer that raise the timer alert: those whose channel has IE 1. -/
def State.timerAlerts (s : State) (k : Nat) : Nat :=
  (List.range 4).foldl (fun a c =>
    a + (if bitAt (s.fld TM_STAT.EVF k) c && s.flag TM_CHCFG.IE (chanKey k c) then 2 ^ c else 0)) 0

/-- Every alert flag of the state, in a fixed order, with its source. -/
def State.alertFlags (s : State) : List (Nat × Nat) :=
  alertTable.flatMap (fun e => (List.range e.2.2).map fun n => (e.1, s.fld e.2.1 n))
    ++ (List.range 12).map fun k => (11, s.timerAlerts k)

/-- ALR_SUM.SRC (R419). -/
def State.alertSources (s : State) : Nat :=
  s.alertFlags.foldl (fun a e => if e.2 ≠ 0 then a ||| 2 ^ e.1 else a) 0

/-- ALR_SUM.PEND (R420): a source has a flag set and its mask bit is 0. -/
def State.alertPending (s : State) : Bool :=
  s.alertFlags.any fun e => e.2 != 0 && !bitAt (s.fld ALR_MASK.MASK 0) e.1

/-- Whether a source that is not masked newly sets a flag between two states (R326). -/
def newAlert (s t : State) : Bool :=
  ((s.alertFlags.zip t.alertFlags).any fun e =>
    (e.1.2 ||| e.2.2) != e.1.2 && !bitAt (t.fld ALR_MASK.MASK 0) e.2.1)

/-- A fan allows sleep: it is OFF, or a timer that runs on the low-power clock drives it (R439). (Log entry: 20 DEDUCED.) -/
def State.fanQuiet (s : State) (f : Fin 4) : Bool :=
  s.fld FAN_STAT.STATE f == 0 || (s.flag FAN_CTRL.SRC f && s.flag TM_CTRL.LPCLK (s.fld FAN_CTRL.TM f))

/-- The conditions of R439 as they stand now: every rail is OFF (0) or RETIRED (8), no link is BOUND (2), and no CHECK (2) or swap (4) is
under way. The supervisor waits while it runs (1) and has no logbook record to write, or while the boot ROM stands in for it in RECOVERY
(3). (Log entry: 20 DEDUCED.) -/
def State.sleepOk (s : State) : Bool :=
  (List.range 12).all (fun n => (s.fld RL_STATUS.STATE n == 0 || s.fld RL_STATUS.STATE n == 8) && s.fld LK_STATUS.LSTATE n != 2)
    && !s.flag LY_CTRL.EN 0 && !s.flag TB_CTRL.SRC 0 && s.flag CV_CTRL.LPEN 0
    && s.fld RG_STATUS.STATE 0 != 2 && s.fld RG_STATUS.STATE 0 != 4
    && !s.flag FU_STATUS.ACTPEND 0 && !s.flag FU_STATUS.BUSY 0 && s.flash.ops == []
    && (s.fld SV_STATUS.STATE 0 == 3 || (s.fld SV_STATUS.STATE 0 == 1 && s.log.queue == []))
    && !s.power.halted && !s.bus.block && !s.bus.reading
    && (List.finRange 4).all s.fanQuiet

/-- How a command from `s` that leaves the machine at `t` ends: an acknowledged alert stays acknowledged only while an alert is pending
and no source has newly made one pending (R325, R326), and `quiet` keeps the tick since which the conditions of sleep hold (R439). (Log
entry: 20 DEDUCED.) -/
def settle (s t : State) : State :=
  { (t.setFld HB_STATUS.ACKD 0 (bit (t.flag HB_STATUS.ACKD 0 && t.alertPending && !newAlert s t))) with
    quiet := if t.sleepOk then some (t.quiet.getD t.now) else none }

/-- The answer of every command: the next state. -/
def done (s t : State) : Host.Outcome State Fault Refusal := .next (settle s t)

/-- The answer of an event of the hardware that TBCLK drives: it happens while the block runs, and not in reset, sleep or deep
standby (R246, R440, R443). -/
def clocked (s t : State) : Host.Outcome State Fault Refusal := done s (if s.power.mode = .running then t else s)

/-- Whether pin-level both-off, reset or deep standby holds the block (R246, R316). -/
def State.held (s : State) : Bool := s.power.mode == .held || s.power.mode == .standby

/-- The device asserts ALERT# (R323): an alert is pending and not acknowledged, outside reset and deep standby. What the ball presents while
the test port drives it is State.alertPin. -/
def State.alertLine (s : State) : Bool := !s.held && s.alertPending && !s.flag HB_STATUS.ACKD 0

end Sys2Proof.Machine
end

