-- ==== Sys2Proof/Machine/Phases.lean ====
section
/-! DEFINITION. Machine/Phases.lean: the phases of a rail: their states, the override priority (Table 6-3), their edges, and
the entry to and the return from the overrides (chapter 6, R171 to R174). -/
namespace Sys2Proof.Machine

/-- The codes of RL_STATUS.STATE (Table 8-1). -/
def stOff : Nat := 0
def stPrematch : Nat := 1
def stClose : Nat := 2
def stRamp : Nat := 3
def stRegulate : Nat := 4
def stRampdown : Nat := 5
def stOpen : Nat := 6
def stFault : Nat := 7
def stRetired : Nat := 8

/-- The lifecycle state of a rail. -/
def State.rst (s : State) (n : Nat) : Nat := s.fld RL_STATUS.STATE n

/-- A rail is live in every state except OFF and RETIRED (R61). -/
def State.live (s : State) (n : Nat) : Bool := s.rst n != stOff && s.rst n != stRetired

/-- A rail whose loop runs: from PREMATCH to OPEN. -/
def State.switching (s : State) (n : Nat) : Bool := decide (1 ≤ s.rst n ∧ s.rst n ≤ 6)

/-- Whether an element is absent on SKV2406 (R8, Table 0-6). -/
def State.absentRail (s : State) (n : Nat) : Bool := s.small && decide (6 ≤ n)
def State.absentPhase (s : State) (p : Nat) : Bool := s.small && decide (24 ≤ p)
def State.absentStrand (s : State) (k : Nat) : Bool := s.small && decide (16 ≤ k)

/-- A condition of R96 under which TRIM adapts is not met: CV_TRIM.FROZEN. (Log entry: 38 DEDUCED.) -/
def State.trimFrozen (s : State) (n : Fin 12) : Bool :=
  !(s.flag CV_TRIM.TRIMEN n && s.rst n == stRegulate && (s.rail n).mode.last == some .cv && s.flag RL_PSET.VREST n
    && !(s.rail n).sense.ovrSeen && !s.flag CV_STATUS.TC0DRIFT 0)

/-- The telemetry channels that SKV2406 does not have (Table 15-21). -/
def absentChan (c : Nat) : Bool := decide (6 ≤ c ∧ c < 12) || decide (18 ≤ c ∧ c < 24) || decide (84 ≤ c)

/-- The phases spliced to a rail, in number order. -/
def State.railPhases (s : State) (n : Fin 12) : List (Fin 48) :=
  (List.finRange 48).filter fun p => s.fld PH_PCFG.RAIL p == n.val

/-- The states of PH_MSTAT (Table 7-1). -/
def phNone : Nat := 0
def phActive : Nat := 1
def phShed : Nat := 2
def phHeld : Nat := 3
def phRetired : Nat := 4

/-- The phases of a rail that are in one state, and their number. -/
def State.phasesIn (s : State) (n : Fin 12) (st : Nat) : List (Fin 48) :=
  (s.railPhases n).filter fun p => s.fld PH_MSTAT.STATE p == st
def State.numIn (s : State) (n : Fin 12) (st : Nat) : Nat := (s.phasesIn n st).length

/-- The state of a phase at the present tick: an add counts from 2 ticks after its step, a fault hold from the next tick (R188, R202).
(Log entry: 35 DEDUCED.) -/
def State.phState (s : State) (p : Fin 48) : Nat :=
  if s.now < (s.phase p).since then (s.phase p).was else s.fld PH_MSTAT.STATE p

/-- The counts of RL_PMSTAT (Table 7-7): NACT, NSHED with the held phases, NHELD and NRET. (Log entry: 35 DEDUCED.) -/
def State.phCounts (s : State) (n : Fin 12) : Nat :=
  let k := fun st => ((s.railPhases n).filter fun p => s.phState p == st).length
  k phActive * 2 ^ RL_PMSTAT.NACT.lo + (k phShed + k phHeld) * 2 ^ RL_PMSTAT.NSHED.lo + k phHeld * 2 ^ RL_PMSTAT.NHELD.lo
    + k phRetired * 2 ^ RL_PMSTAT.NRET.lo

/-- The group record of a local rail in the active set, and whether the rail follows another device (R344, R346). -/
def State.groupOf (s : State) (n : Fin 12) : Option GroupE := s.active.lanyard.groups.find? fun g => g.rail == n
def State.follower (s : State) (n : Fin 12) : Bool :=
  match s.groupOf n with
  | some g => g.role == 2
  | none => false
def State.lead (s : State) (n : Fin 12) : Bool :=
  match s.groupOf n with
  | some g => g.role == 1
  | none => false

/-- The rail a phase is spliced to. -/
def State.phRail (s : State) (p : Fin 48) : Option (Fin 12) :=
  if h : s.fld PH_PCFG.RAIL p < 12 then some ⟨s.fld PH_PCFG.RAIL p, h⟩ else none

/-- One accumulator grows by a power of 10 mW over `len` ticks (R102): the residue, and the accumulator with its saturation. -/
def energyStep (res acc p len : Nat) : Nat × Nat :=
  let r := res + p * len
  (r % 20000000, satNat (2 ^ 64 - 1) (acc + r / 20000000))

/-- The energy of a frame of `len` ticks (R102). -/
def State.addEnergy (s : State) (n : Fin 12) (len : Nat) : State :=
  let x := (s.rail n).sense
  if !s.live n ∨ x.pf = 0 then s
  else if 0 < x.pf then
    let r := energyStep x.resF (s.fld RL_EFWD_HI.E n * 2 ^ 32 + s.fld RL_EFWD_LO.E n) x.pf.natAbs len
    (s.setFlds n [(RL_EFWD_HI.E, r.2 / 2 ^ 32), (RL_EFWD_LO.E, r.2)]).modSense n fun y => { y with resF := r.1 }
  else
    let r := energyStep x.resR (s.fld RL_EREV_HI.E n * 2 ^ 32 + s.fld RL_EREV_LO.E n) x.pf.natAbs len
    (s.setFlds n [(RL_EREV_HI.E, r.2 / 2 ^ 32), (RL_EREV_LO.E, r.2)]).modSense n fun y => { y with resR := r.1 }

/-- The windows of a rail: voltage 48 + n and current 60 + n (R229). -/
def voltWin (n : Fin 12) : Fin 72 := ⟨48 + n.val, by omega⟩
def currWin (n : Fin 12) : Fin 72 := ⟨60 + n.val, by omega⟩
def fastWin (p : Fin 48) : Fin 72 := ⟨p.val, by omega⟩

/-- The level that consumers of a window see (R230, R255). (Log entry: 37 DEDUCED.) -/
def State.winSeen (s : State) (x : Fin 72) : Level := if (s.win x).failed then .inside else (s.win x).seen

/-- The output of a phase as PH_PSTAT.OUT shows it (Table 6-9). -/
def outOf (v : Nat) : Out :=
  match v with
  | 0 => .ls
  | 1 => .hs
  | _ => .off
def outCode (o : Out) : Nat :=
  match o with
  | .ls => 0
  | .hs => 1
  | .off => 2

/-- The output after every committed edge, and after those before an instant. -/
def State.lastOut (s : State) (p : Fin 48) : Out :=
  match (s.phase p).edges.getLast? with
  | some e => e.2
  | none => outOf (s.fld PH_PSTAT.OUT p)
def State.outBefore (s : State) (p : Fin 48) (tap : Nat) : Out :=
  match ((s.phase p).edges.filter fun e => decide (e.1 < tap)).getLast? with
  | some e => e.2
  | none => outOf (s.fld PH_PSTAT.OUT p)

/-- A list in the order of `le`. -/
def insertBy {α : Type} (le : α → α → Bool) (a : α) : List α → List α
  | [] => [a]
  | b :: r => if le a b then a :: b :: r else b :: insertBy le a r
def sortBy {α : Type} (le : α → α → Bool) : List α → List α
  | [] => []
  | a :: r => insertBy le a (sortBy le r)

/-- The order of requests: by tick, an all-on after the others of its tick (R200). -/
def RespReq.before (a b : RespReq) : Bool := decide (2 * a.at_ + bit (a.kind == .on) < 2 * b.at_ + bit (b.kind == .on))

/-- A request is made for a tick (R198). -/
def State.askResp (s : State) (n : Fin 12) (r : RespReq) : State :=
  s.modMan n fun m => { m with reqs := insertBy RespReq.before r m.reqs }

/-- Committed edges from an instant on lose their effect (R172, R173). -/
def State.cutEdges (s : State) (p : Fin 48) (tap : Nat) : State :=
  s.modPhase p fun x => { x with edges := x.edges.filter fun e => decide (e.1 < tap) }

/-- An edge placed after every committed one (R160). (Log entry: 34 DEDUCED.) -/
def State.placeEdge (s : State) (p : Fin 48) (tap : Nat) (o : Out) : State :=
  let last := s.lastOut p
  if last = o then s
  else s.modPhase p fun x =>
    { x with edges := x.edges ++ [(tap, o)]
             lastHsEnd := if last = .hs then tap else x.lastHsEnd
             hsStart := if o = .hs then tap else x.hsStart
             offSince := if o = .off then tap else x.offSince }

/-- The edges whose time lies before the present tick take place at it: they fell within the gap of a path switch (R38). (Log entry: 39
DEDUCED.) -/
def State.holdEdges (s : State) : State :=
  let t := s.now * 64
  s.forPhases fun s p => s.modPhase p fun x =>
    { x with edges := x.edges.map fun e => (max t e.1, e.2)
             lastHsEnd := if x.edges.any (fun e => decide (e.1 < t) && e.1 == x.lastHsEnd) then t else x.lastHsEnd }

/-- A phase forced both-off from an instant on, with no dead time. -/
def State.forceOff (s : State) (p : Fin 48) (tap : Nat) : State :=
  let s := (s.modPhase p fun x => { x with pulse := false, endAt := none, resume := none, lsGap := none, inOn := false }).cutEdges p tap
  s.placeEdge p tap .off

/-- A phase both-off at once (rows 1 and 2), at `tap`. -/
def State.phaseKill (s : State) (p : Fin 48) (tap : Nat) : State :=
  let was := outOf (s.fld PH_PSTAT.OUT p)
  let s := s.modPhase p fun x =>
    { x with edges := [], pulse := false, endAt := none, resume := none, lsGap := none, inOn := false
             lastHsEnd := if was = .hs then tap else min tap x.lastHsEnd
             offSince := if was = .off then x.offSince else tap
             lastTrans := if was = .off then x.lastTrans else some tap }
  s.setFld PH_PSTAT.OUT p 2


/-- The fast window of a phase is outside as its consumers see it, with PWMKILL set (R171 row 2, R231). -/
def State.fastOut (s : State) (p : Fin 48) : Bool :=
  bitAt s.active.comp[(fastWin p)].cons 0 && s.winSeen (fastWin p) != .inside

/-- A phase requested both-off at the present tick c: its edge lies at c + 2 with no dead time (R171, rows 3, 4 and 6). CAUSE is that of
row 2 where the fast window holds the phase off. -/
def State.phaseOff (s : State) (p : Fin 48) (cause : Nat) : State :=
  (s.forceOff p ((s.now + 2) * 64)).setFld PH_PSTAT.CAUSE p (if (s.phase p).killed || s.fastOut p then 5 else cause)

/-- The rail's phases may switch: its carrier runs and its state holds no phase both-off (R161, R171 row 3). -/
def State.railSwitches (s : State) (n : Fin 12) : Bool :=
  (s.rail n).carrier.running && s.live n && s.rst n != stFault

/-- The transient responder's all-off, its own or the one the lead's slot carries (R200). -/
def State.allOff (s : State) (n : Fin 12) : Bool := s.fld RL_TRSTAT.ACT n == 2 || (s.group n).allOff
def State.allOn (s : State) (n : Fin 12) : Bool := s.fld RL_TRSTAT.ACT n == 1 && !s.allOff n

/-- The first row of Table 6-3 whose condition holds, and its CAUSE; `win` leaves row 2 out when false. Row 1 is the pin-level
both-off, which the port shows (R171). -/
def State.phRow (s : State) (p : Fin 48) (win : Bool) : Nat × Nat :=
  if win && ((s.phase p).killed || s.fastOut p) then (2, 5)
  else match s.phRail p with
    | none => (3, 1)
    | some n =>
      let st := s.fld PH_MSTAT.STATE p
      if st = phRetired then (3, 4)
      else if !s.railSwitches n then (3, 2)
      else if s.allOff n then (4, 6)
      else if st = phShed ∨ st = phHeld then (6, 3)
      else if s.allOn n then (5, 7)
      else (7, 0)

/-- PH_PSTAT.CAUSE brought up to date: in row 7 it stays 8 in a period that is skipped (Table 6-3). -/
def State.showCause (s : State) (p : Fin 48) : State :=
  let r := s.phRow p true
  s.setFld PH_PSTAT.CAUSE p (if r.1 = 7 ∧ s.fld PH_PSTAT.CAUSE p = 8 then 8 else r.2)

/-- The guards of a phase in taps (R167). -/
def State.tonMin (s : State) (p : Fin 48) : Nat := max 32 (s.fld PH_GUARD.TONMIN p)
def State.toffMin (s : State) (p : Fin 48) : Nat := max 512 (s.fld PH_GUARD.TOFFMIN p)

/-- Until the first new-set sample after a swap a live rail goes by the old set (R62): the configuration its samples carry. (Log entry: 25
DEDUCED.) -/
def State.oldCfg (s : State) (n : Fin 12) : Option FrozenCfg :=
  if (s.rail n).loop.swapped && s.live n then (s.rail n).loop.lastCfg else none
def State.tablesNow (s : State) (n : Fin 12) : TablesE := ((s.oldCfg n).map (·.tables)).getD s.active.tables[n]
def State.cslsbNow (s : State) (n : Fin 12) : Nat := ((s.oldCfg n).map (·.cslsb)).getD s.active.sense[n].cslsb
def State.facetNow (s : State) (n : Fin 12) : FacetE :=
  (((s.oldCfg n).map (·.facets)).getD s.active.facets[n])[(s.rail n).mode.facet]

/-- PH_IRAW at the present tick: a conversion completes 32 ns after its trigger (R84). (Log entry: 29 DEDUCED.) -/
def State.irawNow (s : State) (p : Fin 48) : Word :=
  if s.now < (s.phase p).irAt + 7 then (s.phase p).irOld else s.reg .PH_IRAW p

/-- The phase current I_p of R170 in units of 10 mA, of the latest conversion completed. -/
def State.phaseCur (s : State) (p : Fin 48) : Int :=
  match s.phRail p with
  | some n => rhe (signedOf 14 (PH_IRAW.CORR.of (s.irawNow p)) * s.cslsbNow n) 40000
  | none => 0

/-- The dead times of a phase as a commit finds them: low-to-high and high-to-low (R170). -/
def State.deadTimes (s : State) (p : Fin 48) : Nat × Nat :=
  if s.flag PH_DTOVR.DTF p then (s.fld PH_DTOVR.DTLH p, s.fld PH_DTOVR.DTHL p)
  else match s.phRail p with
    | none => (0, 0)
    | some n =>
      let tab := s.tablesNow n
      let at_ := fun (f : Nat × Nat → Nat) =>
        (clampInt 0 255 (tableAt (fun k => ((f (vget tab.dead k) : Nat) : Int)) tab.iMin tab.iStep (s.phaseCur p))).toNat
      (at_ (·.1), at_ (·.2))

/-- The trim in force at tick `t` (R164, R192). -/
def State.trimAt (s : State) (p : Fin 48) (t : Nat) : Int :=
  match (s.phase p).trimNext with
  | some e => if e.1 ≤ t then e.2 else s.fldS PH_BTRIM.TR p
  | none => s.fldS PH_BTRIM.TR p

/-- A trim that has come into force is shown. -/
def State.showTrim (s : State) (p : Fin 48) : State :=
  match (s.phase p).trimNext with
  | some e => if e.1 ≤ s.now then (s.setFldS PH_BTRIM.TR p e.2).modPhase p fun x => { x with trimNext := none } else s
  | none => s

/-- The four bits of a dither index in reverse order (Table 6-1). -/
def bitrev4 (j : Nat) : Nat := bit (bitAt j 0) * 8 + bit (bitAt j 1) * 4 + bit (bitAt j 2) * 2 + bit (bitAt j 3)

/-- The phase duty (R164) at tick `t`. -/
def State.phaseDuty (s : State) (p : Fin 48) (n : Fin 12) (t : Nat) : Nat :=
  let d : Int := s.fld RL_DUTY.DUTY n
  (clampInt 0 1048575 (d + rhe (d * s.trimAt p t) 4096)).toNat

/-- The on-time of a duty in a period of `len` taps with dither index `j` (R165). -/
def onTime (dp len j : Nat) : Nat :=
  let n16 := (rhe ((dp * len * 16 : Nat) : Int) (2 ^ 20)).toNat
  n16 / 16 + bit (decide (bitrev4 (j % 16) < n16 % 16))

/-- An HS that all-on places lasts as long as the guard then in force asks (R167, R173). -/
def State.allOnEdge (s : State) (p : Fin 48) (tap : Nat) : State :=
  (s.placeEdge p tap .hs).modPhase p fun x => { x with ton := s.tonMin p }

/-- All-on acts on one phase at request tick `c` (R173). A falling group committed while HS stands completes, and the new HS follows
after TOFFMIN. -/
def State.allOnPhase (s : State) (p : Fin 48) (c : Nat) : State :=
  let t2 := (c + 2) * 64
  let s := s.modPhase p fun x => { x with pulse := false, endAt := none, inOn := true, resume := none, lsGap := none }
  let toff := s.toffMin p
  let dlh := (s.deadTimes p).1
  if s.lastOut p = .ls ∧ (s.outBefore p (c * 64 + 1) = .hs ∨ s.outBefore p t2 = .hs) then
    let t := (s.phase p).lastHsEnd + toff
    ((s.placeEdge p (t - dlh) .off).allOnEdge p t).setFld PH_PSTAT.DTLH p dlh
  else match s.outBefore p t2 with
  | .hs => s.cutEdges p t2
  | .ls =>
    let s := (s.cutEdges p t2).placeEdge p t2 .off
    (s.allOnEdge p (max (t2 + dlh) ((s.phase p).lastHsEnd + toff))).setFld PH_PSTAT.DTLH p dlh
  | .off =>
    if s.lastOut p = .hs then s
    else
      let s := s.cutEdges p t2
      s.allOnEdge p (max t2 ((s.phase p).lastHsEnd + toff))

/-- The falling group of a phase committed at the present tick with its first edge at `tf` (R166, R170). -/
def State.fallGroup (s : State) (p : Fin 48) (tf : Nat) : State :=
  let dhl := (s.deadTimes p).2
  let duty := match s.phRail p with
    | some n => s.phaseDuty p n s.now
    | none => 0
  let s := (s.placeEdge p tf .off).placeEdge p (tf + dhl) .ls
  (s.setFlds p [(PH_PDUTY.DUTY, duty), (PH_PSTAT.DTHL, dhl)]).modPhase p fun x => { x with pulse := false, endAt := none }

/-- The end of an all-on for one phase at tick `c`: HS lasts at least TONMIN and ends with a falling group, committed 2 ticks before its
first edge (R160, R173). -/
def State.allOnEndPhase (s : State) (p : Fin 48) (c : Nat) : State :=
  let drove := (s.phase p).inOn
  let s := s.modPhase p fun x => { x with inOn := false }
  if drove ∧ s.lastOut p = .hs then
    let tf := max ((c + 2) * 64) ((s.phase p).hsStart + (s.phase p).ton)
    let s := s.cutEdges p tf
    if tf / 64 ≤ c + 2 then s.fallGroup p tf
    else s.modPhase p fun x => { x with pulse := true, endAt := some tf, lastHsEnd := tf }
  else s

/-- A phase may return to normal placement at tick `c` (R174, R172). `long` says that it has never switched in this run of the carrier,
`commit` that tick `c` is a rising commit. (Log entry: 34 DEDUCED.) -/
def State.phaseReturn (s : State) (p : Fin 48) (c : Nat) (long commit : Bool) : State :=
  let r := (s.phRow p false).1
  let s := if s.fastOut p && (r == 5 || r == 7) then s.modPhase p fun x => { x with killed := true } else s
  let s := s.showCause p
  let row := (s.phRow p true).1
  if row = 5 ∧ !(s.phase p).inOn then s.allOnPhase p c
  else if row ≠ 7 ∨ s.lastOut p ≠ .off then s
  else if !long ∧ c * 64 ≤ (s.phase p).offSince + (s.phase p).len then
    s.modPhase p fun x => { x with resume := if commit then none else some (c + 2) }
  else
    let t2 := (c + 2) * 64
    (s.placeEdge p t2 .ls).modPhase p fun x => { x with lsGap := some t2 }

/-- PERIOD of a rail; no divisor is 0. -/
def State.period (s : State) (n : Fin 12) : Nat := max 1 (s.fld TB_RSMP.PERIOD n)

/-- The present tick is an instant of the rail's next sample, which no command has taken yet. -/
def State.sampleDue (s : State) (n : Fin 12) : Bool :=
  match (s.rail n).loop.lastAt with
  | some t => decide (t < s.now) && s.nextGrid s.now (s.period n) (s.fld TB_RSMP.OFFSET n % s.period n) == s.now
  | none => false

/-- An all-on of a rail is over: its ending sample is the latest one at or before the present tick, and the phase manager's counts restart
(R197, R199). -/
def State.onEnded (s : State) (n : Fin 12) : State :=
  s.modMan n fun m => { m with shedCnt := 0, addCnt := 0, ended := some ((s.rail n).loop.count + bit (s.sampleDue n)) }

/-- The responder's action of a rail ends at tick `c` (R199, R200): TRLOCK counts from here, phases end their HS or resume. (Log entry: 36
DEDUCED.) -/
def State.respEnd (s : State) (n : Fin 12) (c : Nat) : State :=
  let act := s.fld RL_TRSTAT.ACT n
  let s := s.setFld RL_TRSTAT.ACT n 0
  if act = 1 then
    (s.railPhases n).foldl (fun (s : State) (p : Fin 48) => (s.allOnEndPhase p c).showCause p) (s.onEnded n)
  else if act = 2 then (s.railPhases n).foldl (fun (s : State) (p : Fin 48) => s.phaseReturn p c false false) s
  else s

end Sys2Proof.Machine
end

