-- ==== Sys2Proof/Machine/Frame.lean ====
section
/-! DEFINITION. Machine/Frame.lean: the cyclic checks of the host bus, the pack link and the lanyard, and the bytes of a lanyard frame
(R284, R312, R334, R335, Tables 12-1 to 12-3). -/
namespace Sys2Proof.Machine

/-- The packet error code (R312): CRC-8, polynomial 0x07, initial value 0. -/
def crc8Bit (c : Nat) : Nat := if 0x80 ≤ c then (c * 2 % 0x100) ^^^ 0x07 else c * 2 % 0x100
def crc8Byte (c b : Nat) : Nat :=
  let x := c ^^^ (b % 256)
  crc8Bit (crc8Bit (crc8Bit (crc8Bit (crc8Bit (crc8Bit (crc8Bit (crc8Bit x)))))))
def crc8 (bs : List Nat) : Nat := bs.foldl crc8Byte 0

/-- One bit and one byte of CRC-16/CCITT-FALSE (R284). -/
def crc16Bit (c : Nat) : Nat := if 0x8000 ≤ c then (c * 2 % 0x10000) ^^^ 0x1021 else c * 2 % 0x10000
def crc16Byte (c b : Nat) : Nat :=
  crc16Bit (crc16Bit (crc16Bit (crc16Bit (crc16Bit (crc16Bit (crc16Bit (crc16Bit (c ^^^ (b * 256)))))))))

/-- CRC-16/CCITT-FALSE over bytes. -/
def crc16 (bs : List Nat) : Nat := bs.foldl crc16Byte 0xFFFF

/-- A number as `k` bytes, the most significant first. -/
def beBytes (k v : Nat) : List Nat := (List.range k).map fun i => v / 2 ^ (8 * (k - 1 - i)) % 256

/-- The 39 bytes of a message cell that its check covers (Table 12-1): TYPE, SRC, DST, SEQ and the payload, filled up with zeros. -/
def cellBody (m : LyMsg) : List Nat :=
  [m.type % 256, m.src % 256, m.dst % 256, m.seq % 256] ++ (List.range 35).map fun i => (m.payload.getD i 0).toNat

/-- Groups 1 to 10 of a frame (Table 12-1): FLAGS, SRCM and STAMP. -/
def frameHead (f : LyFrame) : List Nat :=
  [bit f.form * 128 + bit f.wrap * 64 + bit f.rev * 32 + bit f.restp * 16, f.srcm % 256] ++ beBytes 8 f.stamp

/-- A check byte or word as it arrived against what the data give; a check that the sender computes holds. -/
def sound (c : Option Nat) (v : Nat) : Bool :=
  match c with
  | none => true
  | some c => c == v

/-- Groups 1 to 124 of a frame, each after the comma of group 0 (Tables 12-1 and 12-2). (Log entry: 44 DEDUCED.) -/
def frameBytes (f : LyFrame) : List Byte :=
  let slot := fun (x : LySlot) => beBytes 5 x.w ++ [x.crc.getD (crc8 (beBytes 5 x.w))]
  (frameHead f ++ [f.hcrc.getD (crc8 (frameHead f))] ++ f.slots.toList.flatMap slot
    ++ cellBody f.msg ++ beBytes 2 (f.msg.crc.getD (crc16 (cellBody f.msg)))).map (BitVec.ofNat 8)

/-- The frame that 124 received groups spell (Tables 12-1 to 12-3). (Log entry: 44 DEDUCED.) -/
def frameOf (bs : List Byte) : LyFrame :=
  let at_ := fun (i : Nat) => (bs.getD i 0).toNat
  let num := fun (i k : Nat) => beNat ((List.range k).map fun j => at_ (i + j))
  { form := bitAt (at_ 0) 7, wrap := bitAt (at_ 0) 6, rev := bitAt (at_ 0) 5, restp := bitAt (at_ 0) 4, srcm := at_ 1, stamp := num 2 8
    hcrc := some (at_ 10)
    slots := Vector.ofFn fun (i : Fin 12) => { w := num (11 + 6 * i.val) 5, crc := some (at_ (16 + 6 * i.val)) }
    msg := { type := at_ 83, src := at_ 84, dst := at_ 85, seq := at_ 86, payload := (List.range 35).map fun i => bs.getD (87 + i) 0
             crc := some (num 122 2) } }

end Sys2Proof.Machine

namespace Sys2Proof

/-- The check of a slot, of a message cell and of a frame's header holds (R334, R335). -/
def LySlot.ok (x : LySlot) : Bool := Machine.sound x.crc (Machine.crc8 (Machine.beBytes 5 x.w))
def LyMsg.ok (m : LyMsg) : Bool := Machine.sound m.crc (Machine.crc16 (Machine.cellBody m))
def LyFrame.hcrcOk (f : LyFrame) : Bool := Machine.sound f.hcrc (Machine.crc8 (Machine.frameHead f))

end Sys2Proof
end

