-- ==== Sys2Proof/Machine/Ring.lean ====
section
/-! DEFINITION. Machine/Ring.lean: the flash controller (§14.2 to §14.4): the map, the bytes of the records that the rings hold, programming
and erasing, and the erase journal. -/
namespace Sys2Proof.Machine

/-- The regions of records (Table 14-2): the first sector, the sectors, and the bytes of a record (R263, R387, R390, R391, R397). -/
def Region.first (g : Region) : Nat :=
  match g with
  | .settings => 640
  | .logbook => 768
  | .erases => 832
  | .counters => 840
  | .boots => 848
def Region.sectors (g : Region) : Nat :=
  match g with
  | .settings => 128
  | .logbook => 64
  | .erases => 8
  | .counters => 8
  | .boots => 2
def Region.size (g : Region) : Nat :=
  match g with
  | .settings => 32
  | .logbook => 64
  | .erases => 16
  | .counters => 32
  | .boots => 64

/-- The MAGIC of its records, and the offset of their SEQ. -/
def Region.magic (g : Region) : Nat :=
  match g with
  | .settings => 0x534A
  | .logbook => 0x4C42
  | .erases => 0x454A
  | .counters => 0x4C43
  | .boots => 0x4252
def Region.seqAt (g : Region) : Nat := if g = .erases then 8 else 4

/-- The places of a sector and of the region; the sector of a place. -/
def Region.per (g : Region) : Nat := 4096 / g.size
def Region.places (g : Region) : Nat := g.sectors * g.per
def Region.sectorOf (g : Region) (p : Nat) : Nat := g.first + p / g.per

/-- The ring of a region. -/
def FlashX.ring (f : FlashX) (g : Region) : Ring :=
  match g with
  | .settings => f.settings
  | .logbook => f.logbook
  | .erases => f.erases
  | .counters => f.counterRing
  | .boots => f.boots
def State.modRing (s : State) (g : Region) (f : Ring → Ring) : State :=
  s.modFlash fun x => match g with
    | .settings => { x with settings := f x.settings }
    | .logbook => { x with logbook := f x.logbook }
    | .erases => { x with erases := f x.erases }
    | .counters => { x with counterRing := f x.counterRing }
    | .boots => { x with boots := f x.boots }

/-- A firmware slot: false A, true B. -/
def State.fw (s : State) (b : Bool) : FwSlot := if b then s.flash.fwB else s.flash.fwA
def State.modFw (s : State) (b : Bool) (f : FwSlot → FwSlot) : State :=
  s.modFlash fun x => if b then { x with fwB := f x.fwB } else { x with fwA := f x.fwA }

/-- A rigging slot: false A, true B. -/
def State.rigSlot (s : State) (b : Bool) : RigSlot := if b then s.flash.rigB else s.flash.rigA
def State.modRigSlot (s : State) (b : Bool) (f : RigSlot → RigSlot) : State :=
  s.modFlash fun x => if b then { x with rigB := f x.rigB } else { x with rigA := f x.rigA }

/-- An erased byte (R386). (Log entry: 5 DESIGN CHOICE.) -/
def erased : Byte := 0xFF

/-- The first sector of a firmware slot and of a rigging slot, and the sectors of each (Table 14-2). -/
def fwSector (b : Bool) : Nat := if b then 256 else 0
def rigSector (b : Bool) : Nat := if b then 576 else 512
def fwSectors : Nat := 256
def rigSectors : Nat := 64

/-- Whether a slot contains a half-erased sector (R388). (Log entry: 17 DEDUCED.) -/
def State.fwHalf (s : State) (b : Bool) : Bool :=
  s.flash.half.any fun x => decide (fwSector b ≤ x ∧ x < fwSector b + fwSectors)
def State.rigHalf (s : State) (b : Bool) : Bool :=
  s.flash.half.any fun x => decide (rigSector b ≤ x ∧ x < rigSector b + rigSectors)

/-- The code of a slot state (R405). -/
def FwState.code (f : FwState) : Nat :=
  match f with
  | .empty => 0
  | .opened => 1
  | .staged => 2
  | .trial => 3
  | .active => 4
  | .standby => 5
  | .invalid => 6
def FwState.ofCode (c : Nat) : FwState :=
  match c with
  | 0 => .empty
  | 1 => .opened
  | 2 => .staged
  | 3 => .trial
  | 4 => .active
  | 5 => .standby
  | _ => .invalid

/-- Bytes with their CRC-32 behind them. -/
def sealed (b : List Nat) : List Nat := b ++ beBytes 4 (crc32 b)

/-- The bytes of a logbook record (R263, Table 9-5). -/
def LogRec.bytes (r : LogRec) (seq : Nat) : List Nat :=
  sealed (beBytes 2 0x4C42 ++ [1, r.src % 256] ++ beBytes 4 seq ++ beBytes 6 r.epoch ++ beBytes 2 r.tick
    ++ [r.elem % 256, r.cls % 256, r.state % 256, r.flags % 256] ++ beBytes 4 r.vrail ++ beBytes 4 (unsignedOf 32 r.irail)
    ++ beBytes 4 r.vbus ++ beBytes 2 (unsignedOf 16 r.trail) ++ beBytes 2 r.tdie ++ beBytes 4 r.duty ++ beBytes 4 r.d1
    ++ beBytes 4 r.d2 ++ beBytes 4 r.aid ++ [r.member % 256] ++ List.replicate 7 0)

/-- The region of a record and its bytes (Tables 9-5 and 14-4, R391, R397). -/
def FlashRec.region (r : FlashRec) : Region :=
  match r with
  | .setting _ _ => .settings
  | .counter _ _ _ => .counters
  | .boot _ _ _ _ => .boots
  | .log _ _ => .logbook
def FlashRec.bytes (r : FlashRec) : List Byte :=
  (match r with
    | .setting seq r => sealed (beBytes 2 0x534A ++ [r.fmt % 256, r.kind % 256] ++ beBytes 4 seq ++ beBytes 4 r.key ++ beBytes 4 r.v0
        ++ beBytes 4 r.v1 ++ beBytes 4 r.v2 ++ beBytes 4 0)
    | .counter seq idx v => sealed (beBytes 2 0x4C43 ++ [1, idx % 256] ++ beBytes 4 seq ++ beBytes 8 v ++ List.replicate 12 0)
    | .boot seq b fa fb => sealed (beBytes 2 0x4252 ++ [1, 0] ++ beBytes 4 seq ++ [fb.code, fa.code, bit b.prefRig,
        bit b.signedA + 2 * bit b.signedB] ++ beBytes 4 b.vrigA ++ beBytes 4 b.vrigB ++ beBytes 4 b.fwFloor ++ beBytes 4 b.rigFloor
        ++ beBytes 2 b.fallbacks ++ List.replicate 30 0)
    | .log seq r => r.bytes seq).map (BitVec.ofNat 8)

/-- A big-endian field of the bytes of a record. -/
def recField (b : List Byte) (off n : Nat) : Nat := beNat (((b.drop off).take n).map BitVec.toNat)

/-- The SEQ of a record, and whether the bytes at a place are a record: MAGIC and CRC (R264, R388, R389, R397). -/
def Region.seqOf (g : Region) (b : List Byte) : Nat := recField b g.seqAt 4
def Region.ok (g : Region) (b : List Byte) : Bool :=
  b.length == g.size && recField b 0 2 == g.magic
    && recField b (g.size - 4) 4 == crc32 ((b.take (g.size - 4)).map BitVec.toNat)

/-- The valid records of a ring with their places. -/
def FlashX.valid (f : FlashX) (g : Region) : List (Nat × List Byte) := (f.ring g).recs.filter fun e => g.ok e.2

/-- Bytes programmed at a place of a ring. -/
def ringPut (recs : List (Nat × List Byte)) (p : Nat) (b : List Byte) : List (Nat × List Byte) :=
  match recs with
  | [] => [(p, b)]
  | e :: r => if p < e.1 then (p, b) :: e :: r else if p = e.1 then (p, b) :: r else e :: ringPut r p b
def State.ringAdd (s : State) (g : Region) (b : List Byte) : State :=
  s.modRing g fun r => { r with recs := ringPut r.recs r.head b, head := (r.head + 1) % g.places }

/-- The settings of a journal record, and the journal's valid records with their SEQ, in SEQ order; a record that a compaction has written
again counts once (R397, R400). -/
def settingOf (b : List Byte) : SetRec :=
  { fmt := recField b 2 1, kind := recField b 3 1, key := recField b 8 4, v0 := recField b 12 4, v1 := recField b 16 4
    v2 := recField b 20 4 }
def seqInsert (e : Nat × SetRec) (l : List (Nat × SetRec)) : List (Nat × SetRec) :=
  match l with
  | [] => [e]
  | a :: r => if e.1 < a.1 then e :: a :: r else if e.1 = a.1 then a :: r else a :: seqInsert e r
def FlashX.journal (f : FlashX) : List (Nat × SetRec) :=
  (f.valid .settings).foldl (fun l e => seqInsert (Region.settings.seqOf e.2, settingOf e.2) l) []

/-- A flash operation joins the queue (R384), or comes before those that wait. -/
def State.flashOp (s : State) (o : FlashOp) : State := s.modFlash fun f => { f with ops := f.ops ++ [o] }
def State.flashFirst (s : State) (os : List FlashOp) : State := s.modFlash fun f => { f with ops := os ++ f.ops }

/-- A record of a ring takes the next SEQ and joins the queue (R389, R397). -/
def State.saveRec (s : State) (g : Region) (mk : Nat → FlashRec) (cmd : Bool) : State :=
  let q := (s.flash.ring g).seq + 1
  (s.modRing g fun r => { r with seq := q }).flashOp (.record (mk q) cmd)

/-- The boot record as it now stands joins the queue (R390), and the same where a change asks for it. -/
def State.bootSave (s : State) : State := s.saveRec .boots (fun q => .boot q s.flash.boot s.flash.fwA.st s.flash.fwB.st) false
def State.keepBoot (s t : State) : State :=
  if s.flash.boot = t.flash.boot ∧ s.flash.fwA.st = t.flash.fwA.st ∧ s.flash.fwB.st = t.flash.fwB.st then t else t.bootSave

/-- A settings record joins the queue. -/
def State.journalOp (s : State) (r : SetRec) (cmd : Bool) : State := s.saveRec .settings (fun q => .setting q r) cmd

/-- A sector's bytes read as erased (R386): `k` sectors from the start of a slot, or the places of a ring. -/
def eraseBytes (bytes : List (Nat × Byte)) (k : Nat) : List (Nat × Byte) :=
  bytes.filter fun c => !decide (k * 4096 ≤ c.1 ∧ c.1 < (k + 1) * 4096)
def State.eraseRing (s : State) (g : Region) (x : Nat) : State :=
  if x < g.first ∨ g.first + g.sectors ≤ x then s
  else s.modRing g fun r => { r with recs := r.recs.filter fun e => !(g.sectorOf e.1 == x) }
def State.eraseContent (s : State) (x : Nat) : State :=
  if x < 512 then s.modFw (decide (256 ≤ x)) fun f => { f with bytes := eraseBytes f.bytes (x % 256), factory := false }
  else if x < 640 then s.modRigSlot (decide (576 ≤ x)) fun r => { r with bytes := eraseBytes r.bytes ((x - 512) % 64) }
  else ((((s.eraseRing .settings x).eraseRing .logbook x).eraseRing .erases x).eraseRing .counters x).eraseRing .boots x

/-- The bytes of an erase-journal entry (R387): 1 begin, 2 done. -/
def markBytes (type sector seq : Nat) : List Byte :=
  (sealed (beBytes 2 0x454A ++ [type, 0] ++ beBytes 2 sector ++ [0, 0] ++ beBytes 4 seq)).map (BitVec.ofNat 8)

/-- A sector erased between its two markers (R387). A journal sector of 254 entries is full: the erase of the next one comes first, and
takes its last two places. -/
def State.eraseDone (s : State) (x : Nat) : State :=
  let q := s.flash.erases.seq + 1
  let s := (s.ringAdd .erases (markBytes 1 x q)).eraseContent x
  let s := (s.ringAdd .erases (markBytes 2 x q)).modRing .erases fun r => { r with seq := q }
  let s := s.modFlash fun f => { f with half := f.half.filter fun y => !(y == x) }
  let h := s.flash.erases.head
  if h % 256 = 254 then s.flashFirst [.erase [832 + (h / 256 + 1) % 8] false] else s

/-- Bytes programmed at an offset: a program clears bits and sets none (R386). -/
def programBytes (bytes : List (Nat × Byte)) (ofs : Nat) (data : List Byte) : List (Nat × Byte) :=
  memPutAll erased bytes ofs (data.zipIdx.map fun e => e.1 &&& memGet erased bytes (ofs + e.2))

/-- A sector that is not blank: it holds bytes, or an erase of it was cut off. -/
def State.usedSector (s : State) (g : Region) (x : Nat) : Bool :=
  s.flash.half.contains x || (s.flash.ring g).recs.any fun e => g.sectorOf e.1 == x

/-- The next record of a ring begins a sector that must be erased first (R264, R388). (Log entry: 17 DEDUCED.) -/
def State.headUsed (s : State) (g : Region) : Bool :=
  let h := (s.flash.ring g).head
  h % g.per == 0 && s.usedSector g (g.sectorOf h)

/-- The kind of a sequenced record: a counter's IDX; the boot record has one kind. -/
def Region.kindOf (g : Region) (b : List Byte) : Nat := if g = .counters then recField b 3 1 else 0

/-- A sequenced record written again with another SEQ. -/
def Region.again (g : Region) (b : List Byte) (seq : Nat) : FlashRec :=
  if g = .counters then .counter seq (recField b 3 1) (recField b 8 8)
  else
    .boot seq
      { prefRig := recField b 10 1 == 1, signedA := bitAt (recField b 11 1) 0, signedB := bitAt (recField b 11 1) 1, vrigA := recField b 12 4
        vrigB := recField b 16 4, fwFloor := recField b 20 4, rigFloor := recField b 24 4, fallbacks := recField b 28 2 }
      (.ofCode (recField b 9 1 % 8)) (.ofCode (recField b 8 1 % 8))

/-- The sector behind the one in which a ring of sequenced records is written is erased at once where it is used: the records in it that
are the latest of their kind are written again before (R389). (Log entry: 17 DEDUCED.) -/
def State.ringAhead (s : State) (g : Region) (h : Nat) : State :=
  let x := g.first + (h / g.per + 1) % g.sectors
  if !s.usedSector g x || s.flash.ops.any (fun o => o == .erase [x] false) then s
  else
    let all := s.flash.valid g
    let old := all.filter fun e => g.sectorOf e.1 == x &&
      !all.any fun d => g.kindOf d.2 == g.kindOf e.2 && decide (g.seqOf e.2 < g.seqOf d.2)
    let q := (s.flash.ring g).seq
    (s.modRing g fun r => { r with seq := q + old.length }).flashFirst
      ((old.zipIdx.map fun e => .record (g.again e.1.2 (q + 1 + e.2)) false) ++ [.erase [x] false])

/-- The logbook's status after a change (Tables 9-18 and 9-19). -/
def State.showLog (s : State) : State :=
  let held := s.flash.valid .logbook
  s.setFlds 0 [(LB_STATUS.QLEN, s.log.queue.length), (LB_STATUS.COUNT, held.length),
    (LB_NEWEST.SEQ, held.foldl (fun a e => max a (Region.logbook.seqOf e.2)) 0)]

end Sys2Proof.Machine
end

