-- ==== Sys2Proof/Machine/Events.lean ====
section
/-! DEFINITION. Machine/Events.lean: what many commands share: the logbook queue (R265), classification (R254), trace
triggers and freezes (R269), link notices (R294), and the transitions of a rail (chapter 8). -/
namespace Sys2Proof.Machine

/-- A logbook record of an event at the present tick (Table 9-5). `n` is the rail concerned. -/
def State.record (s : State) (src elem cls : Nat) (n : Option (Fin 12)) (d1 d2 : Nat) : LogRec :=
  let base : LogRec :=
    { src := src, elem := elem, cls := cls, epoch := s.E, tick := s.K,
      vbus := s.fld CV_VBUS.MV 0, tdie := s.fld TH_DIE.T 0, d1 := d1 % 2 ^ 32, d2 := d2 % 2 ^ 32, aid := s.fld RG_AID.ID 0,
      member := if s.flag LY_STATUS.NUMV 0 then s.fld LY_STATUS.MEMBER 0 else 0xFF,
      flags := bit (s.flag CV_STATUS.TC0DRIFT 0) }
  match n with
  | none => base
  | some n =>
    let x := s.rail n
    { base with
      state := s.rst n
      flags := bit (s.flag CV_STATUS.TC0DRIFT 0) + x.mode.facet.val * 2 + s.fld RL_MCTL.MODE n * 16
      vrail := x.sense.vf, irail := x.sense.iF, trail := x.sense.temp, duty := (s.reg .RL_DUTY n).toNat }

/-- An event offered to the logbook (R265): suppressed within 100 ms of the last accepted record of its source and element, lost when the
queue is full, queued otherwise. (Log entry: 40 DEDUCED.) -/
def State.logRec (s : State) (r : LogRec) : State :=
  if s.log.accepted.any fun e => e.1 == r.src && e.2.1 == r.elem && decide (s.now < e.2.2 + 100 * ms) then
    s.bump LB_STATUS.SUPP 0
  else if 32 ≤ s.log.queue.length then (s.bump LB_STATUS.LOST 0).raise LB_STATUS.LOSTF 0
  else
    let s := s.modLog fun l =>
      { l with queue := l.queue ++ [r],
               accepted := (r.src, r.elem, s.now) :: l.accepted.filter fun e => !(e.1 == r.src && e.2.1 == r.elem) }
    s.setFld LB_STATUS.QLEN 0 s.log.queue.length

/-- The classes of a record. -/
def clsInfo : Nat := 0
def clsTrans : Nat := 1
def clsPerm : Nat := 2
def clsCleared : Nat := 3

/-- A fault event classified, counted and logged (R254). -/
def State.classify (s : State) (src elem cls : Nat) (n : Option (Fin 12)) (d1 d2 : Nat) : State :=
  let s :=
    if cls = clsTrans then (s.bump FM_CNT.TRANSCNT 0).raise FM_STATUS.TRANS 0
    else if cls = clsPerm then (s.bump FM_CNT.PERMCNT 0).raise FM_STATUS.PERM 0
    else s
  s.logRec (s.record src elem cls n d1 d2)

/-- A lifetime counter counts, and its record is written (R391). -/
def State.countLife (s : State) (idx k : Nat) : State :=
  let old := match s.flash.counters.find? fun e => e.1 == idx with
    | some e => e.2
    | none => 0
  let v := satNat (2 ^ 64 - 1) (old + k)
  (s.modFlash fun f => { f with counters := (idx, v) :: f.counters.filter fun e => !(e.1 == idx) }).saveRec .counters
    (fun q => .counter q idx v) false

/-- A message of this member waits for a cell (R337); its SRC is 0xFF while the member is unnumbered, as SRCM is. The pairs carry nothing
while EN is 0 (R332). -/
def State.lanMsg (s : State) (type dst : Nat) (payload : List Byte) : State :=
  if s.flag LY_CTRL.EN 0 then
    s.modLan fun l =>
      { l with msgs := l.msgs ++ [{ type := type, src := if s.flag LY_STATUS.NUMV 0 then s.fld LY_STATUS.MEMBER 0 else 0xFF
                                    dst := dst, seq := l.seq % 256, payload := payload }]
               seq := l.seq + 1 }
  else s

/-- An activation's result (R358): broadcast, kept in LY_ACT.RESULT, and marked in the maps for this member when it
concerns the latest ACTID. -/
def State.sendActRes (s : State) (src actid kind result : Nat) : State :=
  let me := s.fld LY_STATUS.MEMBER 0
  let s := s.lanMsg 6 0xFF [BitVec.ofNat 8 actid, BitVec.ofNat 8 kind, BitVec.ofNat 8 result]
  match s.lan.latest with
  | none => s
  | some a =>
    if a.actid = actid ∧ a.src = src then
      let s := s.setFld LY_ACT.RESULT 0 result
      let mark := fun (s : State) (hi lo : Fld) =>
        if me < 32 then s.setFld lo 0 (s.fld lo 0 ||| 2 ^ me) else s.setFld hi 0 (s.fld hi 0 ||| 2 ^ (me - 32))
      if result = 1 then mark s LY_ACTOK_HI.MAP LY_ACTOK_LO.MAP
      else if result = 0 then s
      else mark s LY_ACTNO_HI.MAP LY_ACTNO_LO.MAP
    else s

/-- A rail's ring freezes (R269): the copy of its configuration, FROZEN and FRZF, the epoch of the first freeze, and a TRFREEZE record.
(Log entries: 40 DEDUCED, 53 DESIGN CHOICE.) -/
def State.freezeRail (s : State) (n : Fin 12) (src : Nat) : State :=
  let cfg : FrozenCfg :=
    { loop := s.active.loop[n], facets := s.active.facets[n], tables := s.active.tables[n],
      cslsb := s.active.sense[n].cslsb, dlim := s.reg .RL_DLIM n, lctl := s.reg .RL_LCTL n, fxp := s.reg .RL_FXP n }
  let s := s.modTrace n fun t => { t with post := none, trig := none, cfg := cfg }
  let first := !s.fault.freezeSeen
  let s := if first then
      (s.setFlds 0 [(TR_FRZE_HI.TICK, s.K), (TR_FRZE_HI.EPOCH_H, s.E / 2 ^ 32), (TR_FRZE_LO.EPOCH_L, s.E)]).modFault
        fun f => { f with freezeSeen := true }
    else s
  let s := s.setFlds 0 [(TR_STATUS.FROZEN, s.fld TR_STATUS.FROZEN 0 ||| 2 ^ n.val), (TR_STATUS.FRZF, 1)]
  s.logRec (s.record 0x18 n clsInfo (some n) src s.K)

/-- TR_CTRL.EN of a rail: 0 for a rail that SKV2406 does not have (R424). -/
def State.traced (s : State) (n : Fin 12) : Bool := bitAt (s.fld TR_CTRL.EN 0) n && !s.absentRail n

/-- Whether a rail's ring is frozen. -/
def State.frozen (s : State) (n : Fin 12) : Bool := bitAt (s.fld TR_STATUS.FROZEN 0) n

/-- A trigger taken by one rail (R269): the newest sample without a record carries TRIG, or the next one does. -/
def State.triggerRail (s : State) (n : Fin 12) (src : Nat) (next : Bool) : State :=
  let t := s.trace[n]
  if !s.traced n || s.frozen n || t.post.isSome || t.trig.isSome then s
  else
    let s := s.setFld TR_STATUS.SRC 0 src
    if !s.live n then s.freezeRail n src
    else
      let l := (s.rail n).loop
      let mark := fun (xs : List Sample) =>
        match xs.reverse with
        | [] => []
        | a :: r => ({ a with trig := true } :: r).reverse
      let s := s.modTrace n fun t => { t with trig := some src }
      if next then s
      else if l.jobs ≠ [] then s.modLoop n fun l => { l with jobs := mark l.jobs }
      else if l.done ≠ [] then
        s.modLoop n fun l => { l with done :=
          match l.done.reverse with
          | [] => []
          | a :: r => ({ a with sample := { a.sample with trig := true } } :: r).reverse }
      else s

/-- A trigger source of TR_TRIG acting on a rail: with ALL, on every rail (R269). `b` is the TR_TRIG bit. -/
def State.trigger (s : State) (n : Fin 12) (b : Nat) (next : Bool) : State :=
  if !bitAt (s.reg .TR_TRIG 0).toNat b then s
  else if s.flag TR_CTRL.ALL 0 then s.forRails fun s k => s.triggerRail k (b + 1) next
  else s.triggerRail n (b + 1) next

/-- The trigger sources by TR_TRIG bit (Table 9-22). -/
def trgFault : Nat := 0
def trgModel : Nat := 1
def trgMiss : Nat := 2
def trgTresp : Nat := 3
def trgPhase : Nat := 4
def trgTm0 : Nat := 5

/-- A rail that stops being live freezes with the records it holds while it counts its POST records (R269). (Log entry: 40 DEDUCED.) -/
def State.traceStop (s : State) (n : Fin 12) : State :=
  let t := s.trace[n]
  match t.post, t.trig with
  | some p, _ => s.freezeRail n p.2
  | none, some src => s.freezeRail n src
  | none, none => s

/-- An event for the pack (Table 10-3, R294): queued while the link is BOUND; a fifth replaces the oldest queued one. (Log entry: 41
DEDUCED.) -/
def State.notify (s : State) (n : Fin 12) (event cause : Nat) : State :=
  if s.fld LK_STATUS.LSTATE n = 2 then
    s.modLink n fun l =>
      { l with queue := (if 4 ≤ l.queue.length then l.queue.drop 1 else l.queue) ++ [⟨event, cause, s.rst n⟩] }
  else s

/-- Whether CONTn is driven at the present tick: a change decided at a tick reaches the output at the tick after it (R212). (Log entry: 27
DEDUCED.) -/
def State.contOut (s : State) (n : Fin 12) : Bool :=
  if s.now < (s.rail n).life.contEdge then (s.rail n).life.contWas else s.flag RL_STATUS.CONT n

/-- It is decided to drive CONTn or to release it (R212): the output follows at the next tick, from which TCLOSE counts (R220). (Log
entry: 27 DEDUCED.) -/
def State.setCont (s : State) (n : Fin 12) (on : Bool) : State :=
  let out := s.contOut n
  let s := if on = s.flag RL_STATUS.CONT n then s else s.modLife n fun l => { l with contEdge := s.now + 1, contWas := out }
  let s := if on ∧ !s.flag RL_STATUS.CONT n then (s.modLife n fun l => { l with contAt := some (s.now + 1) }).modPins fun p =>
      { p with ecoOn := Vector.ofFn fun i => p.ecoOn[i] && s.fld TIO_AUX.SEL i != n.val }
    else s
  let s := if on then s else s.modLife n fun l => { l with contAt := none }
  s.setFld RL_STATUS.CONT n (bit on)

/-- Every phase of a rail both-off by row 3 (R225, R226). -/
def State.railPhasesOff (s : State) (n : Fin 12) : State :=
  (s.railPhases n).foldl (fun (s : State) (p : Fin 48) =>
    let s := s.modPhase p fun x => { x with killed := false, shedAt := none, shedding := false }
    s.phaseOff p (if s.fld PH_MSTAT.STATE p = phRetired then 4 else 2)) s

/-- The ring token held for a rail goes back to the ring (R355). -/
def State.freeToken (s : State) (n : Fin 12) : State :=
  let mine := s.lan.held.filter fun e => e.2 == n
  let s := s.modLan fun l => { l with held := l.held.filter fun e => !(e.2 == n) }
  let s := mine.foldl (fun (s : State) e => s.lanMsg 4 0xFF [BitVec.ofNat 8 e.1]) s
  s.setFld LY_STATUS.HELD 0 s.lan.held.length

/-- A rail gives up its start slot, and with it the ring token that serves it (R225, R355). -/
def State.freeSlot (s : State) (n : Fin 12) : State :=
  if s.flag RL_STATUS.SLOT n then (s.setFld RL_STATUS.SLOT n 0).freeToken n else s

/-- The link of a rail lets the rail start: EN 0, or an enable in force (R214). -/
def State.linkPermits (s : State) (n : Nat) : Bool :=
  !s.flag LK_CTRL.EN n || s.flag LK_STATUS.CHG n || s.flag LK_STATUS.REV n

/-- A lead's view of its group's members that are attached: IDX 1 on (R344, R350). -/
def State.attached (s : State) (n : Fin 12) : List (Nat × SpanRpt × Nat) := (s.group n).reports

/-- SPDRIFT of every lead (R17, R350), and the latch of its rise (R421). (Log entry: 44 DEDUCED.) -/
def State.driftCheck (s : State) : State :=
  s.forRails fun s n =>
    let d := s.lead n && !(s.flag TB_STATUS.LOCK 0 && (s.attached n).all fun r => r.2.1.lock)
    let s := if d && !s.flag RL_STATUS.SPDRIFT n then s.raiseBit ALR_EVT.SPD 0 n else s
    s.setFld RL_STATUS.SPDRIFT n (bit d)

/-- Whether a group is active (R344). -/
def State.groupActive (s : State) (n : Fin 12) : Bool :=
  match s.groupOf n with
  | none => false
  | some g =>
    decide (2 ≤ s.fld LY_STATUS.MODE 0) && !s.lan.memErr &&
    (if g.role = 1 then ((List.range g.nmem).drop 1).all fun i => (s.group n).heard.contains i
     else (s.group n).seen && decide ((s.group n).age < 64))

/-- An instruction of the test port that drives the balls. -/
def TapInstr.drives (t : TapInstr) : Bool := t == .extest || t == .highz || t == .clamp

/-- Whether EXTEST, HIGHZ and CLAMP may take effect: every rail OFF or RETIRED, and the debug level 2 (R453). -/
def State.tapAllowed (s : State) : Bool := s.fld DBG_STATUS.LEVEL 0 == 2 && (List.finRange 12).all fun (n : Fin 12) => !s.live n

/-- EXTEST, HIGHZ or CLAMP is in effect (R453). -/
def State.tapDrives (s : State) : Bool := s.power.tap.drives && s.tapAllowed

/-- The instruction that drives the balls now: where the port has left one, the balls return to their functions at the next tick (R453).
(Log entry: 22 DEDUCED.) -/
def State.tapPins (s : State) : Option TapInstr :=
  if s.tapDrives then some s.power.tap
  else match s.power.tapLeft with
    | some e => if s.now ≤ e.1 then some e.2 else none
    | none => none

/-- A ball as the test port leaves it (R452, R453): its function, nothing under HIGHZ, or its cell under EXTEST and CLAMP. (Log entry: 22
DEDUCED.) -/
def State.ball {α : Type} (s : State) (own : Option α) (cell : Cells → Option α) : Option α :=
  match s.tapPins with
  | none => own
  | some .highz => none
  | some _ => cell s.power.cells

/-- The start condition of R214, with the lead's group condition of R344 and R345 and the port's of R453. -/
def State.startCond (s : State) (n : Fin 12) : Bool :=
  let voc := s.fld RL_VOC.VOC n
  let vb := s.fld CV_VBUS.MV 0
  let t := s.fldS RL_ITGT.ITGT n
  !s.tapDrives && s.flag RL_CTRL.EN n && !s.flag RL_STATUS.LOCKOUT n && s.flag RL_VOC.VALID n
    && decide (s.fld RL_UV.MV n < voc ∧ voc < s.fld RL_OV.MV n)
    && decide (s.fld PR_VBUV.MV 0 < vb ∧ vb < s.fld PR_VBOV.MV 0)
    && !s.flag PR_STATUS.TSDACT 0
    && (t == 0 || (if 0 < t then !s.flag RL_PSTAT.TWF n else !s.flag RL_PSTAT.TWR n))
    && s.linkPermits n
    && (match s.groupOf n with
        | none => true
        | some g => s.lead n && s.groupActive n
            && ((List.range g.nmem).drop 1).all fun i => (s.attached n).any fun r => r.1 == i)

/-- The start condition followed (R215): the tick since which it holds, and a queued rail that leaves the queue, with the token taken for it
(R355). A rail that no phase is
spliced to stays OFF (R211). -/
def State.startCheck (s : State) (n : Fin 12) : State :=
  if s.startCond n ∧ s.rst n = stOff ∧ s.railPhases n ≠ [] then
    if (s.rail n).life.condSince.isSome then s else s.modLife n fun l => { l with condSince := some s.now }
  else
    let s := if (s.rail n).life.condSince.isSome then s.modLife n fun l => { l with condSince := none } else s
    if s.flag RL_STATUS.QUEUED n ∧ s.rst n = stOff then
      ((s.setFld RL_STATUS.QUEUED n 0).freeToken n).modLife n fun l => { l with arrival := none, aged := false }
    else s

/-- The start condition of every rail followed. -/
def State.startChecks (s : State) : State := s.forRails fun s n => s.startCheck n

/-- The registers of a rail and of a phase that the entry to a state writes. -/
def railUndoRegs : List Reg :=
  [.RL_STATUS, .RL_MCTL, .RL_VOC, .RL_PSET, .RL_PISET, .RL_PSTAT, .RL_FCTL, .RL_TRSTAT, .RL_MDUTY, .CV_TRIM, .CV_SNS]
def phaseUndoRegs : List Reg := [.PH_MSTAT, .PH_PSTAT, .PH_PDUTY, .PH_IRAW, .PH_BTRIM]

/-- A live rail is about to make a transition: what it is now is kept through the tick, since a trigger of higher rank that holds at the
same tick decides in its place, and the rail makes one transition per tick (R213). -/
def State.moving (s : State) (n : Fin 12) : State :=
  if !s.live n || s.undo.any (fun u => u.rail == n && u.at_ == s.now) then s
  else
    let ps := s.railPhases n
    let u : RailUndo :=
      { at_ := s.now, rail := n, x := s.rail n, queue := (s.link n).queue
        regs := railUndoRegs.map fun r => s.reg r n
        phases := ps.map fun p => (p, s.phase p, phaseUndoRegs.map fun r => s.reg r p) }
    { s with undo := u :: s.undo.filter fun u => u.at_ == s.now }

/-- The bits of a register that no transition writes: they stay as they have become. -/
def Reg.undoKeeps (r : Reg) : Word := BitVec.ofNat 32 (r.row.w1c ||| (if r = .RL_STATUS then 0xF8000000 else 0))
def State.undoReg (s : State) (r : Reg) (n : Nat) (w : Word) : State :=
  s.setReg r n ((w &&& ~~~r.undoKeeps) ||| (s.reg r n &&& r.undoKeeps))

/-- The transition that a rail has made at the present tick gives way to a trigger of higher rank (R213): the rail is what it was, but for
the requests that wait and the phases that a fault of their own holds. (Log entry: 27 DEDUCED.) -/
def State.unmove (s : State) (n : Fin 12) : State :=
  match s.undo.find? fun u => u.rail == n && u.at_ == s.now with
  | none => s
  | some u =>
    let s := { s with undo := s.undo.filter fun u => u.rail != n }
    let s := s.modRail n fun x => { u.x with man := { u.x.man with reqs := x.man.reqs, revRun := x.man.revRun } }
    let s := s.modLink n fun l => { l with queue := u.queue }
    let s := (railUndoRegs.zip u.regs).foldl (fun (s : State) e => s.undoReg e.1 n e.2) s
    u.phases.foldl (fun (s : State) p =>
      if s.fld PH_MSTAT.STATE p.1 = phRetired ∨ s.fld PH_MSTAT.STATE p.1 = phHeld then s
      else (phaseUndoRegs.zip p.2.2).foldl (fun (s : State) e => s.undoReg e.1 p.1 e.2) (s.modPhase p.1 fun _ => p.2.1)) s

/-- A transition (R213): PREV, STATE and the tick of entry, and the end of a responder action that the new state does not allow (R199,
R200). A stop request that waits out its turn-off delay goes on waiting in CLOSE, RAMP and REGULATE (R222). (Log entry: 27 DEDUCED.) -/
def State.enter (s : State) (n : Fin 12) (st : Nat) : State :=
  let waits := st == stClose || st == stRamp || st == stRegulate
  let s := (s.setFlds n [(RL_STATUS.PREV, s.rst n), (RL_STATUS.STATE, st)]).modLife n fun l =>
    { l with entry := s.now, stopReq := if waits then l.stopReq else none }
  let s := s.modMan n fun m => { m with discard := true }
  let act := s.fld RL_TRSTAT.ACT n
  if (act = 1 ∧ st ≠ stRamp ∧ st ≠ stRegulate) ∨ (act = 2 ∧ (st < stClose ∨ stRampdown < st)) then s.respEnd n s.now else s

/-- An auto-tune of the rail ends with a code (R157, R421). With `back` the rail returns to CV with PRE 1. (Log entry: 32 DEDUCED.) -/
def State.tuneEnd (s : State) (n : Fin 12) (code : Nat) (back : Bool) : State :=
  if (s.rail n).mode.tune.isSome then
    let s := s.setFld RL_ATRES.CODE n code
    let s := s.modMode n fun m =>
      if back then { m with tune := none, cc := false, xcnt := 0, preAt := some s.now } else { m with tune := none }
    let s := if back then s.setFld RL_MCTL.REQ n 0 else s
    s.raiseBit ALR_EVT.AT 0 n
  else s

/-- A phase current converter powers down: PH_IRAW reads 0, and its next trigger has no previous y (R87, R88). (Log entry: 29 DEDUCED.) -/
def State.powerDown (s : State) (p : Fin 48) : State := (s.setReg .PH_IRAW p 0).modPhase p fun x => { x with fresh := false, irOld := 0 }

/-- What a rail gives up as it stops being live (Tables 3-1 and 8-2, R88, R183): the carrier stops, the loop has no sample, the
converters power down and the error word reads 0, and its phases are neither active nor shed. -/
def State.railDown (s : State) (n : Fin 12) : State :=
  let s := s.modCarrier n fun _ => {}
  let s := s.modErr n fun _ => {}
  let s := s.modLoop n fun l => { l with jobs := [], done := [], waiting := none, started := false }
  (s.railPhases n).foldl (fun (s : State) (p : Fin 48) =>
    if s.fld PH_MSTAT.STATE p = phRetired ∨ s.fld PH_MSTAT.STATE p = phHeld then s.powerDown p
    else (s.setFld PH_MSTAT.STATE p phNone).powerDown p) s

/-- Entry to RETIRED (Table 8-2): contactor released, phases both-off, slot and queue left, RAILRET logged. -/
def State.enterRetired (s : State) (n : Fin 12) : State :=
  if s.rst n = stRetired then s
  else
    let s := (s.unmove n).tuneEnd n 6 false
    let s := (s.setCont n false).railPhasesOff n
    let s := (s.freeSlot n).setFld RL_STATUS.QUEUED n 0
    let s := (s.enter n stRetired).railDown n
    let s := s.classify 0x13 n clsPerm (some n) 0 0
    s.traceStop n

/-- Entry to OFF (R225): phases both-off, carrier stopped, converters powered down, TRIM 0, VALID 0, slot freed. -/
def State.enterOff (s : State) (n : Fin 12) : State :=
  let s := (s.moving n).tuneEnd n 6 false
  let s := (s.setCont n false).railPhasesOff n
  let s := s.freeSlot n
  let s := s.setFlds n [(RL_STATUS.QUEUED, 0), (RL_VOC.VALID, 0), (CV_TRIM.TRIM, 0), (CV_TRIM.LIMIT, 0), (CV_SNS.FBK, 0)]
  let s := s.modSense n fun x => { x with fbkAt := none, goodSince := none, badSince := none, sums := [] }
  let s := (s.enter n stOff).railDown n
  let s := s.modLife n fun l =>
    { l with condSince := none, arrival := none, aged := false, causes := [], permanent := false, budgetOff := false
             ovLoc := false, noStrand := false }
  let s := s.traceStop n
  (s.notify n 3 0).startCheck n

/-- Whether a cause counts towards NRST (Table 8-4). -/
def causeCounts (c : Nat) : Bool :=
  match c with
  | 1 => false
  | 2 => false
  | 6 => false
  | 14 => false
  | 15 => false
  | 21 => false
  | _ => true

/-- A cause arises in a FAULT: STRAND makes it permanent (Table 8-2). -/
def LifeX.arise (l : LifeX) (cause : Nat) : LifeX := { l with causes := cause :: l.causes, permanent := l.permanent || cause == 4 }

/-- 60.000 s in ticks (R228): 2 929 688 bells. -/
def nrstSpan : Nat := 2929688 * 4096

/-- The entry to FAULT at tick `t` counts towards NRST, once, where one of its causes counts (R228). Entries that no later count can reach
are forgotten. (Log entry: 27 DEDUCED.) -/
def LifeX.count (l : LifeX) (t cause : Nat) : LifeX :=
  if causeCounts cause && !l.counted.contains t then
    { l with counted := t :: l.counted.filter fun e => decide (t ≤ e + nrstSpan) }
  else l

/-- A rail has entered its state at the present tick. -/
def State.movedNow (s : State) (n : Fin 12) : Bool := (s.rail n).life.entry == s.now && s.fld RL_STATUS.PREV n != s.rst n

/-- A cause of Table 8-4 arises for a rail (R226, R228, R254). In OFF and RETIRED nothing comes of it. In FAULT it is logged; CAUSE keeps
its value, but takes the lowest code of those that arise at the tick of entry. Cause STRAND is permanent, and the rail goes on to RETIRED
at a later tick, since it makes one transition per tick (R213, Table 8-2). FAULT comes in the place of another transition of this tick; to
a rail that has left OFF at this tick the cause comes at the next one. (Log entry: 27 DEDUCED.) -/
def State.toFault (s : State) (n : Fin 12) (cause : Nat) : State :=
  let s := if s.rst n = stFault then s else s.unmove n
  let cls := if cause = 4 ∨ (cause = 3 ∧ s.rig.permRails.contains n.val) then clsPerm else clsTrans
  if !s.live n then s
  else if s.movedNow n ∧ s.rst n = stPrematch then s.askResp n { at_ := s.now + 1, kind := .cause, cause := cause }
  else if s.rst n = stFault then
    let s := s.modLife n fun l => (l.arise cause).count l.entry cause
    let s := if (s.rail n).life.entry = s.now ∧ cause < s.fld RL_STATUS.CAUSE n
      then s.setFld RL_STATUS.CAUSE n cause else s
    s.classify 0x12 n cls (some n) cause 0
  else
    let s := s.tuneEnd n 6 false
    let driven := s.contOut n
    let s := s.modMode n fun m => { m with faultMode := s.rst n }
    let s := (s.setCont n false).railPhasesOff n
    let s := (s.freeSlot n).setFld RL_STATUS.QUEUED n 0
    let s := s.enter n stFault
    let s := s.modLife n fun l => ({ l with causes := [] }.arise cause).count s.now cause
    let s := (s.setFlds n [(RL_STATUS.CAUSE, cause), (RL_STATUS.FLTF, 1)]).bump RL_SCNT.FLTCNT n
    let s := s.countLife (43 + n.val) 1
    let s := s.classify 0x12 n cls (some n) cause 0
    let s := s.trigger n trgFault false
    let s := s.notify n 1 cause
    if driven then s.notify n 2 cause else s

/-- Entry to OPEN (R224): contactor released, the voltage generator at rest at the latest VLOC from this tick, the current
target 0, and the first sample with PRE 1 on the local node. -/
def State.enterOpen (s : State) (n : Fin 12) : State :=
  let s := (s.moving n).tuneEnd n 6 false
  let s := (s.freeSlot n).setCont n false
  let s := s.enter n stOpen
  let v := (s.rail n).sense.vloc
  let s := s.modMode n fun m =>
    { m with preAt := some s.now, cc := false, xcnt := 0
             vgen := { m.vgen with p := (v : Rat), v := 0, a := 0, plan := [], target := (v : Rat), planned := true,
                                   next := none, back := 0 } }
  let s := s.setFlds n [(RL_PSET.VSET, v), (RL_PSET.VREST, 1), (RL_PSET.VBACK, 0)]
  s.notify n 2 0

/-- An auto-tune runs on a rail (R156). -/
def State.tuning (s : State) (n : Nat) : Bool := (s.rail (railOf n)).mode.tune.isSome

/-- The stop requests of a rail are withdrawn (R222): EN is 1, the link's enable is in force, and no budget turn-off stands. (Log entry:
27 DEDUCED.) -/
def State.withdrawStop (s : State) (n : Fin 12) : State :=
  if (s.rail n).life.stopReq.isSome && s.flag RL_CTRL.EN n && s.linkPermits n && !(s.rail n).life.budgetOff then
    s.modLife n fun l => { l with stopReq := none }
  else s

/-- A stop request (R222): at once in PREMATCH, after the turn-off delay in CLOSE, RAMP and REGULATE, without effect in
the other states. It comes before another transition out of PREMATCH at its tick (R213). A follower takes its transitions from the lead
and no stop request (R346). -/
def State.stopRequest (s : State) (n : Fin 12) : State :=
  let u := s.unmove n
  if s.follower n then s
  else if u.rst n = stPrematch then
    if u.contOut n then u.enterOpen n else u.enterOff n
  else if s.rst n = stClose ∨ s.rst n = stRamp ∨ s.rst n = stRegulate then
    if (s.rail n).life.stopReq.isSome then s else s.modLife n fun l => { l with stopReq := some s.now }
  else s

end Sys2Proof.Machine
end

