-- ==== Sys2Proof/Machine/Flash.lean ====
section
/-! DEFINITION. Machine/Flash.lean: the supervisor, the flash and field update (chapter 14). -/
namespace Sys2Proof.Machine

/-- The inactive slot: the one that is not ACTIVE (R405). -/
def State.inactive (s : State) : Bool := decide (s.flash.fwA.st = .active)

/-- A big-endian field of a firmware image. -/
def FwSlot.at_ (f : FwSlot) (off n : Nat) : Nat := beNat (memBytes erased f.bytes off n)

/-- The header fields that the device uses (Table 14-8); the image of manufacture has release 0 and level 1. (Log entry: 5 DESIGN CHOICE.)
-/
def FwSlot.seq (f : FwSlot) : Nat := if f.factory then 0 else f.at_ 0x14 4
def FwSlot.floor (f : FwSlot) : Nat := if f.factory then 0 else f.at_ 0x18 4
def FwSlot.ver (f : FwSlot) : Nat := if f.factory then 0 else f.at_ 0x10 4
def FwSlot.clvl (f : FwSlot) : Nat := if f.factory then 1 else f.at_ 0x1C 1
def FwSlot.cmin (f : FwSlot) : Nat := if f.factory then 1 else f.at_ 0x1D 1
def FwSlot.setfmt (f : FwSlot) : Nat := if f.factory then 1 else f.at_ 0x0F 1
def FwSlot.minrev (f : FwSlot) : Nat := if f.factory then 0 else f.at_ 0x0E 1
def FwSlot.imgLen (f : FwSlot) : Nat := f.at_ 8 4
def FwSlot.keyIdx (f : FwSlot) : Nat := if f.factory then 0 else f.at_ (f.imgLen + 4) 1
def FwSlot.revoke (f : FwSlot) : Bool := !f.factory && bitAt (f.at_ 5 1) 1

/-- The remaining ranges of Table 14-8 that a valid header keeps (R404). (Log entry: 19 DEDUCED.) -/
def FwSlot.fieldsOk (f : FwSlot) : Bool :=
  decide (1 ≤ f.setfmt ∧ f.floor ≤ f.seq ∧ 1 ≤ f.cmin ∧ f.cmin ≤ f.clvl) && decide (64 ≤ f.at_ 0x20 4)

/-- The device code and the silicon revision (Table 15-11). -/
def State.devCode (s : State) : Nat := if s.small then 0x2406 else 0x4812
def State.rev (s : State) : Nat := s.fld GLB_ID.REV 0

/-- A firmware slot's check (R394, Table 14-10): 0 when it passes. (Log entries: 5 DESIGN CHOICE, 8 DESIGN CHOICE, 19 DEDUCED.) -/
def State.fwCheck (s : State) (b : Bool) : Nat :=
  let f := s.fw b
  let keyOk := fun (k : Nat) => if k = 0 then s.flash.fkey0 else if k = 1 then s.flash.fkey1 else false
  if s.fwHalf b then 0x86
  else if f.factory then (if !keyOk 0 then 0x88 else if f.seq < s.flash.boot.fwFloor then 0x89 else 0)
  else
    let len := f.imgLen
    let flags := f.at_ 5 1
    let dev := f.at_ 0x0C 2
    if f.at_ 0 4 ≠ 0x534B4657 ∨ f.at_ 4 1 ≠ 1 ∨ flags % 2 ≠ 1 ∨ 4 ≤ flags ∨ f.at_ 6 2 ≠ 64 ∨ len % 4 ≠ 0 ∨ len < 64
        ∨ 1048496 < len ∨ !f.fieldsOk ∨ (dev ≠ 0 ∧ dev ≠ s.devCode) ∨ s.rev < f.minrev then 0x86
    else if f.at_ 0x3C 4 ≠ crc32 (memBytes erased f.bytes 0 0x3C)
        ∨ f.at_ 0x24 4 ≠ crc32 (memBytes erased f.bytes 0x40 (len - 0x40)) then 0x87
    else if f.at_ len 4 ≠ 0x534B4653 ∨ f.at_ (len + 5) 1 ≠ 1 ∨ !keyOk f.keyIdx
        ∨ !Config.verifies (Config.firmwareKey f.keyIdx) ((memBytes erased f.bytes 0 len).map (BitVec.ofNat 8))
            ((memBytes erased f.bytes (len + 16) 64).map (BitVec.ofNat 8)) then 0x88
    else if f.seq < s.flash.boot.fwFloor then 0x89
    else 0

/-- The supervisor runs (Table 14-13) and no debugger halts it. -/
def State.svRuns (s : State) : Bool := s.fld SV_STATUS.STATE 0 == 1 && !s.power.halted

/-- A command of Table 14-9 that is not performed (R405). -/
def State.fuRefuse (s : State) (code : Nat) : State := (s.setFld FU_STATUS.CODE 0 code).raise SV_EVENT.REFUSED 0

/-- A command performed and complete. -/
def State.fuDone (s : State) : State := (s.setFld FU_STATUS.CODE 0 0).raise SV_EVENT.DONE 0

/-- A command begins whose operations are still to complete: BUSY till then. -/
def State.fuBusy (s : State) : State := (s.setFld FU_STATUS.CODE 0 0).setFld FU_STATUS.BUSY 0 1

/-- An operation of a command joins the queue; BUSY until it completes. -/
def State.flashCmd (s : State) (o : FlashOp) : State := s.fuBusy.flashOp o

/-- The RETIRE device record of the present retirements (Table 14-7) joins the queue (R257). -/
def State.saveRetire (s : State) : State :=
  s.journalOp { kind := 0x81, fmt := 0, key := 0, v0 := (s.reg .FM_RETP_LO 0).toNat, v1 := (s.reg .FM_RETP_HI 0).toNat
                v2 := (s.reg .FM_RETS 0).toNat } false

/-- The live records of the journal: for each kind and key the one of highest SEQ (R397). -/
def liveRecs (j : List (Nat × SetRec)) : List (Nat × SetRec) :=
  j.filter fun e => !(j.any fun d => d.2.kind == e.2.kind && d.2.key == e.2.key && decide (e.1 < d.1))

/-- SETFMT of the running firmware (R399). -/
def State.setFmt (s : State) : Nat := if s.fld SV_STATUS.STATE 0 = 3 then 0 else (s.fw s.flash.runSlot).setfmt

/-- Whether one more live record would fill more than 120 sectors (R400). -/
def State.journalFull (s : State) : Bool := decide (120 * Region.settings.per < (liveRecs s.flash.journal).length + 1)

/-- The state of the firmware slots shown in FU_STATUS. -/
def State.showFw (s : State) : State :=
  s.setFlds 0 [(FU_STATUS.OPEN, bit (s.flash.fwA.st == .opened || s.flash.fwB.st == .opened)),
    (FU_STATUS.TRIAL, bit s.flash.trial.isSome), (FU_STATUS.ACTPEND, bit s.flash.pendAct.isSome)]

/-- Ticks from now to the boundary of an epoch (R59, R408). -/
def State.ticksTo (s : State) (epoch : Nat) : Int := (epoch * 4096 : Nat) - (s.T : Int)

/-- The request checks of an activation (R410, Table 14-10): 0 when it may become pending. -/
def State.actRequest (s : State) (epoch : Nat) : Nat :=
  let f := s.fw s.inactive
  let others := s.lan.levels.filter fun m => m.1 != s.fld LY_STATUS.MEMBER 0 && !(m.2.1 == 0 && m.2.2.1 == 0 && !m.2.2.2)
  if f.st ≠ .staged then 0x80
  else if s.flash.trial.isSome ∨ s.flash.pendAct.isSome then 0x81
  else if s.ticksTo epoch < 256 then 0x82
  else if s.rev < f.minrev then 0x83
  else if others.any (fun m => decide (f.clvl < m.2.2.1) || decide (m.2.1 < f.cmin)) then 0x84
  else if others.any (fun m => m.2.2.2) then 0x85
  else 0

/-- A requested activation becomes pending (R408). -/
def State.pendAct (s : State) (epoch : Nat) (auto : Bool) (act : Option (Nat × Nat)) : State :=
  (s.modFlash fun f => { f with pendAct := some (epoch, auto, act) }).showFw

/-- The CHECK in progress is abandoned by a supervisor reset (R58). -/
def State.abandonCheck (s : State) : State :=
  if s.fld RG_STATUS.STATE 0 = 2 then
    let s := s.setFlds 0 [(RG_STATUS.STATE, 1), (RG_STATUS.CODE, 0x14), (RG_STATUS.DETAIL, 0), (RG_EVENT.REFUSED, 1),
      (RG_SID.ID, 0)]
    { s with shadow := RigSet.empty }
  else s

/-- The fault manager resets the supervisor core alone (R261, R408): it reboots, a slot that is OPEN becomes INVALID (R406),
and a CHECK is abandoned. -/
def State.resetCore (s : State) : State :=
  let s := s.setFld SV_STATUS.STATE 0 2
  let t := s.modFlash fun f =>
    { f with fwA := if f.fwA.st = .opened then { f.fwA with st := .invalid } else f.fwA
             fwB := if f.fwB.st = .opened then { f.fwB with st := .invalid } else f.fwB }
  (s.keepBoot t).showFw.abandonCheck

/-- A commit (R409): the boot record is written, and a firmware key that the image revokes is programmed so. -/
def State.commitTrial (s : State) : State :=
  let t := s.inactive
  let f := s.fw t
  let s := s.modFw (!t) fun x => { x with st := .standby }
  let s := s.modFw t fun x => { x with st := .active }
  let s := s.modFlash fun x => { x with trial := none, boot := { x.boot with fwFloor := max x.boot.fwFloor f.floor } }
  let s := if f.revoke then
      s.flashOp (.provision (.firmwareKeys (s.flash.fkey0 && f.keyIdx != 1) (s.flash.fkey1 && f.keyIdx != 0)) false)
    else s
  s.bootSave.showFw.raise SV_EVENT.COMMITTED 0

/-- A trial that ends without commit (R409): the ACTIVE slot restarts, and a CHECK in progress is abandoned (R58). -/
def State.endTrial (s : State) (code : Nat) (st : FwState) : State :=
  let t := s.inactive
  let s := s.modFw t fun x => { x with st := st }
  let s := s.modFlash fun x => { x with trial := none, runSlot := !t }
  let s := s.setFlds 0 [(FU_STATUS.CODE, code), (SV_EVENT.ROLLEDBACK, 1), (SV_STATUS.SLOT, bit (!t))]
  s.bootSave.showFw.abandonCheck

/-- The bytes of FU_BUF, the lowest byte of a word most significant (R405). -/
def State.fuBuf (s : State) (k n : Nat) : List Byte :=
  (((List.range 32).flatMap fun i => bytesBE (s.reg .FU_BUF i).toNat).map (BitVec.ofNat 8)).drop k |>.take n

/-- A key slot of a kind: false image, true debug. -/
def State.keySlot (s : State) (debug : Bool) (i : Nat) : KeySlot :=
  if debug then vget s.flash.debugKeys i else vget s.flash.imageKeys i
def State.setKey (s : State) (debug : Bool) (i : Nat) (k : KeySlot) : State :=
  s.modFlash fun f =>
    let j : Fin 4 := chanOf i
    if debug then { f with debugKeys := f.debugKeys.set j k } else { f with imageKeys := f.imageKeys.set j k }

/-- A RIGSAVE is writing a rigging slot: what the slot holds is not read until it has ended (R384). -/
def FlashOp.saves (o : FlashOp) : Option Bool :=
  match o with
  | .rigsave b _ _ _ _ => some b
  | .erase _ _ => none
  | .program _ _ _ => none
  | .record _ _ => none
  | .provision _ _ => none
  | .clearLog _ _ _ _ => none
def State.rigWriting (s : State) (b : Bool) : Bool := s.flash.ops.any fun o => o.saves == some b

/-- The image of a rigging slot: whether it holds an image of these three marks (R395). (Log entry: 17 DEDUCED.) -/
def State.rigHolds (s : State) (b : Bool) (id seq : Nat) (signed : Bool) : Bool :=
  let r := s.rigSlot b
  let g := fun off n => beNat (memBytes erased r.bytes off n)
  !s.rigHalf b && !s.rigWriting b && r.bytes != [] && g 0x14 4 == id && g 0x18 4 == seq && (g 0x0E 2 % 2 == 1) == signed

/-- A challenge of R274 is consumed. -/
def State.consumeChal (s : State) : State :=
  (s.setFlds 0 [(DBG_CHAL_HI.CHAL, 0), (DBG_CHAL_LO.CHAL, 0)]).modFault fun f => { f with chal := false }

/-- FWOPEN (Table 14-9). -/
def State.fuFwopen (s : State) : State :=
  if s.flash.trial.isSome ∨ s.flash.pendAct.isSome then s.fuRefuse 0x91
  else
    let b := s.inactive
    let s := s.keepBoot (s.modFw b fun f => { f with st := .opened })
    ((s.setFld FU_OFS.OFS 0 0).showFw).flashCmd (.erase ((List.range fwSectors).map fun k => fwSector b + k) true)

/-- FWWRITE (R405, R406). -/
def State.fuFwwrite (s : State) (arg : Nat) : State :=
  let b := s.inactive
  let ofs := s.fld FU_OFS.OFS 0
  if (s.fw b).st ≠ .opened then s.fuRefuse 0x91
  else if arg * 128 < ofs then s
  else if ofs < arg * 128 then s.fuRefuse 0x92
  else if 1048576 ≤ ofs then s.fuRefuse 0x91
  else (s.flashCmd (.program b ofs (s.fuBuf 0 128))).setFld FU_OFS.OFS 0 (ofs + 128)

/-- FWCLOSE. -/
def State.fuFwclose (s : State) : State :=
  let b := s.inactive
  if (s.fw b).st = .opened ∧ 64 ≤ s.fld FU_OFS.OFS 0 then
    ((s.modFw b fun f => { f with st := .staged }).bootSave.showFw).fuDone
  else s.fuRefuse 0x91

/-- The epoch in FU_ACTE. -/
def State.fuEpoch (s : State) : Nat := s.fld FU_ACTE_HI.EPOCH_H 0 * 2 ^ 32 + s.fld FU_ACTE_LO.EPOCH_L 0

/-- FWACT (R408, R410). -/
def State.fuFwact (s : State) (arg : Nat) : State :=
  let c := s.actRequest s.fuEpoch
  if c = 0 then (s.pendAct s.fuEpoch (bitAt arg 0) none).fuDone else s.fuRefuse c

/-- FWCANCEL. -/
def State.fuFwcancel (s : State) : State :=
  match s.flash.pendAct with
  | none => s.fuRefuse 0x91
  | some p =>
    if s.ticksTo p.1 < 256 then s.fuRefuse 0x91
    else ((s.modFlash fun f => { f with pendAct := none }).showFw).fuDone

/-- COMMIT and ROLLBACK (R409). -/
def State.fuCommit (s : State) : State := if s.flash.trial.isSome then s.commitTrial.fuDone else s.fuRefuse 0x91
def State.fuRollback (s : State) : State :=
  if s.flash.trial.isSome then ((s.endTrial 0x8B .staged).setFld SV_STATUS.STATE 0 2).raise SV_EVENT.DONE 0
  else s.fuRefuse 0x91

/-- The bytes of the staged image that RIGSAVE writes, its IMAGE_ID and its signed flag (R407). -/
def State.stagedId (s : State) : Nat := beNat (memBytes 0 s.flash.staging 0x14 4)
def State.stagedSigned (s : State) : Bool := beNat (memBytes 0 s.flash.staging 0x0E 2) % 2 == 1
def State.stagedImage (s : State) : List Byte :=
  let len := beNat (memBytes 0 s.flash.staging 8 4)
  (memBytes 0 s.flash.staging 0 (len + (if s.stagedSigned then 80 else 0))).map (BitVec.ofNat 8)

/-- RIGSAVE (R407). After a swap the staged image and the shadow set are two: what is written and recorded is the staged one. (Log entry:
17 DEDUCED.) -/
def State.fuRigsave (s : State) : State :=
  if s.fld RG_STATUS.STATE 0 ≠ 3 ∨ !s.shadow.loaded ∨ s.shadow.imgSeq < s.flash.boot.rigFloor then s.fuRefuse 0x96
  else if s.rigHolds s.flash.boot.prefRig s.shadow.imageId s.shadow.imgSeq s.shadow.signed then s.fuDone
  else s.flashCmd (.rigsave (!s.flash.boot.prefRig) 0 s.stagedImage s.stagedId s.stagedSigned)

/-- KEYLOAD (R401). (Log entry: 8 DESIGN CHOICE.) -/
def State.fuKeyload (s : State) (arg : Nat) : State :=
  let d := bitAt arg 4
  let k := s.fuBuf 0 64
  if !Config.onCurve k then s.fuRefuse 0x93
  else if (s.keySlot d (arg % 4)).st ≠ .empty then s.fuRefuse 0x94
  else s.flashCmd (.provision (.key d (arg % 4) { st := .loaded, key := k }) true)

/-- KEYREVOKE (R402). (Log entry: 8 DESIGN CHOICE.) -/
def State.fuKeyrevoke (s : State) : State :=
  let g := fun k n => beNat ((s.fuBuf k n).map BitVec.toNat)
  let d := g 4 1 == 1
  let signer := s.keySlot d (g 6 1)
  if g 0 4 ≠ 0x534B5256 ∨ 1 < g 4 1 ∨ 3 < g 5 1 ∨ 3 < g 6 1 ∨ !s.fault.chal
      ∨ g 8 8 ≠ s.fld DBG_CHAL_HI.CHAL 0 * 2 ^ 32 + s.fld DBG_CHAL_LO.CHAL 0 ∨ signer.st ≠ .loaded
      ∨ !Config.verifies signer.key (s.fuBuf 0 16) (s.fuBuf 16 64) then s.fuRefuse 0x95
  else
    let k := s.keySlot d (g 5 1)
    s.consumeChal.flashCmd (.provision (.key d (g 5 1) { k with st := .revoked }) true)

/-- LOCK (R403): the locks are programmed, and a raised RIGFLOOR is written in a boot record. -/
def State.fuLock (s : State) (arg : Nat) : State :=
  let t := s.fuBusy
  let t := if bitAt arg 2 then
      s.keepBoot (t.modFlash fun f => { f with boot := { f.boot with rigFloor := max f.boot.rigFloor (s.fld RG_ASEQ.VALUE 0) } })
    else t
  t.flashOp (.provision (.locks (bitAt arg 0) (bitAt arg 1)) true)

/-- The register at an address, with the element it belongs to (R412, R413). Registers behind a select field stand at one
address; the select is applied apart. -/
def regAtAddr (a : Nat) : Option (Reg × Nat) :=
  allRegs.findSome? fun r =>
    let x := r.row
    if a < x.base then none
    else if x.addrs = 1 then (if a = x.base then some (r, 0) else none)
    else if (a - x.base) % x.stride = 0 ∧ (a - x.base) / x.stride < x.addrs then some (r, (a - x.base) / x.stride)
    else none

/-- The registers that have a TAG field (R320). -/
def Reg.tagged : Reg → Bool
  | .GLB_CTRL => true
  | .LY_ACT => true
  | .RL_CTRL => true
  | .RL_ATCTL => true
  | .RL_TCTL => true
  | .LK_CTRL => true
  | .ST_TEST => true
  | .CV_CTRL => true
  | .CV_SNS => true
  | .FM_CMD => true
  | .LB_CTRL => true
  | .TR_CMD => true
  | .RP_CTRL => true
  | .DBG_CMD => true
  | .RG_CMD => true
  | .FU_CMD => true
  | _ => false

/-- Whether FU_CMD 12 may save an address (Table 14-9). (Log entry: 18 DEDUCED.) -/
def savable (a : Nat) : Bool :=
  match regAtAddr a with
  | none => false
  | some (r, _) => !r.tagged && (r.row.rw != 0 || r.row.rwl != 0) && ((decide (0x100 ≤ a ∧ a ≤ 0x25FF)) || r == .RG_CTRL)

/-- MODELSAVE (Table 14-9). -/
def State.fuModelsave (s : State) (arg : Nat) : State :=
  let n := arg % 16
  if 12 ≤ n ∨ s.absentRail n then s.fuRefuse 0x91
  else if s.journalFull then s.fuRefuse 0x98
  else s.fuBusy.journalOp { kind := 3, fmt := s.setFmt, key := n, v0 := (s.reg .MS_CFG n).toNat, v1 := (s.reg .MS_LIM n).toNat } true

/-- SETDEF. -/
def State.fuSetdef (s : State) : State := s.fuBusy.journalOp { kind := 4, fmt := s.setFmt, key := 0, v0 := 0 } true

/-- The last operation of an FU_CMD command has completed (R405). -/
def State.flashEnd (s : State) : State := (s.setFld FU_STATUS.BUSY 0 0).raise SV_EVENT.DONE 0

/-- What is programmed into the provisioning sector (R401 to R403, R409). -/
def State.provision (s : State) (p : Provision) : State :=
  match p with
  | .key d i k => s.setKey d i k
  | .locks a b => s.modFlash fun f => { f with lockSig := f.lockSig || a, lockPec := f.lockPec || b }
  | .firmwareKeys a b => s.modFlash fun f => { f with fkey0 := a, fkey1 := b }

/-- The sectors of the settings journal that hold no record (R400). -/
def State.freeSettings (s : State) : Nat :=
  ((List.range 128).filter fun x => !s.usedSector .settings (640 + x)).length

/-- The compaction of the settings journal (R400): when at most 2 sectors are free, the live records of the oldest sector are written
again at the head, in the order and with the SEQs that they have (R398), settings of another format are dropped (R399), and the sector is
erased. (Log entry: 18 DEDUCED.) -/
def State.compact (s : State) : State :=
  let last := (s.flash.settings.head + Region.settings.places - 1) % Region.settings.places / Region.settings.per
  let busy := s.flash.ops.any fun o => match o with
    | .erase (x :: _) _ => decide (640 ≤ x ∧ x < 768)
    | _ => false
  if 2 < s.freeSettings ∨ busy then s
  else match ((List.range 127).map fun i => 640 + (last + 1 + i) % 128).find? fun x => s.usedSector .settings x with
    | none => s
    | some x =>
      let live := liveRecs s.flash.journal
      let old := ((s.flash.valid .settings).filter fun e => Region.settings.sectorOf e.1 == x).filterMap fun e =>
        live.find? fun d => d.1 == Region.settings.seqOf e.2
      let keep := old.filter fun d => decide (0x80 ≤ d.2.kind) || d.2.fmt == s.setFmt
      s.flashFirst ((keep.map fun d => .record (.setting d.1 d.2) false) ++ [.erase [x] false])

/-- A record programmed at the head of its ring, with what follows for the ring (R389, R400). A sector that is not blank is erased first,
and the record stays next. (Log entry: 17 DEDUCED.) -/
def State.recordDone (s : State) (r : FlashRec) (cmd : Bool) : State :=
  let g := r.region
  let h := (s.flash.ring g).head
  if s.headUsed g then (s.flashFirst [.record r cmd]).eraseDone (g.sectorOf h)
  else
    let s := s.ringAdd g r.bytes
    let s := match g with
      | .settings => s.compact
      | .logbook => s.showLog
      | .erases => s
      | .counters => if h % g.per = 0 then s.ringAhead g h else s
      | .boots => if h % g.per = 0 then s.ringAhead g h else s
    if cmd then s.flashEnd else s

/-- One operation of an erase of the logbook (R266): the next sector of the ring is erased and takes the CLEARED record, and then every
other sector is erased, in the order of the ring; one that holds a newer record is left. (Log entry: 17 DEDUCED.) -/
def State.clearStep (s : State) (seq : Nat) (r : LogRec) (k x : Nat) : State :=
  if k = 0 then
    let y := (s.flash.logbook.head + 63) / 64 % 64
    ((s.flashFirst [.clearLog seq r 1 y]).eraseDone (768 + y)).modRing .logbook fun q => { q with head := y * 64 }
  else if k = 1 then ((s.ringAdd .logbook (FlashRec.log seq r).bytes).flashOp (.clearLog seq r 2 x)).showLog
  else
    let y := 768 + (x + k - 1) % 64
    let s := if 64 ≤ k then s else s.flashOp (.clearLog seq r (k + 1) x)
    if (s.flash.valid .logbook).any fun e => Region.logbook.sectorOf e.1 == y && decide (seq < Region.logbook.seqOf e.2) then s
    else (s.eraseDone y).showLog

/-- A flash operation that completes. What remains of its command goes behind the other operations waiting (R384). (Log entry: 17
DEDUCED.) -/
def State.flashComplete (s : State) (o : FlashOp) : State :=
  match o with
  | .erase [] cmd => if cmd then s.flashEnd else s
  | .erase (x :: r) cmd =>
    let s := if r = [] then s else s.flashOp (.erase r cmd)
    let s := s.eraseDone x
    if r = [] ∧ cmd then s.flashEnd else s
  | .program b ofs d => (s.modFw b fun f => { f with bytes := programBytes f.bytes ofs d }).flashEnd
  | .rigsave b k d id sg =>
    let last := decide (rigSectors ≤ k ∧ d.length ≤ (k + 1 - rigSectors) * 128)
    let s := if last then s else s.flashOp (.rigsave b (k + 1) d id sg)
    let s :=
      if k < rigSectors then s.eraseDone (rigSector b + k)
      else s.modRigSlot b fun r =>
        { r with bytes := programBytes r.bytes ((k - rigSectors) * 128) ((d.drop ((k - rigSectors) * 128)).take 128) }
    if !last then s
    else
      ((s.modRigSlot b fun r => { r with refused := false }).modFlash fun f =>
        { f with boot := if b then { f.boot with vrigB := id, signedB := sg }
                   else { f.boot with vrigA := id, signedA := sg } }).bootSave.flashEnd
  | .record r cmd => s.recordDone r cmd
  | .provision p cmd => if cmd then (s.provision p).flashEnd else s.provision p
  | .clearLog seq r k x => s.clearStep seq r k x

/-- A RIGSAVE in progress is stopped by a write that empties the shadow set (R407): the slot is left INVALID. (Log entry: 17 DEDUCED.) -/
def State.stopRigsave (s : State) : State :=
  match s.flash.ops.findSome? FlashOp.saves with
  | none => s
  | some b =>
    let s := s.modRigSlot b fun r => { r with refused := true }
    let s := s.modFlash fun f =>
      { f with ops := f.ops.filter fun o => o.saves.isNone
               boot := if b then { f.boot with vrigB := 0, signedB := false } else { f.boot with vrigA := 0, signedA := false } }
    s.bootSave.setFld FU_STATUS.BUSY 0 0

/-- FLASH_OPERATION_DONE: the operation in progress completes and the next one starts (R384, R387, R400). (Log entry: 48 DESIGN CHOICE.)
-/
def execFlashOperationDone (s : State) : Host.Outcome State Fault Refusal :=
  clocked s (match s.flash.ops with
    | [] => s
    | o :: r => (s.modFlash fun f => { f with ops := r }).flashComplete o)

/-- WEAR_RECORD_SAVE: at every 4 194 304th bell boundary, counted as the epoch counts, the running supervisor records the wear counts that
changed (R397, Table 14-1). (Log entry: 17 DEDUCED.) -/
def execWearRecordSave (s : State) : Host.Outcome State Fault Refusal :=
  clocked s (if !s.svRuns then s else (s.advance (s.nextGrid s.now (4194304 * 4096) 0)).forPhases fun s p =>
    let w := (s.phase p).wear / 2 ^ 12 % 2 ^ 32
    let old := match s.flash.wearSaved.find? fun e => e.1 == p.val with
      | some e => e.2
      | none => 0
    if w = old then s
    else
      let s := s.modFlash fun f => { f with wearSaved := (p.val, w) :: f.wearSaved.filter fun e => !(e.1 == p.val) }
      s.journalOp { kind := 0x82, fmt := 0, key := p, v0 := w } false)

/-- FIRMWARE_ACTIVATION: at the boundary the supervisor core is reset and the STAGED slot is checked into TRIAL (R408). -/
def execFirmwareActivation (s : State) : Host.Outcome State Fault Refusal :=
  clocked s (match s.flash.pendAct with
    | none => s
    | some (epoch, auto, act) =>
      let s := s.advance (s.now + (s.ticksTo epoch).toNat)
      let b := s.inactive
      let s := (s.modFlash fun f => { f with pendAct := none }).resetCore
      let c := s.fwCheck b
      let s :=
        if c = 0 then
          let s := s.modFw b fun f => { f with st := .trial }
          let s := s.modFlash fun f => { f with trial := some { began := none, auto := auto }, runSlot := b }
          let s := s.setFlds 0 [(FU_STATUS.CODE, 1), (SV_EVENT.TRIAL, 1), (SV_STATUS.SLOT, bit b)]
          (s.countLife 3 1).bootSave.showFw
        else
          let s := s.modFw b fun f => { f with st := .invalid }
          (s.setFlds 0 [(FU_STATUS.CODE, c), (SV_EVENT.REFUSED, 1)]).bootSave.showFw
      match act with
      | none => s
      | some a => s.sendActRes a.1 a.2 2 (if c = 0 then 1 else c))

/-- TRIAL_AUTOCOMMIT: a trial with AUTOCOMMIT has run 600 s without an expiry, counted from the tick at which its firmware runs (R409, Table
14-11). -/
def execTrialAutocommit (s : State) : Host.Outcome State Fault Refusal :=
  clocked s (match s.flash.trial with
    | none => s
    | some t => match t.began with
      | none => s
      | some b => if t.auto then (s.advance (b + 600 * 1000 * ms)).commitTrial else s)

end Sys2Proof.Machine
end

