-- ==== Sys2Proof/Machine/Lifecycle.lean ====
section
/-! DEFINITION. Machine/Lifecycle.lean: the rail lifecycle and the protection of chapter 8: the checks at the end of a
TC0 frame, and the transitions that a timer makes. -/
namespace Sys2Proof.Machine

/-- A field in which 0 is treated as 1. -/
def atLeast1 (v : Nat) : Nat := if v = 0 then 1 else v

/-- The rails in rising priority, then falling number (R237). -/
def State.byPrio (s : State) : List (Fin 12) :=
  (List.range 16).flatMap fun p => (List.finRange 12).reverse.filter fun n => s.fld RL_PRIO.PRIO n == p

/-- The device budget after fan derating (R237). -/
def State.pb (s : State) : Nat := s.fld PR_PBUDGET.PBUDGET 0 * (100 - s.fld FAN_DERATE.DERATE 0) / 100

/-- The rail's share P_n of the plan (R237). (Log entry: 27 DEDUCED.) -/
def State.planPn (s : State) (n : Fin 12) : Int :=
  let x := s.rail n
  if x.sense.iF ≤ 0 ∨ x.life.budgetOff then x.sense.pf
  else rhe ((x.sense.vf : Int) * min x.sense.iF (s.fld RL_PSTAT.CAP n)) 1000

/-- The plan (R237). -/
def State.plan (s : State) : Int :=
  (List.finRange 12).foldl (fun a (n : Fin 12) => if s.live n then a + s.planPn n else a) 0

/-- The budget floor of a rail (R237). -/
def State.budFloor (s : State) (n : Nat) : Nat := min (s.fld RL_IBUD.IFLOOR n) (s.fld RL_IBUD.IBUDGET n)

/-- The cut of the plan down to the budget (R237). -/
def State.cutPlan (s : State) : State :=
  let pb : Int := s.pb
  s.byPrio.foldl (fun s n =>
    let x := (s.rail n).sense
    if s.live n ∧ 0 < x.iF ∧ 0 < x.vf ∧ pb < s.plan then
      let cut := ((s.plan - pb) * 1000 + x.vf - 1) / x.vf
      let cap := max (s.budFloor n : Int) (min x.iF (s.fld RL_PSTAT.CAP n) - cut)
      (s.setFld RL_PSTAT.CAP n cap.toNat).raise PR_STATUS.CUTF 0
    else s) s

/-- The rise of the caps while the plan leaves room (R237). -/
def State.raisePlan (s : State) : State :=
  let lim : Int := (s.pb : Int) - s.fld PR_START.PBHYS 0 * 100
  s.byPrio.reverse.foldl (fun s n =>
    let x := (s.rail n).sense
    if (s.rst n = stRamp ∨ s.rst n = stRegulate) ∧ 0 < x.vf ∧ s.plan < lim then
      let up := (lim - s.plan) * 1000 / x.vf
      s.setFld RL_PSTAT.CAP n (min (s.fld RL_IBUD.IBUDGET n : Int) (s.fld RL_PSTAT.CAP n + up)).toNat
    else s) s

/-- A budget turn-off (R238). -/
def State.budgetTurnOff (s : State) : State :=
  match s.byPrio.find? (fun (n : Fin 12) => s.live n && decide (0 < (s.rail n).sense.iF) && !(s.rail n).life.budgetOff
      && (s.rst n == stClose || s.rst n == stRamp || s.rst n == stRegulate || s.rst n == stPrematch)) with
  | none => s
  | some n =>
    let s := s.raise PR_STATUS.BOFF 0
    let s := s.modLife n fun l => { l with budgetOff := true }
    s.stopRequest n

/-- The budget revision at the end of a frame (R237, R238) with PDEV, PPLAN and the excess that R239 times. The plan is the one that the two
loops leave: the last step limits the caps and does not take it again. -/
def State.reviseBudget (s : State) : State :=
  let lim : Int := (s.pb : Int) - s.fld PR_START.PBHYS 0 * 100
  let s := if (s.pb : Int) < s.plan then s.cutPlan else if s.plan < lim then s.raisePlan else s
  let plan := s.plan
  let dev := (List.finRange 12).foldl (fun a (n : Fin 12) => if s.live n then a + (s.rail n).sense.pf else a) 0
  let s := s.forRails fun s n =>
    if s.live n then s.setFld RL_PSTAT.CAP n (min (s.fld RL_PSTAT.CAP n) (s.fld RL_IBUD.IBUDGET n)) else s
  let s := if (s.pb : Int) < plan then s.budgetTurnOff else s
  let s := (s.setFldS PR_PDEV.P 0 dev).setFldS PR_PPLAN.P 0 plan
  s.modTele fun t =>
    { t with overAt := if (s.pb : Int) < dev then (match t.overAt with
        | some a => some a
        | none => some s.now) else none }

/-- K of R233. -/
def ovlK (tovl : Nat) : Int := rhe (tovl * 1000) 64

/-- The overload accumulator at the end of a frame (R233). -/
def State.overloadCheck (s : State) (n : Fin 12) : State :=
  if !s.live n then s
  else
    let iovl : Int := s.fld RL_OVL.IOVL n
    let i := (s.rail n).sense.iF
    let q := max 0 (((s.rail n).prot.q : Int) + i * i - iovl * iovl)
    let trip := iovl * iovl * ovlK (s.fld RL_OVL.TOVL n)
    let pct := if 0 < trip then min 255 (q * 256 / trip) else if 0 < q then 255 else 0
    let s := s.modProt n fun p => { p with q := q.toNat }
    let s := s.setFld RL_PSTAT.OVLPCT n pct.toNat
    if 0 < q ∧ trip ≤ q then s.toFault n 13 else s

/-- The rail voltage limits at the end of a frame (R234). -/
def State.railVoltageCheck (s : State) (n : Fin 12) : State :=
  let st := s.rst n
  let v := if st = stPrematch ∨ st = stOpen then (s.rail n).sense.vloc else (s.rail n).sense.vf
  let hi := decide (1 ≤ st ∧ st ≤ 6) && decide (s.fld RL_OV.MV n < v)
  let lo := decide (st = stRegulate) && decide ((s.rail n).sense.vf < s.fld RL_UV.MV n)
  let s := s.modProt n fun p => { p with ovRun := if hi then p.ovRun + 1 else 0, uvRun := if lo then p.uvRun + 1 else 0 }
  let s := if 2 ≤ (s.rail n).prot.ovRun then
      (s.toFault n 11).modLife n fun l => { l with ovLoc := st == stPrematch || st == stOpen }
    else s
  if 16 ≤ (s.rail n).prot.uvRun then s.toFault n 12 else s

/-- The bus voltage limits at the end of a frame (R235): BUSOV and BUSUV set where a run of frames reaches its length and where a rail
enters FAULT for it. (Log entry: 27 DEDUCED.) -/
def State.busVoltageCheck (s : State) : State :=
  let vb := s.fld CV_VBUS.MV 0
  let hi := decide (s.fld PR_VBOV.MV 0 ≤ vb)
  let lo := decide (vb ≤ s.fld PR_VBUV.MV 0)
  let s := s.modTele fun t => { t with busHi := if hi then t.busHi + 1 else 0, busLo := if lo then t.busLo + 1 else 0 }
  let runH := s.tele.busHi
  let runL := s.tele.busLo
  let firstH := runH == 2 || runH == 6
  let high := fun (s : State) (n : Fin 12) =>
    decide (2 ≤ runH) && s.live n && (s.rst n != stFault || firstH) && decide ((s.rail n).sense.iF < 0 ∨ 6 ≤ runH)
  let under := fun (s : State) (n : Fin 12) =>
    decide (2 ≤ runL) && s.live n && (s.rst n != stFault || runL == 2) && decide (0 < (s.rail n).sense.iF)
  let s := if firstH || (List.finRange 12).any (high s) then s.raise PR_STATUS.BUSOV 0 else s
  let s := s.forRails fun s n => if high s n then s.toFault n 14 else s
  let s := if runL == 2 || (List.finRange 12).any (under s) then s.raise PR_STATUS.BUSUV 0 else s
  s.forRails fun s n => if under s n then s.toFault n 15 else s

/-- A temperature reading of a rail at the end of a frame: none, outside every window, or the range it spans (R240,
R300). -/
inductive Reading where
  | none
  | invalid
  | range (lo hi : Int)
deriving DecidableEq, Repr

/-- The reading of rail `n` (R240): input TSENS, or the pack's report. -/
def State.tempReading (s : State) (n : Fin 12) : Reading :=
  let ts := s.fld RL_PRIO.TSENS n
  if ts < 16 then
    if s.flag TH_TEMP.INV ts then .invalid else .range (s.fldS TH_TEMP.T ts) (s.fldS TH_TEMP.T ts)
  else match (s.link n).report with
    | Option.none => .invalid
    | some r =>
      if s.flag LK_STATUS.TAGE n then .invalid
      else if r.fresh then .range r.tmin r.tmax else .none

/-- One window of R240 against a reading: forbidden now, and the run of readings well inside. -/
def windowStep (lo hi : Int) (empty : Bool) (r : Reading) (forbidden : Bool) (run : Nat) : Bool × Nat :=
  let h := min 16 ((hi - lo) / 4)
  match r with
  | .none => if empty then (true, 0) else (forbidden, run)
  | .invalid => (true, 0)
  | .range a b =>
    if empty ∨ a < lo ∨ hi < b then (true, 0)
    else if !forbidden then (false, 0)
    else if lo + h ≤ a ∧ b ≤ hi - h then (if 16 ≤ run + 1 then (false, 0) else (true, run + 1))
    else (true, 0)

/-- The charge temperature windows of a rail at the end of a frame (R240, R241). (Log entry: 27 DEDUCED.) -/
def State.tempWindow (s : State) (n : Fin 12) : State :=
  if s.absentRail n then s
  else
    let r := s.tempReading n
    let p := (s.rail n).prot
    let f := windowStep (s.fldS RL_TWF.LO n) (s.fldS RL_TWF.HI n) false r (s.flag RL_PSTAT.TWF n) p.okF
    let v := windowStep (s.fldS RL_TWR.LO n) (s.fldS RL_TWR.HI n) (!s.active.loop[n].revallow) r (s.flag RL_PSTAT.TWR n) p.okR
    let changed := f.1 != s.flag RL_PSTAT.TWF n || v.1 != s.flag RL_PSTAT.TWR n
    let s := s.modProt n fun p => { p with okF := f.2, okR := v.2 }
    let s := s.modSense n fun x => { x with temp :=
      match r with
      | .range a _ => (if s.fld RL_PRIO.TSENS n < 16 then a else
          match (s.link n).report with
          | some t => t.tavg
          | Option.none => a)
      | .none => x.temp
      | .invalid => x.temp }
    let s := s.setFlds n [(RL_PSTAT.TWF, bit f.1), (RL_PSTAT.TWR, bit v.1)]
    let s := s.modLink n fun l => { l with report := l.report.map fun t => { t with fresh := false } }
    if changed then s.notify n 4 0 else s

/-- The match at the end of a frame in PREMATCH (R219). -/
def State.prematchMatch (s : State) (n : Fin 12) : State :=
  if s.rst n ≠ stPrematch ∨ s.flag RL_STATUS.CONT n then s
  else
    let voc : Int := s.fld RL_VOC.VOC n
    let x := s.rail n
    let ok := s.flag RL_PSET.VREST n && decide ((((x.sense.vloc : Int) - voc).natAbs : Int) * 200 ≤ voc)
    let run := if ok then x.life.matchRun + 1 else 0
    let s := s.modLife n fun l => { l with matchRun := run }
    if run < atLeast1 (s.fld RL_TCON.MATCHN n) then s
    else if voc < (((x.sense.vr2 : Int) - voc).natAbs : Int) * 50 then s.toFault n 17
    else s.setCont n true

/-- Whether a cause of a FAULT is gone (R228). -/
def State.causeGone (s : State) (n : Fin 12) (c : Nat) : Bool :=
  match c with
  | 2 => !s.flag PR_STATUS.TSDACT 0
  | 3 => !s.rig.permRails.contains n.val
  | 5 => (s.railPhases n).any fun p => s.fld PH_MSTAT.STATE p != phHeld && s.fld PH_MSTAT.STATE p != phRetired
  | 8 => s.winSeen (voltWin n) != .above
  | 9 => s.winSeen (voltWin n) != .below
  | 10 => s.winSeen (currWin n) == .inside
  | 11 =>
    let v := if (s.rail n).life.ovLoc then (s.rail n).sense.vloc else (s.rail n).sense.vf
    decide (v ≤ s.fld RL_OV.MV n)
  | 12 => decide (s.fld RL_UV.MV n ≤ (s.rail n).sense.vf)
  | 14 => decide (s.fld PR_VBUV.MV 0 < s.fld CV_VBUS.MV 0 ∧ s.fld CV_VBUS.MV 0 < s.fld PR_VBOV.MV 0)
  | 15 => decide (s.fld PR_VBUV.MV 0 < s.fld CV_VBUS.MV 0 ∧ s.fld CV_VBUS.MV 0 < s.fld PR_VBOV.MV 0)
  | _ => true

/-- A rail in FAULT whose dwell is over leaves it when every cause is gone (R228): LOCKOUT, EN and OFF. A follower of a
spanning rail takes no restart of its own and only goes to OFF. -/
def State.faultLeave (s : State) (n : Fin 12) : State :=
  let l := (s.rail n).life
  if s.rst n = stFault ∧ !l.permanent ∧ l.entry + atLeast1 (s.fld RL_TCON.TFAULT n) * 10 * ms ≤ s.now
      ∧ l.causes.all (fun c => s.causeGone n c) then
    let counted := l.counted.filter fun t => decide (s.now ≤ t + nrstSpan)
    let s := s.modLife n fun l => { l with counted := counted }
    let s := if s.fld RL_TMO.NRST n < counted.length then
        let s := s.setFld RL_STATUS.LOCKOUT n 1
        let s := s.logRec (s.record 0x14 n clsInfo (some n) counted.length 0)
        s.notify n 5 0
      else s
    let s := if s.flag RL_CTRL.AUTO n then s else s.setFld RL_CTRL.EN n 0
    s.enterOff n
  else s

/-- Entry to CLOSE (R220): its first sample carries PRE 1. -/
def State.enterClose (s : State) (n : Fin 12) : State :=
  let s := ((s.moving n).enter n stClose).modLife n fun l => { l with closeSteps := 0, closeOvr := false }
  s.modMode n fun m => { m with preAt := some s.now }

/-- Entry to RAMPDOWN (R223, R144). (Log entry: 31 DEDUCED.) -/
def State.enterRampdown (s : State) (n : Fin 12) : State :=
  let s := ((s.unmove n).moving n).tuneEnd n 6 false
  let s := (s.freeSlot n).enter n stRampdown
  let s := s.modLife n fun l => { l with ramp := (((s.rail n).sense.iF.natAbs : Nat) : Rat), lowRun := 0 }
  if s.fld RL_MCTL.REQ n = 1 ∨ s.fld RL_MCTL.REQ n = 2 then
    s.modMode n fun m => { m with cc := true, xcnt := 0, preAt := some s.now }
  else s

/-- Entry to RAMP (R221, R144). (Log entry: 49 DESIGN CHOICE.) -/
def State.enterRamp (s : State) (n : Fin 12) : State :=
  let s := (s.moving n).enter n stRamp
  let lm := s.active.loop[n].mode
  let s := s.setFld RL_MCTL.REQ n (if lm = 2 then 1 else 0)
  let s := s.modMode n fun m => { m with cc := lm == 1, xcnt := 0 }
  s.modLife n fun l => { l with ramp := 0 }

/-- QUEUE_JOIN: the start condition has held for TONDLY and the rail joins the start queue (R215). -/
def execQueueJoin (n : Fin 12) (s : State) : Host.Outcome State Fault Refusal :=
  clocked s (match (s.rail n).life.condSince with
    | none => s
    | some t =>
      if s.rst n = stOff ∧ !s.flag RL_STATUS.QUEUED n ∧ s.startCond n ∧ s.railPhases n ≠ [] then
        let s := s.advance (t + s.fld RL_TDLY.TONDLY n * ms)
        (s.setFld RL_STATUS.QUEUED n 1).modLife n fun l => { l with arrival := some s.now, aged := false }
      else s)

/-- QUEUE_AGE_EXPIRY: a rail that has waited AGE seconds is ordered as PRIO 15 (R216). -/
def execQueueAgeExpiry (n : Fin 12) (s : State) : Host.Outcome State Fault Refusal :=
  clocked s (match (s.rail n).life.arrival with
    | none => s
    | some t =>
      if s.flag RL_STATUS.QUEUED n then
        (s.advance (t + atLeast1 (s.fld PR_START.AGE 0) * 1000 * ms)).modLife n fun l => { l with aged := true }
      else s)

/-- TCLOSE_EXPIRY: TCLOSE after the contactor is driven the rail enters CLOSE (R220). A follower takes this transition and the
next ones from its lead (R346). -/
def execTcloseExpiry (n : Fin 12) (s : State) : Host.Outcome State Fault Refusal :=
  clocked s (match (s.rail n).life.contAt with
    | none => s
    | some t =>
      if s.rst n = stPrematch ∧ !s.follower n then (s.advance (t + atLeast1 (s.fld RL_TCON.TCLOSE n) * ms)).enterClose n
      else s)

/-- CLOSE_END: after 16 profile steps in CLOSE the rail enters RAMP, or FAULT with CLOSEFAIL (R220). -/
def execCloseEnd (n : Fin 12) (s : State) : Host.Outcome State Fault Refusal :=
  clocked s (
    if s.rst n = stClose ∧ 16 ≤ (s.rail n).life.closeSteps then
      if (s.rail n).life.closeOvr then s.toFault n 18 else if s.follower n then s else s.enterRamp n
    else s)

/-- START_TIMEOUT: TSTART elapses without REGULATE (R221). -/
def execStartTimeout (n : Fin 12) (s : State) : Host.Outcome State Fault Refusal :=
  clocked s (
    if s.rst n = stPrematch ∨ s.rst n = stClose ∨ s.rst n = stRamp then
      (s.advance ((s.rail n).life.preTick + atLeast1 (s.fld RL_TMO.TSTART n) * 100 * ms)).toFault n 19
    else s)

/-- TURN_OFF_DELAY_EXPIRY: TOFFDLY after a stop request the rail enters RAMPDOWN (R222). -/
def execTurnOffDelayExpiry (n : Fin 12) (s : State) : Host.Outcome State Fault Refusal :=
  clocked s (match (s.rail n).life.stopReq with
    | none => s
    | some t =>
      if !s.follower n ∧ (s.rst n = stClose ∨ s.rst n = stRamp ∨ s.rst n = stRegulate) then
        (s.advance (t + s.fld RL_TDLY.TOFFDLY n * ms)).enterRampdown n
      else s)

/-- STOP_TIMEOUT: TSTOP elapses in RAMPDOWN (R223). -/
def execStopTimeout (n : Fin 12) (s : State) : Host.Outcome State Fault Refusal :=
  clocked s (
    if s.rst n = stRampdown then
      (s.advance ((s.rail n).life.entry + atLeast1 (s.fld RL_TMO.TSTOP n) * 10 * ms)).toFault n 20
    else s)

/-- TOPEN_EXPIRY: TOPEN elapses in OPEN and the rail enters OFF (R224, R225). -/
def execTopenExpiry (n : Fin 12) (s : State) : Host.Outcome State Fault Refusal :=
  clocked s (
    if s.rst n = stOpen ∧ !s.follower n then
      (s.advance ((s.rail n).life.entry + atLeast1 (s.fld RL_TCON.TOPEN n) * ms)).enterOff n
    else s)

/-- TFAULT_EXPIRY: TFAULT elapses, and once every cause is gone the rail leaves FAULT (R228). -/
def execTfaultExpiry (n : Fin 12) (s : State) : Host.Outcome State Fault Refusal :=
  clocked s (
    if s.rst n = stFault then
      (s.advance ((s.rail n).life.entry + atLeast1 (s.fld RL_TCON.TFAULT n) * 10 * ms)).faultLeave n
    else s)

/-- DIE_TSD_TRIP: every live rail enters FAULT with cause DIETSD, and no start condition holds (R242). (Log entry: 47 DEDUCED.) -/
def execDieTsdTrip (s : State) : Host.Outcome State Fault Refusal :=
  clocked s (
    let s := s.setFlds 0 [(PR_STATUS.TSDF, 1), (PR_STATUS.TSDACT, 1)]
    (s.forRails fun s n => s.toFault n 2).startChecks)

/-- DIE_TSD_CLEAR: the junction is below 130 °C (R242), so a FAULT of cause DIETSD alone may end (R228). -/
def execDieTsdClear (s : State) : Host.Outcome State Fault Refusal :=
  clocked s (
    let s := s.setFld PR_STATUS.TSDACT 0 0
    (s.forRails fun s n => s.faultLeave n).startChecks)

/-- BUDGET_OVERRUN: the device power has exceeded the budget for more than 2 ms (R239). -/
def execBudgetOverrun (s : State) : Host.Outcome State Fault Refusal :=
  clocked s (match s.tele.overAt with
    | none => s
    | some t => (s.advance (t + 2 * ms)).raise PR_STATUS.BUDOVR 0)

end Sys2Proof.Machine
end

