-- ==== Sys2Proof/Machine/Braid.lean ====
section
/-! DEFINITION. Machine/Braid.lean: the strands as elements: bindings, self-tests and probation (R134, R253, R256),
retirement, the choice of a spare and the takeover (R251 to R253, R257). -/
namespace Sys2Proof.Machine

/-- The strands bound to a rail. -/
def State.railStrands (s : State) (n : Fin 12) : List (Fin 32) :=
  (List.finRange 32).filter fun k => s.fld ST_CFG.RAIL k == n.val

/-- A strand that is a spare: bound to no rail, not retired, not on probation, and holding no replay (R134, R251). -/
def State.spare (s : State) (k : Fin 32) : Bool :=
  !s.absentStrand k && s.fld ST_CFG.ROLE k == 0 && !s.flag ST_CFG.RETIRED k && !(s.strand k).probation
    && s.fld ST_CFG.STATE k != 3

/-- A spare that runs nothing. -/
def State.idleSpare (s : State) (k : Fin 32) : Bool := s.spare k && s.fld ST_CFG.STATE k == 0

/-- The saturation flags of one sample set in a strand that computed it, and the sample counted (R114, Tables 4-17 and 4-18). (Log entry:
30 DEDUCED.) -/
def State.strandFlags (s : State) (k : Fin 32) (b : Nat) (frac : Bool) : State :=
  let s := s.raiseMask .ST_FLAG k b
  (if b = 0 then s else s.bump ST_CNT.SATCNT k).setFld ST_CFG.FRMODE k (bit frac)

/-- A strand leaves its binding. -/
def State.unbindStrand (s : State) (k : Fin 32) : State :=
  s.setFlds k [(ST_CFG.STATE, 0), (ST_CFG.ROLE, 0), (ST_CFG.RAIL, 0xF), (ST_TEST.BUSY, 0)]

/-- A strand is retired (R253, R134); the retirement is recorded (R257). -/
def State.retireStrand (s : State) (k : Fin 32) : State :=
  let s := (s.unbindStrand k).setFld ST_CFG.RETIRED k 1
  let s := s.modStrand k fun x => { x with probation := false, passRun := 0, failRun := 0 }
  (s.setFld FM_RETS.RET 0 (s.fld FM_RETS.RET 0 ||| 2 ^ k.val)).saveRetire

/-- A strand goes on probation: it runs self-tests until 16 consecutive passes (R253, R256, R257). -/
def State.probate (s : State) (k : Fin 32) : State :=
  (s.unbindStrand k).modStrand k fun x => { x with probation := true, passRun := 0, failRun := 0 }

/-- A self-test begins (R134). -/
def State.testStart (s : State) (k : Fin 32) : State :=
  (s.setFlds k [(ST_CFG.STATE, 2), (ST_CFG.FRMODE, 1), (ST_TEST.BUSY, 1)]).modStrand k fun x => { x with lastTest := s.now }

/-- A self-test ends (R134, R253, R256). (Log entry: 49 DESIGN CHOICE.) -/
def State.testDone (s : State) (k : Fin 32) (pass : Bool) : State :=
  let s := s.setFlds k [(ST_CFG.STATE, 0), (ST_TEST.BUSY, 0)]
  if pass then
    let s := s.setFld ST_TEST.PASSCNT k (s.fld ST_TEST.PASSCNT k + 1)
    s.modStrand k fun x =>
      { x with passRun := x.passRun + 1, failRun := 0, probation := x.probation && decide (x.passRun + 1 < 16) }
  else
    let s := s.modStrand k fun x => { x with failRun := x.failRun + 1, passRun := 0 }
    if 2 ≤ (s.strand k).failRun then
      let s := s.raise ST_TEST.FAIL k
      (s.classify 0x03 k clsPerm none (s.fld ST_TEST.PASSCNT k) 0).retireStrand k
    else s

/-- The element of least key, the first of them on a tie. -/
def leastBy {α : Type} (key : α → Nat) : List α → Option α
  | [] => none
  | a :: r => match leastBy key r with
    | none => some a
    | some b => if key b < key a then some b else some a

/-- The two strands of a braid. -/
def braidPair (k : Fin 16) : List (Fin 32) := [strandOf (2 * k.val), strandOf (2 * k.val + 1)]

/-- The strand of a replay is idle again. -/
def State.replayFree (s : State) : State :=
  match s.fault.replay with
  | some r => (s.setFld ST_CFG.STATE r.strand 0).modFault fun f => { f with replay := none }
  | none => s

/-- A replay stops before its end (R273). (Log entry: 40 DEDUCED.) -/
def State.replayStop (s : State) : State :=
  if s.fault.replay.isSome then s.replayFree.setFlds 0 [(RP_STATUS.STATE, 5), (RP_STATUS.DONEF, 1)] else s

/-- The choice of R251 among the strands that `ok` admits: the spare braid of lowest SPAREPRI, else the strand of lowest SPAREPRI. -/
def State.pickAmong (s : State) (ok : Fin 32 → Bool) : Option (List (Fin 32)) :=
  let pri := fun (k : Fin 32) => s.active.strand[k].sparepri
  let braids := (List.finRange 16).filter fun b => (braidPair b).all ok
  match leastBy (fun (b : Fin 16) => min (pri (strandOf (2 * b.val))) (pri (strandOf (2 * b.val + 1)))) braids with
  | some b => some (braidPair b)
  | none => (leastBy pri ((List.finRange 32).filter ok)).map fun k => [k]

/-- The choice of R251: among the spares that hold no replay, and where there is none, among those with the strand that holds the replay,
which it then aborts (R273). (Log entry: 30 DEDUCED.) -/
def State.pickSpare (s : State) : Option (List (Fin 32)) :=
  match s.pickAmong s.spare with
  | some c => some c
  | none => s.pickAmong fun k => s.spare k || s.fld ST_CFG.STATE k == 3

/-- The claimed strands enter service on a rail; a self-test they run is abandoned, and a replay stops (R251, R273). -/
def State.claimStrands (s : State) (n : Fin 12) (c : List (Fin 32)) : State :=
  c.foldl (fun (s : State) (k : Fin 32) =>
    let s := if s.fld ST_CFG.STATE k = 3 then s.replayStop else s
    s.setFlds k [(ST_CFG.STATE, 1), (ST_CFG.ROLE, if c.length = 1 then 1 else 2 + k.val % 2), (ST_CFG.RAIL, n), (ST_TEST.BUSY, 0)]) s

/-- The rail that a braid computes, shown by BR_STAT (Table 9-14), and the rail's own view of its strands. -/
def State.showBinding (s : State) (n : Fin 12) : State :=
  let ks := (s.railStrands n).filter fun (k : Fin 32) => s.fld ST_CFG.STATE k == 1
  let s := s.setFlds n [(RL_LSTAT.STA, match ks with
    | [] => 0x1F
    | k :: _ => k.val), (RL_LSTAT.BRAID, bit (ks.length == 2))]
  (List.finRange 16).foldl (fun (s : State) (b : Fin 16) =>
    let e := strandOf (2 * b.val)
    s.setFld BR_STAT.RAIL b (if s.fld ST_CFG.ROLE e = 2 then s.fld ST_CFG.RAIL e else 0xF)) s

/-- A takeover made: the flags, the rail's new binding and the TAKEOVER record (R251). In DETAIL2 bit k stands for old strand k. (Log
entry: 30 DEDUCED.) -/
def State.takeoverMade (s : State) (n : Fin 12) (c old : List (Fin 32)) : State :=
  let s := (s.showBinding n).raise FM_STATUS.TAKEOVER 0
  let s := s.modLoop n fun l => { l with unbraided := c.length == 1 }
  let new := match c with
    | [] => 0x1F
    | k :: _ => k.val
  s.classify 0x02 n clsInfo (some n) new (old.foldl (fun a k => a + 2 ^ k.val) 0)

/-- The old strands of a takeover are judged: those that differed are retired, the others go on probation (R253). -/
def State.judgeOld (s : State) (old bad : List (Fin 32)) : State :=
  old.foldl (fun (s : State) (k : Fin 32) => if bad.contains k then s.retireStrand k else s.probate k) s

/-- A rail left without a strand: nothing computes its samples any more, and it enters FAULT with cause STRAND (R250, R252). -/
def State.strandless (s : State) (n : Fin 12) : State :=
  (s.toFault n 4).modLoop n fun l => { l with takeover := true, rerun := false, claimed := [] }

/-- A permanent braid failure (R250 to R252): the takeover begins, or the rail enters FAULT with cause STRAND. -/
def State.beginTakeover (s : State) (n : Fin 12) (bad : List (Fin 32)) : State :=
  if !s.flag FM_CTRL.TKEN 0 then s.strandless n
  else match s.pickSpare with
    | none => (s.raise FM_STATUS.NOSPARE 0).strandless n
    | some c =>
      let old := s.railStrands n
      let s := s.claimStrands n c
      s.modLoop n fun l => { l with takeover := true, rerun := false, claimed := c, oldStrands := old, suspect := bad }

/-- The takeover at PREMATCH of a rail whose binding holds a retired strand (R257). Where none is made the rail enters FAULT with cause
STRAND at the next profile step, since it makes one transition per tick (R213). (Log entry: 27 DEDUCED.) -/
def State.bindingTakeover (s : State) (n : Fin 12) : State :=
  let old := s.railStrands n
  let bad := old.filter fun (k : Fin 32) => s.flag ST_CFG.RETIRED k
  if bad = [] then s
  else if !s.flag FM_CTRL.TKEN 0 then s.modLife n fun l => { l with noStrand := true }
  else match s.pickSpare with
    | none => (s.raise FM_STATUS.NOSPARE 0).modLife n fun l => { l with noStrand := true }
    | some c =>
      let s := old.foldl (fun (s : State) (k : Fin 32) => if bad.contains k then s.unbindStrand k else s.probate k) s
      (s.claimStrands n c).takeoverMade n c old

/-- SELFTEST_START: a spare strand or one on probation starts the self-test of every 10 ms (R134, R256). -/
def execSelftestStart (k : Fin 32) (s : State) : Host.Outcome State Fault Refusal :=
  clocked s (
    if s.idleSpare k ∨ ((s.strand k).probation ∧ s.fld ST_CFG.STATE k = 0 ∧ !s.flag ST_CFG.RETIRED k) then
      (s.advance ((s.strand k).lastTest + 10 * ms)).testStart k
    else s)

/-- SELFTEST_DONE: the self-test in progress ends with its CRC compared (R134). -/
def execSelftestDone (k : Fin 32) (pass : Bool) (s : State) : Host.Outcome State Fault Refusal :=
  clocked s (if s.fld ST_CFG.STATE k = 2 then s.testDone k pass else s)

end Sys2Proof.Machine
end

