-- ==== Sys2Proof/Machine/Loop.lean ====
section
/-! DEFINITION. Machine/Loop.lean: the strand's work on a sample: its start, its delivery, the braid compare, the re-run, the
takeover, and the duty-latch instant (R23, R130 to R132, R248 to R253), with the trace record (R267, R268). -/
namespace Sys2Proof.Machine

/-- What a sample depends on beside its vector, for a facet (R106). (Log entry: 31 DEDUCED.) -/
def FrozenCfg.par (c : FrozenCfg) (f : Fin 8) : StrandPar :=
  { loop := c.loop, coef := c.facets[f].coef, tables := c.tables, cslsb := c.cslsb
    dmin := RL_DLIM.DMIN.of c.dlim, dmax := RL_DLIM.DMAX.of c.dlim
    awen := RL_LCTL.AWEN.of c.lctl == 1, oofen := RL_LCTL.OOFEN.of c.lctl == 1
    fxP := RL_FXP.FXP.of c.fxp, fxB1 := RL_FXP.FXB1.of c.fxp, fxB2 := RL_FXP.FXB2.of c.fxp, fxO := RL_FXP.FXO.of c.fxp }

/-- The configuration of a rail as a sample at tick `t` finds it. -/
def State.cfgAt (s : State) (n : Fin 12) (t : Nat) : FrozenCfg :=
  { loop := s.active.loop[n], facets := s.active.facets[n], tables := s.active.tables[n], cslsb := s.active.sense[n].cslsb
    dlim := s.regAt .RL_DLIM n t, lctl := s.regAt .RL_LCTL n t, fxp := s.reg .RL_FXP n }

/-- The strands in service on a rail. -/
def State.working (s : State) (n : Fin 12) : List (Fin 32) :=
  if (s.rail n).loop.takeover then (s.rail n).loop.claimed
  else (s.railStrands n).filter fun (k : Fin 32) => s.fld ST_CFG.STATE k == 1

/-- The computation of a sample from the agreed state. -/
def State.compute (s : State) (n : Fin 12) (x : Sample) : StrandOut :=
  evalStrand (s.rail n).loop.st x.par x.vec x.first x.conv

/-- The word of LASTRES and the trace. -/
def Sample.marks (x : Sample) (miss : Bool) : Nat :=
  bit x.trig + 2 * bit x.blk + 4 * bit x.bmis + 8 * bit x.pchg + 16 * bit miss

/-- A trace record (Table 9-6). -/
def Sample.record (x : Sample) (tick : Nat) (miss : Bool) (duty ssig : Nat) : List Nat :=
  x.vec.words (x.marks miss) x.res ++ [tick % 2 ^ 32, 2 ^ 31 + duty % 2 ^ 20, ssig]

/-- The last `k` elements of a list. -/
def lastN {α : Type} (k : Nat) (xs : List α) : List α := xs.drop (xs.length - k)

/-- A record written to the rail's ring (R267), with the post-trigger count (R269). -/
def State.traceWrite (s : State) (n : Fin 12) (x : Sample) (miss : Bool) (duty ssig : Nat) : State :=
  let full := match s.trace[n].post with
    | some p => p.1 == 0
    | none => false
  if !s.traced n || !s.live n || s.frozen n || full then s
  else
    let r := x.record (s.absAt x.at_) miss duty ssig
    let post := s.fld TR_TRIG.POST 0
    s.modTrace n fun t =>
      { t with ring := lastN 4096 (t.ring ++ [r])
               post := if x.trig then t.trig.map fun src => (post, src) else t.post.map fun p => (p.1 - 1, p.2)
               trig := if x.trig then none else t.trig }

/-- The checkpoint before a sample (R268). -/
def State.checkpoint (s : State) (n : Fin 12) (x : Sample) : State :=
  if !x.mark || s.frozen n then s
  else
    let st := if x.first then StrandState.fresh x.par (errorInput x.par x.vec) else (s.rail n).loop.st
    let c := st.checkpoint (s.absAt x.at_)
    s.modTrace n fun t => { t with slots := lastN 4 (t.slots ++ [c]) }

/-- The results of a computed sample taken over: the agreed state, the flags and counts of its strands, and the rail's
status (R117, Tables 4-10, 4-13, 4-15, 4-17, 4-18). -/
def State.takeOut (s : State) (n : Fin 12) (ks : List (Fin 32)) (o : StrandOut) : State :=
  let s := ks.foldl (fun (s : State) (k : Fin 32) => s.strandFlags k o.flags.bits o.st.frac) s
  let s := s.setFlds n [(RL_LSTAT.WHELD, bit (o.whAw || o.whOof)), (RL_LSTAT.CLAMPL, bit o.st.clampL),
    (RL_LSTAT.CLAMPH, bit o.st.clampH), (RL_LSTAT.FRMODE, bit o.st.frac), (RL_SEXP.EO, o.st.eO), (RL_SEXP.EB2, o.st.eB2),
    (RL_SEXP.EB1, o.st.eB1), (RL_SEXP.EP, o.st.eP)]
  let s := if o.whAw then s.bump RL_LCNT.AWCNT n else s
  let s := if o.whOof then s.bump RL_LCNT.OOFCNT n else s
  s.modLoop n fun l => { l with st := o.st }

/-- A duty comes into force in the phase engines (R24). -/
def State.force (s : State) (n : Fin 12) (d : Nat) : State := s.setFlds n [(RL_DUTY.HELD, 0), (RL_DUTY.DUTY, d)]

/-- The latency of a sample in TB_RSLK (R28). (Log entries: 30 DEDUCED, 49 DESIGN CHOICE.) -/
def State.latency (s : State) (n : Fin 12) (taps : Nat) : State :=
  (s.setFlds n [(TB_RSLK.LAST, taps), (TB_RSLK.WORST, max taps (s.fld TB_RSLK.WORST n))]).note .TB_RSLK n TB_RSLK.WORST.lo

/-- Those of the rail's strands that are late: the only one, or those of a braid that the flags name (R132). (Log entry: 30 DEDUCED.) -/
def lateStrands (ks : List (Fin 32)) (lateA lateB : Bool) : List (Fin 32) :=
  match ks with
  | [a, b] => (if lateA then [a] else []) ++ (if lateB then [b] else [])
  | _ => ks

/-- A sample whose duty does not come into force by its duty-latch instant (R2, R28, R131, R132). With `held` the hold is that of a braid
(R249, R250), and no deadline is counted as missed. (Log entry: 30 DEDUCED.) -/
def State.missDeadline (s : State) (n : Fin 12) (held : Bool) (ks : List (Fin 32)) : State :=
  let s := (s.setFld RL_DUTY.HELD n 1).latency n 1023
  if held then s
  else
    let s := ks.foldl (fun (s : State) (k : Fin 32) => (s.raise ST_FLAG.MISS k).bump ST_CNT.MISSCNT k) s
    let cnt := match ks with
      | [] => 0
      | k :: _ => s.fld ST_CNT.MISSCNT k
    (s.classify 0x04 n clsTrans (some n) (s.fld TB_RSLK.WORST n) cnt).trigger n trgMiss false

/-- The head of the rail's queue of samples leaves it computed: it is recorded at once when its duty-latch instant has passed or it is
`late`, and waits for that instant otherwise. (Log entry: 30 DEDUCED.) -/
def State.completeHead (s : State) (n : Fin 12) (late : Bool) (duty ssig : Nat) (inForce : Bool) : State :=
  match (s.rail n).loop.jobs with
  | [] => s
  | x :: rest =>
  let s := s.modLoop n fun l => { l with jobs := rest, started := false, rerun := false }
  if x.missed || late then s.traceWrite n x true duty ssig
  else s.modLoop n fun l => { l with done := l.done ++ [{ sample := x, duty := duty, ssig := ssig, inForce := inForce }] }

/-- A braid's mismatch of a sample (R249, R250): `bad` are the strands that differ from what the sample's inputs give. -/
def State.braidMiss (s : State) (n : Fin 12) (x : Sample) (repeated : Bool) (bad : List (Fin 32)) : State :=
  let b : Fin 16 := braidOf (match s.working n with
    | [] => 0
    | k :: _ => k.val / 2)
  let s := (s.raise BR_STAT.MISF b).bump BR_STAT.MISCNT b
  let again := repeated || (match s.braids[b].missAt with
    | some t => decide (s.now ≤ t + ms)
    | none => false)
  let s := s.modBraid b fun y => { y with missAt := some s.now }
  let s := s.setFld RL_DUTY.HELD n 1
  let s := if again then s.raise BR_STAT.PERMF b else s
  let s := s.classify 0x01 b (if again then clsPerm else clsTrans) (some n) (s.absAt x.at_) (s.fld BR_STAT.MISCNT b)
  let s := s.trigger n trgFault false
  let s := s.modLoop n fun l =>
    { l with jobs := match l.jobs with
        | [] => []
        | a :: r => { a with bmis := a.bmis || !again } :: r }
  if again then s.beginTakeover n bad else s.modLoop n fun l => { l with rerun := true }

/-- Whether two strands' results agree, and which strands differ from the true result. -/
def badStrands (ks : List (Fin 32)) (dA sA dB sB : Nat) : List (Fin 32) :=
  match ks with
  | [] => []
  | a :: r => (if dA % 2 ^ 20 ≠ 0 ∨ sA % 2 ^ 32 ≠ 0 then [a] else []) ++
      (if dB % 2 ^ 20 ≠ 0 ∨ sB % 2 ^ 32 ≠ 0 then r.take 1 else [])

/-- STRAND_START: the rail's strands start the next sample once its error word is ready (R130). -/
def execStrandStart (n : Fin 12) (s : State) : Host.Outcome State Fault Refusal :=
  clocked s (
    let l := (s.rail n).loop
    match l.jobs with
    | [] => s
    | x :: _ =>
      if l.started || l.takeover then s
      else ((s.advance (x.at_ + 2)).checkpoint n x).modLoop n fun l => { l with started := true })

/-- STRAND_DELIVER: the sample in progress is computed and delivered; the first strand finishes it `tapsA` taps after its instant, a
braid's second `tapsB` taps (R28, R131, R132, R248). `dA`, `sA`, `dB` and `sB` are the bits by which a compute error changes the D and the
SSIG of the first and the second strand; 0 is none. (Log entries: 12 DEDUCED, 30 DEDUCED, 48 DESIGN CHOICE, 49 DESIGN CHOICE.) -/
def execStrandDeliver (n : Fin 12) (w : StrandTaps) (dA sA dB sB : Nat) (s : State) : Host.Outcome State Fault Refusal :=
  clocked s (
    let l := (s.rail n).loop
    match l.jobs with
    | [] => s
    | x :: _ =>
      if !l.started || l.takeover || l.rerun then s
      else
        let ks := s.working n
        let braid := ks.length = 2
        let taps := if braid then max w.a w.b else w.a
        let s := s.advance (x.at_ + (taps + 63) / 64)
        let o := s.compute n x
        if braid ∧ (dA % 2 ^ 20 ≠ dB % 2 ^ 20 ∨ sA % 2 ^ 32 ≠ sB % 2 ^ 32) then
          s.braidMiss n x false (badStrands ks dA sA dB sB)
        else
          let duty := o.duty ^^^ (dA % 2 ^ 20)
          let late := x.missed || decide (512 < taps)
          let s := s.takeOut n ks o
          let s :=
            if late then (if x.missed then s else s.missDeadline n false (lateStrands ks (decide (512 < w.a)) (decide (512 < w.b))))
            else
              let s := s.latency n taps
              if s.flag TB_RSMP.DETLATCH n then s.modLoop n fun l => { l with waiting := some duty }
              else s.force n duty
          s.completeHead n late duty (o.st.ssig ^^^ (sA % 2 ^ 32)) (!late))

/-- BRAID_RERUN_DONE: the re-run of a disputed sample ends (R249): its results match and its duty is recorded without coming
into force, or the failure is permanent (R250, R251). -/
def execBraidRerunDone (n : Fin 12) (dA sA dB sB : Nat) (s : State) : Host.Outcome State Fault Refusal :=
  clocked s (
    let l := (s.rail n).loop
    match l.jobs with
    | [] => s
    | x :: _ =>
      if !l.rerun then s
      else
        let ks := s.working n
        if dA % 2 ^ 20 ≠ dB % 2 ^ 20 ∨ sA % 2 ^ 32 ≠ sB % 2 ^ 32 then s.braidMiss n x true (badStrands ks dA sA dB sB)
        else
          let o := s.compute n x
          let s := s.takeOut n ks o
          s.completeHead n false (o.duty ^^^ (dA % 2 ^ 20)) (o.st.ssig ^^^ (sA % 2 ^ 32)) false)

/-- One sample of the catch-up of a takeover (R251): computed and held. -/
def State.catchUp (s : State) (n : Fin 12) (x : Sample) (fresh : Bool) : State :=
  let s := if fresh then s.checkpoint n x else s
  let o := s.compute n x
  let s := s.takeOut n (s.rail n).loop.claimed o
  s.completeHead n false o.duty o.st.ssig false

/-- TAKEOVER_LIVE: the claimed strands have computed the disputed sample and every later one whose error word is there, and
are live; the old strands are judged (R251, R253). -/
def execTakeoverLive (n : Fin 12) (s : State) : Host.Outcome State Fault Refusal :=
  clocked s (
    let l := (s.rail n).loop
    if !l.takeover || l.claimed == [] then s
    else
      let ready := l.jobs.filter fun x => decide (x.at_ + 2 ≤ s.now)
      let s := match ready with
        | [] => s
        | x :: r => r.foldl (fun (s : State) (y : Sample) => s.catchUp n y true) (s.catchUp n x false)
      let s := s.modLoop n fun l => { l with takeover := false, claimed := [], oldStrands := [], suspect := [] }
      (s.judgeOld l.oldStrands l.suspect).takeoverMade n l.claimed l.oldStrands)

/-- DUTY_LATCH: the duty-latch instant of the oldest sample that still waits for it, 8 ticks after its instant (R23, R24, R131): a duty
that DETLATCH held comes into force, or the deadline is missed; the trace record is written (R267). `lateA` and `lateB` name the strands
of a braid that have not finished by then (R132). Of the samples that a re-run holds back only the disputed one sets no MISS (R249). (Log
entry: 30 DEDUCED.) -/
def execDutyLatch (w : LatchIn) (s : State) : Host.Outcome State Fault Refusal :=
  let n := w.n
  clocked s (
    let l := (s.rail n).loop
    match l.done with
    | d :: r =>
      let s := s.advance (d.sample.at_ + 8)
      let s := match l.waiting with
        | some v => if d.inForce then (s.force n v).modLoop n fun l => { l with waiting := none } else s
        | none => s
      let s := if d.inForce then s else s.missDeadline n true []
      let s := s.modLoop n fun l => { l with done := r }
      s.traceWrite n d.sample (!d.inForce) d.duty d.ssig
    | [] =>
      match l.jobs.find? fun x => !x.missed with
      | none => s
      | some x =>
        let s := s.advance (x.at_ + 8)
        let s := s.modLoop n fun l =>
          { l with jobs := l.jobs.map fun y => if y.at_ = x.at_ then { y with missed := true } else y }
        s.missDeadline n (l.takeover || (l.rerun && l.jobs.head? == some x) || x.bmis) (lateStrands (s.working n) w.lateA w.lateB))

end Sys2Proof.Machine
end

