-- ==== Sys2Proof/Machine/Fault.lean ====
section
/-! DEFINITION. Machine/Fault.lean: the clearing of retirements (R256), the supervisor watchdog (R261), the logbook (§9.7),
freezes and the trace window (§9.8), replay (§9.9) and the debug unlock (§9.10). -/
namespace Sys2Proof.Machine

/-- Whether a phase is retired, and the bit of FM_RETP that shows it (Table 9-11). -/
def State.phRet (s : State) (p : Fin 48) : Bool := s.fld PH_MSTAT.STATE p == phRetired
def State.setRetp (s : State) (p : Fin 48) (on : Bool) : State :=
  let w := s.fld FM_RETP_LO.RET 0 + s.fld FM_RETP_HI.RET 0 * 2 ^ 32
  let w := if on then w ||| 2 ^ p.val else w - bit (bitAt w p.val) * 2 ^ p.val
  s.setFlds 0 [(FM_RETP_LO.RET, w), (FM_RETP_HI.RET, w / 2 ^ 32)]

/-- Whether FM_CMD accepts the clear of a phase, a strand or a rail (R256). -/
def State.phClearable (s : State) (p : Fin 48) : Bool :=
  s.phRet p && (match s.phRail p with
    | none => true
    | some n => !s.live n)
def State.railClearable (s : State) (n : Fin 12) : Bool :=
  s.rst n == stRetired && (s.railPhases n).any fun (p : Fin 48) => !s.phRet p

/-- A clear's record: information on the element of the command, with the values of its rail and the command in DETAIL1 (R263, Table 9-4).
(Log entry: 40 DEDUCED.) -/
def State.clearedRec (s : State) (elem : Nat) (n : Option (Fin 12)) (cmd : Nat) : State := s.classify 0x17 elem clsInfo n cmd 0

/-- A phase's retirement and fault history are cleared. -/
def State.clearPh (s : State) (p : Fin 48) : State :=
  let s := s.setFlds p [(PH_MSTAT.STATE, phNone), (PH_MSTAT.FCAUSE, 0)]
  let s := s.modPhase p fun x => { x with events := [], killRun := 0, dead := 0, shedAt := none }
  let s := s.setRetp p false
  let s := match s.phRail p with
    | some _ => s
    | none => s.setFld PH_PSTAT.CAUSE p 1
  s.clearedRec p (s.phRail p) 1

/-- A strand's retirement is cleared into probation. -/
def State.clearSt (s : State) (k : Fin 32) : State :=
  let s := (s.setFld ST_CFG.RETIRED k 0).setFld FM_RETS.RET 0 (s.fld FM_RETS.RET 0 - bit (bitAt (s.fld FM_RETS.RET 0) k.val) * 2 ^ k.val)
  (s.probate k).clearedRec k none 2

/-- A rail leaves RETIRED for OFF. -/
def State.clearRl (s : State) (n : Fin 12) : State := (s.enterOff n).clearedRec n (some n) 3

/-- A clear command that is not accepted. -/
def State.clearRefused (s : State) : State := s.raise FM_STATUS.CLRERR 0

/-- FM_CMD 1 to 4 (R256). A retirement cleared is recorded in the settings journal (R257). -/
def State.fmCmd (s : State) (w : Word) : State :=
  let e := FM_CMD.ELEM.of w
  match FM_CMD.CMD.of w with
  | 1 => if h : e < 48 then (if s.phClearable ⟨e, h⟩ then (s.clearPh ⟨e, h⟩).saveRetire else s.clearRefused) else s.clearRefused
  | 2 => if h : e < 32 then (if s.flag ST_CFG.RETIRED e then (s.clearSt ⟨e, h⟩).saveRetire else s.clearRefused) else s.clearRefused
  | 3 => if h : e < 12 then (if s.railClearable ⟨e, h⟩ then s.clearRl ⟨e, h⟩ else s.clearRefused) else s.clearRefused
  | 4 =>
    let t := s.forPhases fun s p => if s.phClearable p then s.clearPh p else s
    let t := t.forStrands fun s k => if s.flag ST_CFG.RETIRED k then s.clearSt k else s
    let t := t.forRails fun s n => if s.railClearable n then s.clearRl n else s
    if t = s then s else t.saveRetire
  | _ => s

/-- SUPERVISOR_WATCHDOG_EXPIRY: 100 ms without service reset the supervisor core alone (R261); an expiry in a trial ends it
(R409). `pc` is the program counter at the expiry. -/
def execSupervisorWatchdogExpiry (pc : Word) (s : State) : Host.Outcome State Fault Refusal :=
  clocked s (
    if !s.svRuns then s
    else
      let s := s.advance (s.fault.wdogAt + 100 * ms)
      let recent := s.now :: s.fault.expiries.filter fun t => decide (s.now ≤ t + 600 * 1000 * ms)
      let s := s.modFault fun f => { f with expiries := recent }
      let fourth := decide (4 ≤ recent.length)
      let s := (s.raise FM_STATUS.SUPWDT 0).countLife 5 1
      let s := if fourth then s.raise FM_STATUS.SUPPERM 0 else s
      let s := s.classify 0x11 0xFF (if fourth then clsPerm else clsTrans) none pc.toNat 0
      let s := s.resetCore
      if s.flash.trial.isSome then s.endTrial 0x8A .invalid else s)

/-- TCDRIFT_PERMANENT: a drift flag has stayed set for 1 s, and the fault is permanent (R254). (Log entry: 9 DESIGN CHOICE.) -/
def execTcdriftPermanent (c : Fin 2) (s : State) : Host.Outcome State Fault Refusal :=
  clocked s (
    let at_ := if c = 0 then s.tele.driftAt0 else s.tele.driftAt1
    let gone := if c = 0 then !s.flag CV_STATUS.TC0DRIFT 0 || s.tele.driftPerm0 else !s.flag CV_STATUS.TC1DRIFT 0 || s.tele.driftPerm1
    match at_ with
    | none => s
    | some t =>
      if gone then s
      else
        let s := s.advance (t + 1000 * ms)
        let s := s.modTele fun x => if c = 0 then { x with driftPerm0 := true } else { x with driftPerm1 := true }
        s.classify 0x0A c clsPerm none (if c = 0 then s.tele.xcode0 else s.tele.xcode1) (Config.xrefCode c))

/-- LOGBOOK_WRITE: the supervisor has the oldest queued record written to flash (R262, R264, R265). -/
def execLogbookWrite (s : State) : Host.Outcome State Fault Refusal :=
  clocked s (match s.log.queue with
    | [] => s
    | r :: q =>
      if s.svRuns then
        ((s.modLog fun l => { l with queue := q, nextSeq := l.nextSeq + 1 }).flashOp (.record (.log s.log.nextSeq r) false)).showLog
      else s)

/-- LB_CTRL 1: the logbook is erased but for one CLEARED record (R266). (Log entry: 17 DEDUCED.) -/
def State.lbErase (s : State) : State :=
  (s.modLog fun l => { l with nextSeq := l.nextSeq + 1 }).flashOp
    (.clearLog s.log.nextSeq (s.record 0x17 0xFF clsInfo none 0x100 0) 0 0)

/-- TRACE_POST_DONE: POST records after the trigger have been written, and the ring freezes (R269). -/
def execTracePostDone (n : Fin 12) (s : State) : Host.Outcome State Fault Refusal :=
  clocked s (match s.trace[n].post with
    | some (0, src) => s.freezeRail n src
    | some (_ + 1, _) => s
    | none => s)

/-- TR_CMD 1 and 2 (R269): a release empties the rail's ring, and its checkpoint slots go on. SKV2406 has no rail above 5 (R8). -/
def State.trCmd (s : State) (w : Word) : State :=
  let m := TR_CMD.MASK.of w
  match TR_CMD.CMD.of w with
  | 1 => s.forRails fun s n =>
      if bitAt m n && s.traced n && !s.frozen n then (s.setFld TR_STATUS.SRC 0 8).freezeRail n 8 else s
  | 2 => s.forRails fun s n =>
      if bitAt m n && !s.absentRail n && s.frozen n then
        (s.setFld TR_STATUS.FROZEN 0 (s.fld TR_STATUS.FROZEN 0 - 2 ^ n.val)).modTrace n fun t =>
          { t with ring := [], post := none, trig := none }
      else s
  | _ => s

/-- A list of rows made long enough, and one word of it set. -/
def setRowWord (rows : List (List Nat)) (width i j v : Nat) : List (List Nat) :=
  let rows := rows ++ List.replicate (i + 1 - rows.length) (List.replicate width 0)
  rows.set i ((rows.getD i []).set j v)

/-- The rail whose page the trace window shows, and the first record of it; none for the pages that show 0 (R270, Table 9-23). -/
def State.tracePage (s : State) : Option (Fin 12 × Option Nat) :=
  let p := s.fld TR_PAGE.PAGE 0
  if p < 48 then some (railOf (p / 4), some (p % 4 * 1024))
  else if h : p - 48 < 12 then some (⟨p - 48, h⟩, none)
  else none

/-- A word of the trace window (R270). -/
def State.traceWord (s : State) (a : Nat) : Nat :=
  if s.fld DBG_STATUS.LEVEL 0 = 0 then 0
  else match s.tracePage with
    | none => 0
    | some (n, some b) =>
      if s.absentRail n then 0 else (s.trace[n].ring.getD (b + (a - 0x8000) / 32) []).getD ((a - 0x8000) % 32 / 4) 0
    | some (n, none) => if s.absentRail n then 0 else (s.trace[n].slots.getD ((a - 0x8000) / 64) []).getD ((a - 0x8000) % 64 / 4) 0

/-- A write into the trace window (R270, R274): the token while the device is locked, the page of a frozen rail at level 2. (Log entry: 40
DEDUCED.) -/
def State.traceWindow (s : State) (a : Nat) (w : Word) : State :=
  let lvl := s.fld DBG_STATUS.LEVEL 0
  let k := (a - 0x8000) / 4
  if lvl = 0 then
    if h : k < 20 then s.modFault fun f => { f with token := f.token.set k w } else s
  else if lvl ≠ 2 then s
  else match s.tracePage with
    | none => s
    | some (n, some b) =>
      if !s.frozen n || s.absentRail n then s
      else s.modTrace n fun t => { t with ring := setRowWord t.ring 8 (b + k / 8) (k % 8) w.toNat }
    | some (n, none) =>
      if !s.frozen n || s.absentRail n || decide (64 ≤ k) then s
      else s.modTrace n fun t => { t with slots := setRowWord t.slots 16 (k / 16) (k % 16) w.toNat }

/-- The records of a frozen rail from the checkpoint's record on (R271). -/
def State.replayRecords (s : State) (n : Fin 12) (slot : Nat) : Option (List (List Nat)) :=
  match s.trace[n].slots[slot]? with
  | none => none
  | some ws =>
    if ws.getD 15 0 ≠ crcWords (ws.take 15) then none
    else
      let recs := s.trace[n].ring.filter fun r => bitAt (r.getD 6 0) 31
      let rest := recs.dropWhile fun r => r.getD 5 0 != ws.getD 0 0
      if rest = [] then none else some rest

/-- RP_CTRL 1: a replay starts or is refused (R271). A self-test of the strand is abandoned (R134). (Log entries: 40 DEDUCED, 53 DESIGN
CHOICE.) -/
def State.replayBegin (s : State) : State :=
  let k := strandOf (s.fld RP_CTRL.STRAND 0)
  let rail := s.fld RP_CTRL.RAIL 0
  let n := railOf rail
  let slot := s.fld RP_CTRL.CKPT 0
  let refuse := fun (s : State) (c : Nat) => s.setFlds 0 [(RP_STATUS.STATE, 4), (RP_STATUS.CODE, c)]
  if !s.spare k then refuse s 1
  else if 12 ≤ rail ∨ s.absentRail n ∨ !s.frozen n then refuse s 2
  else match s.replayRecords n slot with
    | none => refuse s 3
    | some rs =>
      if !s.flag RP_CTRL.CFGSRC 0 ∧ (rs.drop 1).any (fun r => bitAt (r.getD 2 0) 30) then refuse s 4
      else
        let s := s.replayFree
        let s := s.setFlds 0 [(RP_STATUS.STATE, 1), (RP_STATUS.CODE, 0), (RP_STATUS.NRUN, 0), (RP_STATUS.FIRST, 0)]
        let x : ReplayX :=
          { strand := k, rail := n, slot := slot, cfgsrc := s.flag RP_CTRL.CFGSRC 0, count := s.fld RP_CTRL.COUNT 0 }
        (s.setFlds k [(ST_CFG.STATE, 3), (ST_TEST.BUSY, 0)]).modFault fun f => { f with replay := some x }

/-- The replay of records (R272): index of the first difference with both duties and whether the SSIG alone differs, and how
many records ran. -/
def replayRun (cfg : FrozenCfg) (st : StrandState) (k : Nat) : List (List Nat) → Nat × Option (Nat × Nat × Nat × Bool)
  | [] => (k, none)
  | r :: rs =>
    let v := InVec.ofWords r
    let o := evalStrand st (cfg.par v.facet) v false false
    let d := bitsOf (r.getD 6 0) 0 20
    if o.duty ≠ d then (k + 1, some (k, d, o.duty, false))
    else if o.st.ssig ≠ r.getD 7 0 then (k + 1, some (k, d, o.duty, true))
    else replayRun cfg o.st (k + 1) rs

/-- The saturation flags and the arithmetic mode of each record a replay computes (R114, R272). -/
def replayFlags (cfg : FrozenCfg) (st : StrandState) (prev : Option (Fin 8)) : List (List Nat) → List (Nat × Bool)
  | [] => []
  | r :: rs =>
    let v := InVec.ofWords r
    let o := evalStrand st (cfg.par v.facet) v false (prev != none && prev != some v.facet)
    (o.flags.bits, o.st.frac) :: replayFlags cfg o.st (some v.facet) rs

/-- REPLAY_DONE: the replay in progress ends at its first difference or after its last record (R272). (Log entry: 48 DESIGN CHOICE.) -/
def execReplayDone (s : State) : Host.Outcome State Fault Refusal :=
  clocked s (match s.fault.replay with
    | none => s
    | some x =>
      let n := x.rail
      let rs := (s.replayRecords n x.slot).getD []
      let rs := if x.count = 0 then rs else rs.take x.count
      let cfg := if x.cfgsrc then { s.cfgAt n s.now with dlim := s.reg .RL_DLIM n, lctl := s.reg .RL_LCTL n } else s.trace[n].cfg
      let st := StrandState.ofWords (s.trace[n].slots.getD x.slot [])
      let res := replayRun cfg st 0 rs
      let s := ((replayFlags cfg st none rs).take res.1).foldl (fun (s : State) e => s.strandFlags x.strand e.1 e.2) s
      let s := match res.2 with
        | none => s.setFlds 0 [(RP_STATUS.STATE, 2), (RP_STATUS.NRUN, res.1)]
        | some (i, d, e, only) =>
          s.setFlds 0 [(RP_STATUS.STATE, 3), (RP_STATUS.NRUN, res.1), (RP_STATUS.FIRST, i), (RP_DREC.D, d), (RP_DREP.D, e),
            (RP_DREP.SONLY, bit only)]
      let s := s.raise RP_STATUS.DONEF 0
      let s := s.classify 0x19 n clsInfo (some n) (s.reg .RP_STATUS 0).toNat (s.reg .RP_DREP 0).toNat
      s.replayFree)

/-- RP_CTRL commands. -/
def State.rpCmd (s : State) (w : Word) : State :=
  match RP_CTRL.CMD.of w with
  | 1 => s.replayBegin
  | 2 => s.replayStop
  | _ => s

/-- DBG_CMD 1: a new random challenge (R274): two free values. (Log entry: 7 DESIGN CHOICE.) -/
def State.newChallenge (s : State) : State :=
  if s.flag DBG_STATUS.BLOCK 0 then s
  else
    let a := s.takeFree 32
    let b := a.2.takeFree 32
    (b.2.setFlds 0 [(DBG_CHAL_HI.CHAL, a.1.toNat), (DBG_CHAL_LO.CHAL, b.1.toNat)]).modFault fun f => { f with chal := true }

/-- Whether the token in the window verifies (R274). (Log entry: 8 DESIGN CHOICE.) -/
def State.tokenOk (s : State) : Bool :=
  let bs := s.fault.token.toList.flatMap fun w => bytesBE w.toNat
  let g := fun off n => beNat ((bs.drop off).take n)
  let key := s.keySlot true (g 4 1)
  s.fault.chal && g 0 4 == 0x534B4455 && decide (g 4 1 < 4) && (g 5 1 == 1 || g 5 1 == 2) && g 6 2 == 0
    && g 8 8 == s.fld DBG_CHAL_HI.CHAL 0 * 2 ^ 32 + s.fld DBG_CHAL_LO.CHAL 0 && key.st == .loaded
    && Config.verifies key.key ((bs.take 16).map (BitVec.ofNat 8)) (((bs.drop 16).take 64).map (BitVec.ofNat 8))

/-- DBG_CMD 2 (R274). (Log entry: 40 DEDUCED.) -/
def State.verifyToken (s : State) : State :=
  if s.flag DBG_STATUS.BLOCK 0 then s
  else if s.tokenOk then
    let lvl := bitsOf (s.fault.token[1].toNat) 16 8
    (s.setFlds 0 [(DBG_STATUS.LEVEL, lvl), (DBG_STATUS.FAILCNT, 0)]).consumeChal
  else
    let s := s.bump DBG_STATUS.FAILCNT 0
    if s.fld DBG_STATUS.FAILCNT 0 = 3 then
      (s.setFld DBG_STATUS.BLOCK 0 1).modFault fun f => { f with blockEnd := s.now + 10 * 1000 * ms }
    else s

/-- DBG_CMD commands; command 3 locks the device. -/
def State.dbgCmd (s : State) (w : Word) : State :=
  match DBG_CMD.CMD.of w with
  | 1 => s.newChallenge
  | 2 => s.verifyToken
  | 3 => s.setFld DBG_STATUS.LEVEL 0 0
  | _ => s

/-- DEBUG_BLOCK_END: the 10 s block ends (R274). -/
def execDebugBlockEnd (s : State) : Host.Outcome State Fault Refusal :=
  clocked s (
    if s.flag DBG_STATUS.BLOCK 0 then (s.advance s.fault.blockEnd).setFld DBG_STATUS.BLOCK 0 0 else s)

end Sys2Proof.Machine
end

