-- ==== Sys2Proof/Machine/PhaseMan.lean ====
section
/-! DEFINITION. Machine/PhaseMan.lean: the carrier (§6.2, §6.7), pulse placement (§6.3 to §6.5), fast-window kills, and the phase
manager of chapter 7: shedding, rotation, balancing, fault events, and the transient responder. -/
namespace Sys2Proof.Machine

/-- A field of a rail's phase-management register as the profile steps have taken it: a write acts from the first step at least 2 ticks
after it (§7.7). (Log entry: 13 DEDUCED.) -/
def State.fldStep (s : State) (f : Fld) (n t : Nat) : Nat := s.fldAt f n (t - s.absAt t % 256)

/-- An all-on of a rail at request tick `c` (R197 to R199): active phases, and with SHEDJOIN the shed ones, among them those whose shed is
committed. (Log entries: 36 DEDUCED, 52 DESIGN CHOICE.) -/
def State.allOnStart (s : State) (n : Fin 12) (c cause : Nat) : State :=
  let s := s.setFlds n [(RL_TRSTAT.ONF, 1), (RL_TRSTAT.ACT, 1), (RL_TRSTAT.CAUSE, cause),
    (RL_TRSTAT.ONCNT, s.fld RL_TRSTAT.ONCNT n + 1)]
  let s := s.modMan n fun m => { m with respAt := c, discard := true }
  let s := if s.fldStep RL_TRCTL.SHEDJOIN n c = 1 then
      let s := (s.phasesIn n phShed).foldl (fun (s : State) (p : Fin 48) =>
        (s.setFld PH_MSTAT.STATE p phActive).modPhase p fun x =>
          { x with since := c, shedAt := none, addDue := false, killRun := 0, killPer := none }) s
      (s.railPhases n).foldl (fun (s : State) (p : Fin 48) => s.modPhase p fun x => { x with shedding := false }) s
    else s
  let s := (s.railPhases n).foldl (fun (s : State) (p : Fin 48) =>
    (if (s.phRow p true).1 = 5 ∧ !(s.phase p).shedding then s.allOnPhase p c else s).showCause p) s
  s.trigger n trgTresp false

/-- Every phase of a rail both-off for an all-off at request tick `c` (R171 row 4, R173). -/
def State.phasesAllOff (s : State) (n : Fin 12) (c : Nat) : State :=
  let s := s.modMan n fun m => { m with discard := true }
  (s.railPhases n).foldl (fun (s : State) (p : Fin 48) =>
    let s := s.modPhase p fun x => { x with inOn := false }
    (if (s.phRow p true).1 = 4 then s.forceOff p ((c + 2) * 64) else s).showCause p) s

/-- An all-off of a rail at request tick `c`. With `fault` the contactor is released and the rail enters FAULT with that cause, at which
the all-off ends (R198, R200, R207). (Log entry: 36 DEDUCED.) -/
def State.allOffStart (s : State) (n : Fin 12) (c cause : Nat) (fault : Option Nat) : State :=
  let s := if s.fld RL_TRSTAT.ACT n = 1 then s.onEnded n else s
  let s := s.setFlds n [(RL_TRSTAT.OFFF, 1), (RL_TRSTAT.ACT, 2), (RL_TRSTAT.CAUSE, cause),
    (RL_TRSTAT.OFFCNT, s.fld RL_TRSTAT.OFFCNT n + 1)]
  let s := s.modMan n fun m => { m with respAt := c }
  let s := (s.phasesAllOff n c).trigger n trgTresp false
  match fault with
  | none => s
  | some f => ((s.raise RL_TRSTAT.RELF n).toFault n f).setFld RL_TRSTAT.ACT n 0

/-- The lead's all-off, as the group's command slot carries it, begins or ends at its follower (R200). (Log entries: 36 DEDUCED, 52 DESIGN
CHOICE.) -/
def State.leadOff (s : State) (n : Fin 12) (off : Bool) (c : Nat) : State :=
  let s := s.modGroup n fun g => { g with allOff := off }
  if off then
    let s := if s.fld RL_TRSTAT.ACT n = 1 then (s.onEnded n).setFld RL_TRSTAT.ACT n 0 else s
    s.phasesAllOff n c
  else if s.fld RL_TRSTAT.ACT n = 2 then s
  else (s.railPhases n).foldl (fun (s : State) (p : Fin 48) => s.phaseReturn p c false false) s

/-- Every phase of a rail held or retired, or every one retired, as the present tick finds them (R205). A rail that has entered FAULT at
this tick is looked at again at the next one (R213). (Log entry: 27 DEDUCED.) -/
def State.checkPhases (s : State) (n : Fin 12) : State :=
  let ps := s.railPhases n
  if ps ≠ [] ∧ ps.all (fun (p : Fin 48) => s.phRet p) then
    if s.rst n = stFault ∧ (s.rail n).life.entry = s.now then s.askResp n { at_ := s.now + 1, kind := .phases } else s.enterRetired n
  else if ps ≠ [] ∧ ps.all (fun (p : Fin 48) => s.phState p == phHeld || s.phRet p) then s.toFault n 5
  else s

/-- What waits for its tick at a rail (R198 to R200, R205, R207, R213): it acts where the rail's state at that tick still allows it. (Log
entry: 36 DEDUCED.) -/
def State.doResp (s : State) (n : Fin 12) (r : RespReq) : State := s.asOf r.at_ fun s =>
  let act := s.fld RL_TRSTAT.ACT n
  match r.kind with
  | .on => if (s.rst n == stRamp || s.rst n == stRegulate) && !s.allOn n && !s.allOff n then s.allOnStart n r.at_ r.cause else s
  | .off =>
    if r.cause = 6 then if s.live n then (s.raise RL_PMSTAT.REVBLK n).allOffStart n r.at_ 6 r.fault else s
    else if stClose ≤ s.rst n ∧ s.rst n ≤ stRampdown ∧ act ≠ 2 then s.allOffStart n r.at_ r.cause r.fault else s
  | .onEnd => if act = 1 then s.respEnd n r.at_ else s
  | .offEnd => if act = 2 then s.respEnd n r.at_ else s
  | .leadOff => s.leadOff n true r.at_
  | .leadEnd => s.leadOff n false r.at_
  | .cause => s.toFault n r.cause
  | .phases => s.checkPhases n

/-- The requests of a rail whose tick is not after `t` are served, oldest first, each as of its own tick (R198). (Log entry: 36 DEDUCED.)
-/
def State.respTo (s : State) (n : Fin 12) (t : Nat) : State :=
  match (s.rail n).man.reqs.filter fun r => decide (r.at_ ≤ t) with
  | [] => s
  | r :: rest =>
    let s := s.modMan n fun m => { m with reqs := m.reqs.filter fun r => decide (t < r.at_) }
    (r :: rest).foldl (fun s r => s.doResp n r) s

/-- The requests due by now of every rail. (Log entry: 36 DEDUCED.) -/
def State.respAll (s : State) : State := s.forRails fun s n => s.respTo n s.now

/-- The requests due by now of the rail of a phase. -/
def State.respPh (s : State) (p : Fin 48) : State :=
  match s.phRail p with
  | none => s
  | some n => s.respTo n s.now

/-- The target period of a switching frequency in kHz, in taps (R162). -/
def targetPeriod (fsw : Nat) : Nat := (rhe 12800000 fsw).toNat

/-- The next period by the slew rule (R175). -/
def slewPeriod (p target : Nat) : Nat :=
  let st : Int := max 1 (p / 256)
  ((p : Int) + clampInt (-st) st ((target : Int) - p)).toNat

/-- The offset of a phase start in a period (R163). -/
def phaseOffset (offset p : Nat) : Nat := (rhe ((offset * p : Nat) : Int) 256).toNat

/-- The carrier of a rail starts at the present bell boundary (R161, R162, R174). -/
def State.carrierStart (s : State) (n : Fin 12) : State :=
  let t := targetPeriod (s.rail n).carrier.fsw
  let s := s.modCarrier n fun c =>
    { c with waiting := none, running := true, k := 0, ck := s.now * 64, pprev := t, pk := t, pnext := slewPeriod t t }
  (s.railPhases n).foldl (fun (s : State) (p : Fin 48) =>
    (s.modPhase p fun x => { x with due := 0, killRun := 0, killPer := none, len := 0 }).phaseReturn p s.now true false) s

/-- CARRIER_FIX: at the fixing instant, 16 ticks before the next carrier start, the period after the next one is fixed (R162,
R175). -/
def execCarrierFix (n : Fin 12) (s : State) : Host.Outcome State Fault Refusal :=
  clocked s (
    let c := (s.rail n).carrier
    if !c.running then s
    else
      let s := s.advance ((c.ck + c.pk) / 64 - 16)
      s.modCarrier n fun x =>
        { x with k := x.k + 1, ck := x.ck + x.pk, pprev := x.pk, pk := x.pnext
                 pnext := slewPeriod x.pnext (targetPeriod x.fsw) })

/-- Start, length and next length of a carrier period that is known (R162). -/
def CarrierX.period (c : CarrierX) (i : Nat) : Option (Nat × Nat × Nat) :=
  if i = c.k then some (c.ck, c.pk, c.pnext)
  else if i + 1 = c.k then some (c.ck - c.pprev, c.pprev, c.pk)
  else none

/-- A phase skips the period committed now (R166, R169). (Log entry: 34 DEDUCED.) -/
def State.skipPeriod (s : State) (p : Fin 48) (c : Nat) (fit : Bool) : State :=
  let s := if fit then s.raise PH_PEVT.GFIT p else s
  let s := (s.raise PH_PEVT.SKIPF p).bump PH_PEVT.SKIPCNT p
  (s.placeEdge p ((c + 2) * 64) .ls).setFld PH_PSTAT.CAUSE p 8

/-- A shed takes effect: the phase's state, its trim and the count of sheds (R188). -/
def State.shedDone (s : State) (p : Fin 48) (n : Fin 12) : State :=
  let s := s.modPhase p fun x => { x with shedding := false, shedAt := none, trimNext := none, since := s.now }
  let s := s.setFlds p [(PH_MSTAT.STATE, phShed), (PH_BTRIM.TR, 0)]
  let s := s.setFld RL_PMROT.SHEDCNT n (s.fld RL_PMROT.SHEDCNT n + 1)
  (s.modMan n fun m => { m with discard := true }).showCause p

/-- The source codes of a phase fault event by its cause (Table 9-4). -/
def phSrc (cause : Nat) : Nat := 4 + cause

/-- A phase is retired (R204, R257). -/
def State.retirePhase (s : State) (p : Fin 48) : State :=
  let s := s.setFlds p [(PH_MSTAT.STATE, phRetired), (PH_MSTAT.RETF, 1), (PH_BTRIM.TR, 0)]
  let s := s.modPhase p fun x =>
    { x with killed := false, shedAt := none, shedding := false, trimNext := none, addDue := false, since := s.now }
  let s := ((s.phaseOff p 4).setRetp p true).saveRetire
  match s.phRail p with
  | none => s
  | some n =>
    let last := decide (s.numIn n phActive = 0) && decide (s.numIn n phShed ≠ 0)
    (s.raise RL_PMSTAT.RESPLICE n).modMan n fun m =>
      { m with discard := true, rotPh := m.rotPh.filter fun r => r.1 != p, readd := m.readd || last }

/-- A fault event of an active phase (R201 to R203, R205). (Log entries: 12 DEDUCED, 35 DEDUCED, 53 DESIGN CHOICE.) -/
def State.phaseEvent (s : State) (p : Fin 48) (cause : Nat) : State :=
  match s.phRail p with
  | none => s
  | some n =>
    if s.fld PH_MSTAT.STATE p ≠ phActive then s
    else
      let bell := s.now / 4096
      let ev := bell :: (s.phase p).events.filter fun b => decide (bell < b + 488282)
      let s := s.modPhase p fun x => { x with events := ev, killRun := 0, killPer := none, dead := 0 }
      let s := (s.setFld PH_MSTAT.FCAUSE p cause).bump PH_FCNT.FLTCNT p
      let dropped := (s.phase p).shedAt.isSome || (s.phase p).shedding
      let s := s.modMan n fun m =>
        { m with discard := true, shedCnt := if dropped then 0 else m.shedCnt
                 rotPh := m.rotPh.filter fun r => r.1 != p }
      let d1 := if cause = 1 then s.fld PH_FCNT.KILLCNT p else if cause = 3 then s.fld PH_BTRIM.IMEAN p else 0
      let last := decide (s.fldStep RL_PMCTL.RMAX n s.now < ev.length)
      let s := if last then s.retirePhase p
        else
          let s := s.setFlds p [(PH_MSTAT.STATE, phHeld), (PH_MSTAT.HOLDF, 1), (PH_BTRIM.TR, 0)]
          let s := s.modPhase p fun x =>
            { x with killed := false, shedAt := none, shedding := false, trimNext := none, addDue := false, since := s.now + 1, was := phActive
                     holdEnd := s.now + 1 + (max 1 (s.fldStep RL_PMCTL.RHOLD n s.now)) * 16 * 4096 }
          s.phaseOff p 3
      let s := s.classify (phSrc cause) p (if last then clsPerm else clsTrans) (some n) d1 (min 7 ev.length)
      let s := (s.trigger n trgPhase false).checkPhases n
      if last then s else s.askResp n { at_ := s.now + 1, kind := .phases }

/-- A phase period counts as killed; KILLN consecutive ones are a SHORT event when the window carries FAULTMGR (R201). (Log entry: 35
DEDUCED.) -/
def State.killPeriod (s : State) (p : Fin 48) (i : Nat) : State :=
  match s.phRail p with
  | none => s
  | some n =>
    let x := s.phase p
    let run := match x.killPer with
      | some j => if j = i then x.killRun else if j + 1 = i then x.killRun + 1 else 1
      | none => 1
    let s := s.modPhase p fun x => { x with killPer := some i, killRun := run }
    if x.killPer ≠ some i ∧ bitAt s.active.comp[(fastWin p)].cons 3 ∧ max 1 (s.fldStep RL_PMCTL.KILLN n s.now) ≤ run then
      s.phaseEvent p 1
    else s

/-- The rising commit of a phase start in normal placement (R166, R169, R174): `tr` is the rising edge, `c` the commit tick. -/
def State.placeRise (s : State) (p : Fin 48) (n : Fin 12) (start tr c : Nat) : State :=
  let x := s.phase p
  let dlh := (s.deadTimes p).1
  let toff := s.toffMin p
  let early := match x.resume with
    | some r => decide (c < r)
    | none => false
  let gap := match x.lsGap with
    | some g => decide (tr < g + toff + dlh)
    | none => false
  if early then s
  else if gap then s.setFld PH_PSTAT.CAUSE p 0
  else
    let ton := s.tonMin p
    let tmax : Int := (start : Int) + x.len - toff - tr
    let on := onTime (s.phaseDuty p n c) x.len x.dix
    let s := s.modPhase p fun x => { x with resume := none, lsGap := none, endAt := none, tr := tr, tmax := tmax.toNat, ton := ton }
    if tmax < ton then s.skipPeriod p c true
    else if on < ton ∧ (s.flag PH_GUARD.GMODE p ∨ on = 0) then s.skipPeriod p c false
    else
      let first := max (tr - dlh) ((c + 2) * 64)
      match s.outBefore p first with
      | .hs => s
      | o =>
        let tr := max tr ((c + 2) * 64)
        let s := if o = .ls then s.placeEdge p first .off else s
        let s := (s.placeEdge p tr .hs).modPhase p fun x => { x with pulse := true, tr := tr }
        s.setFlds p [(PH_PSTAT.DTLH, dlh), (PH_PSTAT.CAUSE, 0)]

/-- The phase start committed next, where its carrier period is known: the start, the next start and the rising edge, in taps (R162, R163,
R166). -/
def State.nextStart (s : State) (p : Fin 48) (n : Fin 12) : Option (Nat × Nat × Nat) :=
  let x := s.phase p
  let car := (s.rail n).carrier
  match if car.running then car.period x.due else none with
  | none => none
  | some (cs, pk, pn) =>
    let off := s.fld PH_PCFG.OFFSET p
    let start := cs + phaseOffset off pk
    some (start, cs + pk + phaseOffset off pn, max start (x.lastHsEnd + s.toffMin p))

/-- The commit tick of a rising group (R160). -/
def riseTick (tr : Nat) : Nat := (tr - 255) / 64 - 2

/-- The rising commit at the present tick of the phase start `start` with rising edge `tr`, the next start being `next`: a killed phase
returns or stays off (R172), a decided shed takes effect (R188), and otherwise normal placement goes on (R166). (Log entry: 34 DEDUCED.)
-/
def State.riseCommit (s : State) (p : Fin 48) (n : Fin 12) (start next tr : Nat) : State :=
  let c := s.now
  let i := (s.phase p).due
  let s := s.modPhase p fun x =>
    { x with due := i + 1, start := start, len := next - start, dixWas := x.dix, dix := (i + s.fld PH_PCFG.ORDER p) % 16 }
  let s :=
    if !(s.phase p).killed then s
    else if s.fastOut p then s.killPeriod p i
    else (s.modPhase p fun x => { x with killed := false }).phaseReturn p c false true
  let row := (s.phRow p true).1
  let shed := match (s.phase p).shedAt with
    | some t => decide (t ≤ c)
    | none => false
  if shed && s.lastOut p == .off then s.shedDone p n
  else if row ≠ 7 then s.showCause p
  else if shed then
    (s.modPhase p fun x => { x with shedAt := none, shedding := true, resume := none, lsGap := none }).placeEdge p
      (max (tr - (s.deadTimes p).1) ((c + 2) * 64)) .off
  else s.placeRise p n start tr c

/-- RISING_COMMIT: the commit tick of the rising transition group of a phase's next phase start (R160, R163, R166). -/
def execRisingCommit (p : Fin 48) (s : State) : Host.Outcome State Fault Refusal :=
  clocked s (match s.phRail p with
    | none => s
    | some n =>
      match s.nextStart p n with
      | none => s
      | some a =>
        let s := s.respTo n (riseTick a.2.2)
        match s.nextStart p n with
        | none => s
        | some (start, next, tr) => ((s.advance (riseTick tr)).showTrim p).riseCommit p n start next tr)

/-- The falling edge that the duty in force at tick `t` gives the pulse in progress (R166), or the one that ends an all-on's HS (R173).
-/
def State.fallEdge (s : State) (p : Fin 48) (n : Fin 12) (t : Nat) : Nat :=
  let x := s.phase p
  match x.endAt with
  | some tf => tf
  | none => x.tr + min (max (onTime (s.phaseDuty p n t) x.len x.dix) x.ton) x.tmax

/-- The commit tick of that falling group: the first tick c at which the edge lies at c + 2 or before, with the trim of each tick (R166,
R192). (Log entry: 34 DEDUCED.) -/
def State.fallTick (s : State) (p : Fin 48) (n : Fin 12) : Nat :=
  let from_ := fun t => max t (s.fallEdge p n t / 64 - 2)
  match (s.phase p).trimNext with
  | some e => if s.now < e.1 ∧ e.1 ≤ from_ s.now then from_ e.1 else from_ s.now
  | none => from_ s.now

/-- The falling group of a pulse committed at the present tick (R166, R170). -/
def State.fallCommit (s : State) (p : Fin 48) (n : Fin 12) : State :=
  s.fallGroup p (max (s.fallEdge p n s.now) ((s.now + 2) * 64))

/-- FALLING_COMMIT: the falling transition group of the pulse in progress is committed from the duty then in force (R166,
R170). -/
def execFallingCommit (p : Fin 48) (s : State) : Host.Outcome State Fault Refusal :=
  clocked s (match s.phRail p with
    | none => s
    | some n =>
      if !(s.phase p).pulse then s
      else
        let s := s.respTo n (s.fallTick p n)
        if (s.phase p).pulse then ((s.advance (s.fallTick p n)).showTrim p).fallCommit p n else s)

/-- A transition of a phase's output at `tap` blanks its fast window, and, when the phase is active, its rail's windows (R230). -/
def State.blankWindows (s : State) (p : Fin 48) (tap : Nat) : State :=
  match s.phRail p with
  | none => s
  | some n =>
    let len := s.active.sense[n].blankC * 64
    let one := fun (s : State) (x : Fin 72) => s.modWin x fun w => { w with blankTo := max w.blankTo (tap + len) }
    let s := one s (fastWin p)
    if s.fld PH_MSTAT.STATE p = phActive then one (one s (voltWin n)) (currWin n) else s

/-- The carrier period in which an instant lies, and the taps from its start. -/
def CarrierX.place (c : CarrierX) (tap : Nat) : Nat × Nat :=
  if c.ck ≤ tap then (c.k, tap - c.ck) else (c.k - 1, tap - (c.ck - c.pprev))

/-- The first HS edge of the phase that a rotation has added is noted (R189). -/
def State.rotEdge (s : State) (p : Fin 48) (n : Fin 12) (tap : Nat) : State :=
  s.modMan n fun m => { m with rotPh := m.rotPh.map fun r =>
    if r.1 = p ∧ r.2 = none then (p, some ((s.rail n).carrier.place tap)) else r }

/-- PWM_EDGE: the phase's earliest committed edge changes its output at its tap (R160, R188, R189). The pin follows through INV
and SWAP (R178, R179). -/
def execPwmEdge (p : Fin 48) (s : State) : Host.Outcome State Fault Refusal :=
  clocked s (
    let s := match s.phRail p with
      | none => s
      | some n => s.respTo n (match (s.phase p).edges, (s.rail n).man.reqs with
        | e :: _, _ => e.1 / 64
        | [], r :: _ => r.at_
        | [], [] => s.now)
    match (s.phase p).edges with
    | [] => s
    | (tap, o) :: rest =>
      let s := s.advance (tap / 64)
      let s := (s.modPhase p fun x => { x with edges := rest, lastTrans := some tap }).setFld PH_PSTAT.OUT p (outCode o)
      let s := s.blankWindows p tap
      match s.phRail p with
      | none => s
      | some n =>
        let s := if o = .hs then s.rotEdge p n tap else s
        if (s.phase p).shedding ∧ o = .off then s.shedDone p n else s)

/-- A fast-window kill of a phase that drives its stage or has edges committed (R172, R230): both-off at once, with a pending shed edge's
shed done (R188). (Log entry: 34 DEDUCED.) -/
def State.killPhase (s : State) (p : Fin 48) : State :=
  let tap := s.now * 64
  let x := s.phase p
  let s := if outOf (s.fld PH_PSTAT.OUT p) = .off then s else s.blankWindows p tap
  let s := (s.phaseKill p tap).modPhase p fun x => { x with killed := true }
  let s := ((s.raise PH_PEVT.KILLF p).bump PH_FCNT.KILLCNT p).setFld PH_PSTAT.CAUSE p 5
  let s := match x.shedding, s.phRail p with
    | true, some n => s.shedDone p n
    | _, _ => s
  if tap < x.start then (if x.due < 2 then s else s.killPeriod p (x.due - 2)) else s.killPeriod p (x.due - 1)

/-- FAST_WINDOW_KILL: consumers see the phase's fast window outside, and PWMKILL turns the phase both-off at once, whatever it does (R171
row 2, R172, R201, R231). (Log entry: 34 DEDUCED.) -/
def execFastWindowKill (p : Fin 48) (s : State) : Host.Outcome State Fault Refusal :=
  clocked s (
    let s := s.respPh p
    if !s.fastOut p || (s.phase p).killed then s
    else
      let row := (s.phRow p false).1
      if row = 5 ∨ row = 7 ∨ outOf (s.fld PH_PSTAT.OUT p) ≠ .off ∨ (s.phase p).edges ≠ [] then s.killPhase p
      else s.showCause p)

/-- STAGE_FAULT: a stage signals a fault for 40 ns (R201). (Log entry: 47 DEDUCED.) -/
def execStageFault (p : Fin 48) (s : State) : Host.Outcome State Fault Refusal := clocked s ((s.respPh p).phaseEvent p 2)

/-- FAULT_HOLD_END: the fault hold ends and the phase is shed, or no longer held in OFF (R202). -/
def execFaultHoldEnd (p : Fin 48) (s : State) : Host.Outcome State Fault Refusal :=
  clocked s (
    if s.fld PH_MSTAT.STATE p ≠ phHeld then s
    else
      let s := s.advance (s.phase p).holdEnd
      match s.phRail p with
      | none => s.setFld PH_MSTAT.STATE p phNone
      | some n =>
        let off := !s.live n
        let s := s.setFld PH_MSTAT.STATE p (if off then phNone else phShed)
        let s := s.modPhase p fun x => { x with since := s.now, addDue := !off &&
          (!s.active.splice[p].shedok || s.fldStep RL_PMCTL.PMEN n s.now == 0) }
        (s.modMan n fun m => { m with discard := true }).faultLeave n)

/-- The order of R187: wear, then ORDER. -/
def State.wearLe (s : State) (p q : Fin 48) : Bool :=
  decide ((s.phase p).wear < (s.phase q).wear) ||
    (decide ((s.phase p).wear = (s.phase q).wear) && decide (s.fld PH_PCFG.ORDER p ≤ s.fld PH_PCFG.ORDER q))

/-- The phase that R187 sheds among some. -/
def State.shedPick (s : State) (ps : List (Fin 48)) : Option (Fin 48) := (sortBy s.wearLe ps).getLast?

/-- A phase added at step `t` (R188). (Log entries: 29 DEDUCED, 35 DEDUCED.) -/
def State.addPhase (s : State) (p : Fin 48) (n : Fin 12) (t : Nat) : State :=
  let s := s.setFld PH_MSTAT.STATE p phActive
  let s := s.modPhase p fun x => { x with since := t + 2, was := phShed, addDue := false, killRun := 0, killPer := none, shedAt := none }
  let s := s.setFld RL_PMROT.ADDCNT n (s.fld RL_PMROT.ADDCNT n + 1)
  (s.modMan n fun m => { m with discard := true }).phaseReturn p t false false

/-- A shed decided at step `t` waits for the phase's first rising commit at or after t + 2 (R188); one that waits already goes on. (Log
entry: 35 DEDUCED.) -/
def State.decideShed (s : State) (p : Fin 48) (t : Nat) : State :=
  if (s.phase p).shedAt.isSome || (s.phase p).shedding then s else s.modPhase p fun x => { x with shedAt := some (t + 2) }

/-- A state in which the phase manager evaluates (R184). -/
def State.managing (s : State) (n : Fin 12) : Bool := decide (1 ≤ s.rst n ∧ s.rst n ≤ stRampdown)

/-- The active phases, those of them that may be shed, and the shed phases in the order R187 adds them. -/
def State.activeList (s : State) (n : Fin 12) : List (Fin 48) := s.phasesIn n phActive
def State.shedable (s : State) (n : Fin 12) : List (Fin 48) :=
  (s.activeList n).filter fun (p : Fin 48) => s.active.splice[p].shedok
def State.addable (s : State) (n : Fin 12) : List (Fin 48) := sortBy s.wearLe (s.phasesIn n phShed)

/-- A rotation may be made (R189): both counts 0, no responder action, and a shed phase less worn than the one R187 would shed. (Log
entries: 35 DEDUCED, 52 DESIGN CHOICE.) -/
def State.rotate (s : State) (n : Fin 12) (t : Nat) : State :=
  let m := (s.rail n).man
  if m.shedCnt ≠ 0 ∨ m.addCnt ≠ 0 ∨ s.fld RL_TRSTAT.ACT n ≠ 0 ∨ s.allOff n ∨ m.rotPh.isSome then s
  else match s.addable n, s.shedPick (s.shedable n) with
    | a :: _, some w =>
      if (s.phase a).wear < (s.phase w).wear then
        (s.addPhase a n t).modMan n fun m => { m with rotPh := some (a, none), rotBell := 0 }
      else s
    | _, _ => s

/-- The rotation timer has reached RPER (R189). -/
def State.rotationDue (s : State) (n : Fin 12) : Bool :=
  let rper := s.fldStep RL_PMROT.RPER n s.now
  rper != 0 && decide (rper * 65536 ≤ (s.rail n).man.rotBell) && s.rst n == stRegulate

/-- The rotation's shed is due at tick `t`: 16 carrier periods after the added phase's first HS edge (R189). -/
def CarrierX.rotated (c : CarrierX) (e : Nat × Nat) (t : Nat) : Bool :=
  match c.period (e.1 + 16) with
  | some q => decide (q.1 + e.2 ≤ t * 64)
  | none => decide (e.1 + 17 < c.k)

/-- The phases that step `t` adds (R186, R187, R202, R205): the `k` least worn, those whose hold has ended with an add due, and as many more
as NMIN or PMEN 0 asks for. -/
def addSet (avail : List (Fin 48)) (due : Fin 48 → Bool) (k need : Nat) : List (Fin 48) :=
  let first := avail.take k ++ (avail.drop k).filter due
  first ++ ((avail.drop k).filter fun p => !due p).take (need - first.length)

/-- The evaluation of the phase manager at step `t` with operating point `im` (R184 to R189, R202, R205). (Log entry: 35 DEDUCED.) -/
def State.manage (s : State) (n : Fin 12) (t : Nat) (im : Int) : State :=
  if !s.managing n || s.allOn n || s.allOff n then s
  else
    let i := im.natAbs
    let fc := s.facetNow n
    let act := s.activeList n
    let na := act.length
    let nmin := min (atLeast1 (s.fldAt RL_PMCTL.NMIN n t)) (s.railPhases n).length
    let avail := s.addable n
    let pmen := s.fldAt RL_PMCTL.PMEN n t == 1
    let m := (s.rail n).man
    let wantShed := pmen && decide (nmin < na) && act.any (fun (p : Fin 48) => s.active.splice[p].shedok)
      && decide (i < fc.shedI * (na - 1))
    let sc := if wantShed then m.shedCnt + 1 else 0
    let shedNow := decide (0 < sc) && decide (atLeast1 (s.fldAt RL_PMCTL.SDWELL n t) ≤ sc)
    let above := decide (fc.addI * na < i)
    let ac := if above && avail != [] then m.addCnt + 1 else 0
    let addNow := decide (0 < ac) && decide (atLeast1 (s.fldAt RL_PMCTL.ADWELL n t) ≤ ac)
    let k := if addNow then (if fc.addI = 0 then avail.length else (i + fc.addI - 1) / fc.addI - na) else 0
    let adds := addSet avail (fun (p : Fin 48) => (s.phase p).addDue) k (if pmen && !m.readd then nmin - na else avail.length)
    let s := if (above && avail == []) || (pmen && decide (avail.length < nmin - na)) then s.raise RL_PMSTAT.NOADD n else s
    let s := s.modMan n fun m =>
      { m with shedCnt := if shedNow then 0 else sc, addCnt := if addNow then 0 else ac, readd := false }
    let pick := s.shedPick (s.shedable n)
    let s := match (if shedNow then pick else none) with
      | some p => s.decideShed p t
      | none => s
    let s := adds.foldl (fun (s : State) (p : Fin 48) => s.addPhase p n t) s
    let s := match (s.rail n).man.rotPh with
      | some (q, some e) =>
        if (s.rail n).carrier.rotated e t then
          let s := s.modMan n fun m => { m with rotPh := none }
          match s.shedPick ((s.shedable n).filter fun p => p != q) with
          | some p => s.decideShed p t
          | none => s
        else s
      | _ => s
    if s.rotationDue n then s.rotate n t else s

/-- ROTATION: the rotation timer reaches RPER, and the least-worn shed phase joins when the conditions hold (R189). -/
def execRotation (n : Fin 12) (s : State) : Host.Outcome State Fault Refusal :=
  clocked s (
    let s := s.respTo n s.now
    if s.rotationDue n && !s.allOn n && !s.allOff n then s.rotate n s.now else s)

/-- The active phases chosen at entry to PREMATCH (R183). (Log entry: 34 DEDUCED.) -/
def State.choosePhases (s : State) (n : Fin 12) : State :=
  let ps := (s.railPhases n).filter fun (p : Fin 48) => s.fld PH_MSTAT.STATE p != phRetired && s.fld PH_MSTAT.STATE p != phHeld
  let nmin := min (atLeast1 (s.fldStep RL_PMCTL.NMIN n s.now)) (s.railPhases n).length
  let must := ps.filter fun (p : Fin 48) => !s.active.splice[p].shedok
  let may := sortBy s.wearLe (ps.filter fun (p : Fin 48) => s.active.splice[p].shedok)
  let act := if s.fldStep RL_PMCTL.PMEN n s.now = 0 then ps else must ++ may.take (nmin - must.length)
  let s := ps.foldl (fun (s : State) (p : Fin 48) =>
    let a := act.contains p
    let s := s.setFld PH_MSTAT.STATE p (if a then phActive else phShed)
    let s := if a then s else s.setFld PH_BTRIM.TR p 0
    s.modPhase p fun x =>
      { x with since := s.now, shedAt := none, shedding := false, killed := false, killRun := 0, killPer := none, addDue := false
               balSum := 0, balCnt := 0, fresh := false, trimNext := none }) s
  let s := s.modMan n fun m =>
    { m with shedCnt := 0, addCnt := 0, rotPh := none, readd := false, discard := true, ended := none, revRun := 0, reqs := [] }
  (s.railPhases n).foldl (fun (s : State) (p : Fin 48) => s.showCause p) s

/-- The interval mean of a phase (R191). -/
def PhaseX.imean (x : PhaseX) (cslsb : Nat) : Int := rhe (x.balSum * cslsb) (40000 * x.balCnt)

/-- BALANCE_INTERVAL_END: a balancing interval of the rail ends (R191 to R194). (Log entry: 35 DEDUCED.) -/
def execBalanceIntervalEnd (n : Fin 12) (s : State) : Host.Outcome State Fault Refusal :=
  clocked s (
    if !s.live n then s
    else
      let s := s.advance (s.nextGrid s.now (4096 * 2 ^ s.fldStep RL_PMBAL.BINT n s.now) 0)
      let s := s.respTo n s.now
      let act := (s.activeList n).filter fun (p : Fin 48) => (s.phase p).balCnt != 0
      let cs := s.active.sense[n].cslsb
      let im := act.map fun (p : Fin 48) => (p, (s.phase p).imean cs)
      let mean := rhe (im.foldl (fun a e => a + e.2) 0) im.length
      let discard := (s.rail n).man.discard || s.allOn n || s.allOff n || s.fldStep RL_PMBAL.BEN n s.now == 0 || s.rst n != stRegulate
        || decide (im.length < 2) || decide ((mean.natAbs : Int) < s.fldStep RL_PMBAL.BMIN n s.now * 10)
      let s := im.foldl (fun (s : State) e => s.setFldS PH_BTRIM.IMEAN e.1 e.2) s
      let s := (s.railPhases n).foldl (fun (s : State) (p : Fin 48) =>
        (s.showTrim p).modPhase p fun x => { x with balSum := 0, balCnt := 0, dead := if discard then 0 else x.dead }) s
      let s := s.modMan n fun m => { m with discard := s.allOn n || s.allOff n }
      if discard then s
      else
        let bstep : Int := atLeast1 (s.fldStep RL_PMBAL.BSTEP n s.now)
        let step := fun (p : Fin 48) (v : Int) =>
          let e := v - mean
          let tr := s.fldS PH_BTRIM.TR p
          if (s.fldStep RL_PMBAL.BDEAD n s.now : Int) < e.natAbs then
            tr - clampInt (-bstep) bstep (rhe (e * s.fldStep RL_PMBAL.BGAIN n s.now) 64)
          else tr
        let new := im.map fun e => (e.1, step e.1 e.2)
        let m := rhe (new.foldl (fun a e => a + e.2) 0) new.length
        let s := new.foldl (fun (s : State) e =>
          let tr := clampInt (-256) 256 (e.2 - m)
          let s := s.modPhase e.1 fun x => { x with trimNext := some (s.now + 16, tr) }
          if tr = -256 ∨ tr = 256 then s.raise PH_BTRIM.TLIM e.1 else s) s
        let s := im.foldl (fun (s : State) e =>
          let bad := decide (8 * e.2.natAbs < mean.natAbs) || decide (e.2 * mean < 0)
          s.modPhase e.1 fun x => { x with dead := if bad then x.dead + 1 else 0 }) s
        im.foldl (fun (s : State) e => if 2 ≤ (s.phase e.1).dead then s.phaseEvent e.1 3 else s) s)

/-- Whether an all-on is armed for sample number `k` (R197). (Log entry: 31 DEDUCED.) -/
def State.onArmed (s : State) (n : Fin 12) (t k : Nat) (mode : LoopMode) : Bool :=
  s.fldStep RL_TRCTL.UEN n t == 1 && (s.rst n == stRamp || s.rst n == stRegulate) && mode == .cv && !s.allOff n && !s.allOn n
    && (match (s.rail n).man.ended with
      | some m => decide (m + s.fldStep RL_TRCTL.TRLOCK n t ≤ k)
      | none => true)

/-- Whether an all-off is armed (R197). (Log entry: 52 DESIGN CHOICE.) -/
def State.offArmed (s : State) (n : Fin 12) (t : Nat) : Bool :=
  s.fldStep RL_TRCTL.OEN n t == 1 && decide (stClose ≤ s.rst n ∧ s.rst n ≤ stRampdown) && s.fld RL_TRSTAT.ACT n != 2

/-- TONMAX in ticks (R199). -/
def State.tonMax (s : State) (n : Fin 12) (t : Nat) : Nat := atLeast1 (s.fldStep RL_TRCTL.TONMAX n t)

/-- The end of a responder action `act` by TONMAX (R199, R200). A request that has not come to its tick comes first. (Log entry: 36
DEDUCED.) -/
def State.respTimeout (s : State) (n : Fin 12) (act : Nat) : State :=
  let s := if s.fld RL_TRSTAT.ACT n = act then s else s.respTo n (s.now + 2)
  let t := (s.rail n).man.respAt + s.tonMax n (s.rail n).man.respAt
  let s := if s.fld RL_TRSTAT.ACT n = act then s.respTo n t else s
  if s.fld RL_TRSTAT.ACT n = act then (s.advance t).respEnd n (max s.now t) else s

/-- ALL_ON_TIMEOUT: TONMAX ticks after its request an all-on ends (R199). -/
def execAllOnTimeout (n : Fin 12) (s : State) : Host.Outcome State Fault Refusal := clocked s (s.respTimeout n 1)

/-- ALL_OFF_TIMEOUT: TONMAX ticks after its request an all-off without contactor release ends (R200). -/
def execAllOffTimeout (n : Fin 12) (s : State) : Host.Outcome State Fault Refusal := clocked s (s.respTimeout n 2)

/-- Reverse operation is permitted for a rail (R206): REVALLOW, the reverse window, and the link's reverse enable while the link
gates the rail. -/
def State.revPermitted (s : State) (n : Fin 12) : Bool :=
  s.active.loop[n].revallow && !s.flag RL_PSTAT.TWR n && (!s.flag LK_CTRL.EN n || s.flag LK_STATUS.REV n)

/-- REVERSE_WATCH: the eighth consecutive sample of forbidden reverse current forces an all-off with contactor release (R207). -/
def execReverseWatch (n : Fin 12) (s : State) : Host.Outcome State Fault Refusal :=
  clocked s (
    let s := s.respTo n s.now
    if 8 ≤ (s.rail n).man.revRun ∧ s.live n then
      let c := match (s.rail n).loop.lastAt with
        | some t => t + 2
        | none => s.now
      let s := s.modMan n fun m => { m with revRun := 0 }
      (s.askResp n { at_ := c, kind := .off, cause := 6, fault := some 7 }).respTo n s.now
    else s)

end Sys2Proof.Machine
end

