-- ==== Sys2Proof/Machine/Profile.lean ====
section
/-! DEFINITION. Machine/Profile.lean: the profile generators (§5.1). Positions are in mV or mA, times in ms. Where a path needs a
square root or a root of a cubic, the model computes it to far less than the 0.001 that R142 leaves to the device. -/
namespace Sys2Proof.Machine

/-- The integer square root of a number below 4 ^ k, bit by bit. -/
def isqrtAux (n : Nat) : Nat → Nat → Nat
  | 0, r => r
  | k + 1, r => if (r + 2 ^ k) * (r + 2 ^ k) ≤ n then isqrtAux n k (r + 2 ^ k) else isqrtAux n k r

/-- The square root of a rational that is not negative, to within 2 ^ -48. (Log entry: 10 DESIGN CHOICE.) -/
def sqrtRat (x : Rat) : Rat :=
  if x ≤ 0 then 0 else ((isqrtAux (x * ((2 ^ 96 : Nat) : Rat)).floor.toNat 96 0 : Nat) : Rat) / ((2 ^ 48 : Nat) : Rat)

/-- The magnitude of a rational. -/
def absR (x : Rat) : Rat := if x < 0 then -x else x

/-- Position, velocity and acceleration. -/
structure Motion where
  p : Rat
  v : Rat
  a : Rat
deriving DecidableEq, Repr

/-- The motion after a time of constant jerk. -/
def Motion.move (m : Motion) (j d : Rat) : Motion :=
  { p := m.p + m.v * d + m.a * d * d / 2 + j * d * d * d / 6, v := m.v + m.a * d + j * d * d / 2, a := m.a + j * d }

/-- The motion after a plan. -/
def Motion.run (m : Motion) (plan : List Seg) : Motion := plan.foldl (fun m g => m.move g.jerk g.dur) m

/-- The length of a plan. -/
def planTime (plan : List Seg) : Rat := plan.foldl (fun t g => t + g.dur) 0

/-- The first part of a plan. -/
def planTake (plan : List Seg) (t : Rat) : List Seg :=
  match plan with
  | [] => []
  | g :: r => if t ≤ 0 then [] else if t < g.dur then [{ g with dur := t }] else g :: planTake r (t - g.dur)

/-- What remains of a plan. -/
def planDrop (plan : List Seg) (t : Rat) : List Seg :=
  match plan with
  | [] => []
  | g :: r => if t ≤ 0 then g :: r else if t < g.dur then { g with dur := g.dur - t } :: r else planDrop r (t - g.dur)

/-- A plan without empty segments. -/
def planOf (gs : List (Rat × Rat)) : List Seg := (gs.filter fun g => decide (0 < g.2)).map fun g => ⟨g.1, g.2⟩

/-- The limits of a generator (R138). -/
structure Limits where
  v : Rat
  a : Rat
  j : Rat
deriving DecidableEq, Repr

/-- The shortest change of velocity from (v0, a0) to v1 with acceleration 0 at its end (R139). -/
def changeVel (l : Limits) (v0 a0 v1 : Rat) : List Seg :=
  let vr := v0 + a0 * (absR (a0)) / (2 * l.j)
  if v1 = vr then planOf [(if 0 < a0 then -l.j else l.j, (absR (a0)) / l.j)]
  else
    let d : Rat := if vr < v1 then 1 else -1
    let ap := sqrtRat ((2 * l.j * d * (v1 - v0) + a0 * a0) / 2)
    if l.a < ap then
      planOf [(d * l.j, (l.a - d * a0) / l.j), (0, (d * (v1 - v0) - (2 * l.a * l.a - a0 * a0) / (2 * l.j)) / l.a),
        (-d * l.j, l.a / l.j)]
    else planOf [(d * l.j, (ap - d * a0) / l.j), (-d * l.j, ap / l.j)]

/-- The brake: the shortest path to rest (R139). -/
def brake (l : Limits) (m : Motion) : List Seg := changeVel l m.v m.a 0

/-- The path that pushes towards the velocity limit for a time and then brakes. -/
def pushBrake (l : Limits) (m : Motion) (push : List Seg) (t : Rat) : List Seg :=
  let head := planTake push t
  head ++ brake l (m.run head)

/-- The time of push at which the brake ends at `t`, by halving: `up` is the direction. -/
def findPush (l : Limits) (m : Motion) (push : List Seg) (up : Bool) (t : Rat) : Nat → Rat → Rat → Rat
  | 0, lo, _ => lo
  | k + 1, lo, hi =>
    let mid := (lo + hi) / 2
    let e := (m.run (pushBrake l m push mid)).p
    if (if up then e < t else t < e) then findPush l m push up t k mid hi else findPush l m push up t k lo mid

/-- The shortest path to rest at `t`, where `t` does not lie behind (R139). -/
def pathTo (l : Limits) (m : Motion) (t : Rat) : List Seg :=
  let b := brake l m
  let e := (m.run b).p
  if e = t then b
  else
    let up := decide (e < t)
    let top := if up then l.v else -l.v
    let push := changeVel l m.v m.a top
    let full := pushBrake l m push (planTime push)
    let fe := (m.run full).p
    if (if up then fe ≤ t else t ≤ fe) then
      push ++ planOf [(0, (absR (t - fe)) / l.v)] ++ brake l (m.run push)
    else pushBrake l m push (findPush l m push up t 64 0 (planTime push))

/-- The prefix of R141. (Log entry: 33 DEDUCED.) -/
def reducePrefix (l : Limits) (m : Motion) : List Seg :=
  let ra := if l.a < (absR (m.a)) then planOf [(if 0 < m.a then -l.j else l.j, ((absR (m.a)) - l.a) / l.j)] else []
  let n := m.run ra
  ra ++ (if l.v < (absR (n.v)) then changeVel l n.v n.a (if 0 < n.v then l.v else -l.v) else [])

/-- A plan by R139 to R141, and the time until its brake ends when the target lies behind. (Log entries: 10 DESIGN CHOICE, 33 DEDUCED.) -/
def makePlan (l : Limits) (m : Motion) (t : Rat) : List Seg × Rat :=
  let pre := reducePrefix l m
  let n := m.run pre
  let b := brake l n
  let e := (n.run b).p
  if e ≠ m.p ∧ (t - e) * (e - m.p) < 0 then
    (pre ++ b ++ pathTo l ⟨e, 0, 0⟩ t, planTime (pre ++ b))
  else (pre ++ pathTo l n t, 0)

/-- A generator set at rest (R143). -/
def Gen.atRest (g : Gen) (p : Rat) : Gen :=
  { g with p := p, v := 0, a := 0, plan := [], target := p, planned := false, back := 0, next := none }

/-- The generator is at rest: at its target, with v and a 0 (R142). -/
def Gen.rests (g : Gen) : Bool := g.plan = [] && g.v == 0 && g.a == 0 && g.p == g.target

/-- The length of a profile step in ms. -/
def stepMs : Rat := 256 / 200000

/-- A profile step (R137, R139): the old plan advances to the step, and a change of target or limits makes a new one. (Log entry: 33
DEDUCED.) -/
def Gen.step (g : Gen) (t : Rat) (v a j : Nat) : Gen :=
  let m := if planTime g.plan ≤ stepMs then (if g.plan = [] then Motion.mk g.p g.v g.a else ⟨g.target, 0, 0⟩)
    else Motion.run ⟨g.p, g.v, g.a⟩ (planTake g.plan stepMs)
  let g := { g with p := m.p, v := m.v, a := m.a, plan := planDrop g.plan stepMs, back := if g.back ≤ stepMs then 0 else g.back - stepMs }
  if g.planned ∧ g.target = t ∧ g.vmax = v ∧ g.amax = a ∧ g.jmax = j then g
  else
    let l : Limits := ⟨((max 1 v : Nat) : Rat), ((max 1 a : Nat) : Rat), ((max 1 j : Nat) : Rat)⟩
    let r := makePlan l m t
    let g := { g with plan := r.1, back := r.2, target := t, vmax := v, amax := a, jmax := j, planned := true }
    if r.1 = [] then { g with p := t, v := 0, a := 0 } else g

/-- A value in units of `unit` rounded by R142: within 0.001 of a half-unit the device may round to either neighbour. (Log entry: 10
DESIGN CHOICE.) -/
def State.roundOut (s : State) (x unit : Rat) : Int × State :=
  let y := x / unit
  let lo := y.floor
  if (absR (x - ((lo : Rat) + 1 / 2) * unit)) < 1 / 1000 then
    (if Config.roundsUp s.frees then lo + 1 else lo, { s with frees := s.frees + 1 })
  else (rheRat y, s)

end Sys2Proof.Machine
end

