-- ==== Sys2Proof/Machine/SetPoint.lean ====
section
/-! DEFINITION. Machine/SetPoint.lean: the targets and their caps (R136, R236), the facet scheduler (§5.4), and the profile step
(R137). -/
namespace Sys2Proof.Machine

/-- The state whose rules hold for the loop: in FAULT the one from which FAULT was entered (Tables 3-1 and 5-3). (Log entry: 27 DEDUCED.)
-/
def State.loopState (s : State) (n : Fin 12) : Nat := if s.rst n = stFault then (s.rail n).mode.faultMode else s.rst n

/-- The rail's V_d is the local node now (Table 3-1). -/
def State.inLocal (s : State) (n : Nat) : Bool :=
  s.live n && (s.loopState (railOf n) == stPrematch || s.loopState (railOf n) == stOpen || s.flag CV_SNS.FBK n)

/-- The in-service phases of a rail: active or shed but not retired (R347). -/
def State.nspl (s : State) (n : Fin 12) : Nat := ((s.railPhases n).filter fun (p : Fin 48) => !s.phRet p).length

/-- The in-service phases of a lead's group: its own and those the attached members report (R347). -/
def State.nsplGroup (s : State) (n : Fin 12) : Nat := (s.attached n).foldl (fun a r => a + r.2.1.nspl) (s.nspl n)

/-- The named current target T at tick `t`, in units of 10 mA (R145, R236, R347). -/
def State.namedTarget (s : State) (n : Fin 12) (t : Nat) : Int :=
  let st := s.loopState n
  let v := if (st = stRamp ∨ st = stRegulate) ∧ s.fldAt RL_MCTL.REQ n t = 1 then s.fldSAt RL_MANI.MANI n t
    else s.fldSAt RL_ITGT.ITGT n t
  if s.lead n then rhe (v * s.nspl n) (s.nsplGroup n) else v

/-- The budget cap, with the limit of a wrapped group (R236, R352). -/
def State.budCap (s : State) (n : Fin 12) : Nat :=
  let c := s.fld RL_PSTAT.CAP n
  if s.fld LY_STATUS.MODE 0 = 3 ∧ s.groupActive n then
    min c (s.fld RL_IBUD.IBUDGET n * min 100 (s.fld LY_CTRL.WRAPPCT 0) / 100)
  else c

/-- A shuttle pair is engaged for its source (R208). -/
def State.engaged (s : State) (n : Fin 12) : Bool :=
  let k := railOf (s.fldStep RL_REVS.PARTNER n s.now)
  s.fldStep RL_REVS.SHEN n s.now == 1 && s.rst n == stRegulate && s.rst k == stRegulate && s.revPermitted n
    && decide (s.namedTarget n s.now < 0) && decide (0 < (s.rail k).sense.pf)

/-- The temperature window forbids the direction of a target (R240). -/
def State.tempForbids (s : State) (n : Fin 12) (v : Int) : Bool :=
  (decide (0 < v) && s.flag RL_PSTAT.TWF n) || (decide (v < 0) && s.flag RL_PSTAT.TWR n)

/-- The ramp cap where it has an effect (R236), in units of 10 mA. -/
def State.rampCap (s : State) (n : Fin 12) : Option Rat :=
  let st := s.loopState n
  if st = stPrematch ∨ st = stClose then some (s.fld RL_TMO.PMI n : Rat)
  else if st = stRamp ∨ st = stRampdown then some (s.rail n).life.ramp
  else if st = stOpen then some 0
  else none

/-- The smaller of a value and an optional cap. -/
def capBy (v : Rat) (c : Option Rat) : Rat :=
  match c with
  | some x => if x < v then x else v
  | none => v

/-- The magnitude that every cap but the ramp cap allows. -/
def State.allowed (s : State) (n : Fin 12) (v : Int) : Rat :=
  let c := capBy ((v.natAbs : Nat) : Rat) (some (s.budCap n : Rat))
  let c := capBy c (if s.tempForbids n v then some 0 else none)
  capBy c (if s.engaged n then some ((s.rail n).prot.demand : Rat) else none)

/-- The target of the current generator in mA (R236). -/
def State.currentTarget (s : State) (n : Fin 12) (t : Nat) : Rat :=
  let v := s.namedTarget n t
  let m := capBy (s.allowed n v) (s.rampCap n)
  if v < 0 then -m * 10 else m * 10

/-- RL_PSTAT.BLIM (R236). -/
def State.blim (s : State) (n : Fin 12) (t : Nat) : Bool :=
  let v := s.namedTarget n t
  let b : Rat := s.budCap n
  let lower := fun (c : Option Rat) => match c with
    | some x => decide (x < b)
    | none => false
  decide (b < ((v.natAbs : Nat) : Rat)) && !lower (if s.tempForbids n v then some 0 else none) && !lower (s.rampCap n)
    && !lower (if s.engaged n then some ((s.rail n).prot.demand : Rat) else none)

/-- The target of the voltage generator in mV (R143, R218, R221, R224). -/
def State.voltTarget (s : State) (n : Fin 12) (t : Nat) : Rat :=
  let st := s.loopState n
  if st = stPrematch ∨ st = stClose then (s.fld RL_VOC.VOC n : Rat)
  else if st = stOpen then (s.rail n).mode.vgen.target
  else (s.fldAt RL_VTGT.VTGT n t : Rat)

/-- Values that have come into force by tick `t` are shown (R137). A follower's ISET is the lead's (R347). -/
def State.showSet (s : State) (n : Fin 12) (t : Nat) : State :=
  let s := match (s.rail n).mode.vgen.next with
    | some e =>
      if e.1 ≤ t then
        (s.setFldS RL_PSET.VSET n e.2).modMode n fun m => { m with vgen := { m.vgen with next := none } }
      else s
    | none => s
  match (s.rail n).mode.igen.next with
  | some e =>
    if e.1 ≤ t then (s.setFldS RL_PISET.ISET n e.2).modMode n fun m => { m with igen := { m.igen with next := none } } else s
  | none => s

/-- PROFILE_OUTPUT_IN_FORCE: the values of the latest step come into force 16 ticks after it (R137). -/
def execProfileOutputInForce (n : Fin 12) (s : State) : Host.Outcome State Fault Refusal :=
  clocked s (
    let m := (s.rail n).mode
    match m.vgen.next, m.igen.next with
    | some e, _ => let s := s.advance e.1; s.showSet n s.now
    | none, some e => let s := s.advance e.1; s.showSet n s.now
    | none, none => s)

/-- Both generators of a rail take a step at tick `t` (R137 to R143). (Log entries: 33 DEDUCED, 49 DESIGN CHOICE.) -/
def State.stepGens (s : State) (n : Fin 12) (t : Nat) : State :=
  let s := s.showSet n t
  let m := (s.rail n).mode
  let v := m.vgen.step (s.voltTarget n t) (s.fldAt RL_VSLEW.LIMIT n t) (s.fldAt RL_VACC.LIMIT n t) (s.fldAt RL_VJERK.LIMIT n t)
  let rv := s.roundOut v.p 1
  let s := rv.2
  let i := m.igen.step (s.currentTarget n t) (s.fldAt RL_ISLEW.LIMIT n t) (s.fldAt RL_IACC.LIMIT n t) (s.fldAt RL_IJERK.LIMIT n t)
  let ri := s.roundOut i.p 10
  let s := ri.2
  let s := s.modMode n fun m => { m with vgen := { v with next := some (t + 16, rv.1) } }
  let s := if s.follower n then s else s.modMode n fun m => { m with igen := { i with next := some (t + 16, ri.1) } }
  let blim := s.blim n t
  let s := if blim && !s.flag RL_PSTAT.BLIM n then s.notify n 6 0 else s
  s.setFlds n [(RL_PSET.VREST, bit v.rests), (RL_PSET.VBACK, bit (decide (0 < v.back))),
    (RL_PISET.IREST, bit (s.follower n || i.rests)), (RL_PISET.IBACK, bit (!s.follower n && decide (0 < i.back))),
    (RL_PSTAT.BLIM, bit blim)]

/-- A region of a facet contains an operating point, widened by its hysteresis or not (R151, R152). -/
def FacetE.contains (f : FacetE) (hys : Bool) (i : Int) (vb : Nat) : Bool :=
  let ih : Int := if hys then f.iHys else 0
  let vh : Int := if hys then f.vbHys else 0
  decide (f.iLo - ih ≤ i ∧ i < f.iHi + ih) && decide ((f.vbLo : Int) - vh ≤ vb ∧ (vb : Int) < f.vbHi + vh)

/-- The lowest-numbered VALID facet that contains a point without hysteresis (R152, R153). -/
def State.pickFacet (s : State) (n : Fin 12) (i : Int) (vb : Nat) : Option (Fin 8) :=
  (List.finRange 8).find? fun (f : Fin 8) => s.active.facets[n][f].valid && s.active.facets[n][f].contains false i vb

/-- A facet that comes into force at a bell boundary (R154, R348); `flag` says that it carries a preset and counts. -/
def State.announceFacet (s : State) (n : Fin 12) (t : Nat) (f : Fin 8) (flag : Bool) : State :=
  let lead := s.lead n
  let b := s.nextGrid (t + (if lead then 8192 else 64)) 4096 0
  let s := s.modMode n fun m => { m with facetNext := some (b, f, flag), exits := 0 }
  let s := s.setFlds n [(RL_FCTL.PEND, 1), (RL_FCTL.PFACET, f)]
  if lead then s.modGroup n fun g => { g with fepo := s.absAt b / 4096 % 4 } else s

/-- A facet change decided at step `t` (R152, R154, R348). -/
def State.decideFacet (s : State) (n : Fin 12) (t : Nat) (f : Fin 8) : State :=
  let s := s.setFlds n [(RL_FCTL.NOREG, 0), (RL_FCTL.PEND, 0)]
  let old := s.active.facets[n][(s.rail n).mode.facet]
  if old.fsw = s.active.facets[n][f].fsw ∧ !s.lead n then
    s.modMode n fun m => { m with facetNext := some (t + 2, f, true), exits := 0 }
  else s.announceFacet n t f true

/-- The forced facet at step `t` (R155): a change to FSEL is decided whether or not an operating point is formed, and in place of a change
that is pending to another facet. A facet that is not VALID in the active set is never entered (R48, Table 2-9). (Log entries: 28 DEDUCED,
49 DESIGN CHOICE.) -/
def State.forceFacet (s : State) (n : Fin 12) (t : Nat) : State :=
  let m := (s.rail n).mode
  let f := facetOf (s.fldAt RL_FCTL.FSEL n t)
  let s := s.modMode n fun m => { m with exits := 0, facetFirst := true }
  if (m.facetNext.map (·.2.1)).getD m.facet = f ∨ !s.active.facets[n][f].valid then s
  else if m.facet = f then (s.modMode n fun m => { m with facetNext := none }).setFlds n [(RL_FCTL.PEND, 0), (RL_FCTL.NOREG, 0)]
  else s.decideFacet n t f

/-- The facet scheduler's evaluation at step `t` of an operating point (R151 to R154, R348). (Log entries: 28 DEDUCED, 49 DESIGN CHOICE.)
-/
def State.schedule (s : State) (n : Fin 12) (t : Nat) (i : Int) (vb : Nat) : State :=
  let m := (s.rail n).mode
  if m.facetNext.isSome then s
  else if !m.facetFirst then
    let f := (s.pickFacet n i vb).getD 0
    let s := s.modMode n fun m => { m with facetFirst := true }
    if f = m.facet then s
    else if s.lead n then s.announceFacet n t f false
    else s.modMode n fun m => { m with facetNext := some (t + 2, f, false) }
  else if s.active.facets[n][m.facet].contains true i vb then
    (s.modMode n fun m => { m with exits := 0 }).setFld RL_FCTL.NOREG n 0
  else
    let k := m.exits + 1
    if k < atLeast1 (s.fldAt RL_FCTL.FDWELL n t) then s.modMode n fun m => { m with exits := k }
    else match s.pickFacet n i vb with
      | none => (s.modMode n fun m => { m with exits := 0 }).setFld RL_FCTL.NOREG n 1
      | some f => s.decideFacet n t f

/-- The ramp cap at step `t` (R221, R223); a slope of 0 is treated as 1 (Table 8-11). -/
def State.stepRamp (s : State) (n : Fin 12) (t : Nat) : State :=
  let d : Rat := ((min 256 (t - (s.rail n).life.entry) : Nat) : Rat) / 200000
  let up : Rat := (atLeast1 (s.fld RL_RAMP.RUP n) : Nat) * d
  let dn : Rat := (atLeast1 (s.fld RL_RAMP.RDN n) : Nat) * d
  if s.rst n = stRamp then s.modLife n fun l => { l with ramp := l.ramp + up }
  else if s.rst n = stRampdown then s.modLife n fun l => { l with ramp := if l.ramp < dn then 0 else l.ramp - dn }
  else s

/-- The lifecycle at step `t`: RAMP to REGULATE, RAMPDOWN to OPEN, and the steps of CLOSE (R220, R221, R223). A follower takes
its transitions from the lead. -/
def State.stepLife (s : State) (n : Fin 12) (t : Nat) (im : Option Int) : State :=
  let st := s.rst n
  if st = stClose then s.modLife n fun l => { l with closeSteps := l.closeSteps + 1 }
  else if s.follower n then s
  else if st = stRamp then
    if s.flag RL_PSET.VREST n ∧ s.allowed n (s.namedTarget n t) ≤ (s.rail n).life.ramp then
      ((s.moving n).enter n stRegulate).freeSlot n
    else s
  else if st = stRampdown then
    let s := match im with
      | some i => s.modLife n fun l => { l with lowRun := if i.natAbs ≤ 10 then l.lowRun + 1 else 0 }
      | none => s
    let l := (s.rail n).life
    if l.ramp = 0 ∧ s.flag RL_PISET.IREST n ∧ 4 ≤ l.lowRun ∧ im.isSome then s.enterOpen n else s
  else s

/-- One rail at step `t`. A FAULT that is permanent turns into RETIRED here, at a later tick than its entry, and a rail that found no
strand at its start enters FAULT here (R213, R253, Table 8-2). (Log entry: 27 DEDUCED.) -/
def State.stepRail (s : State) (n : Fin 12) (t : Nat) : State :=
  let s := s.respTo n t
  let l := (s.rail n).life
  if !s.live n then s
  else if s.rst n = stFault ∧ l.permanent ∧ l.entry < t then s.enterRetired n
  else if l.noStrand ∧ l.entry < t then s.toFault n 4
  else
    let m := (s.rail n).mode
    let im := if m.isCnt = 0 then none else some (rhe m.isSum m.isCnt)
    let s := s.modMode n fun m => { m with isSum := 0, isCnt := 0 }
    let s := (s.stepRamp n t).stepGens n t
    let s :=
      if s.follower n || (s.lead n && !(s.rail n).carrier.running) then s
      else if s.fldAt RL_FCTL.FORCE n t = 1 then s.forceFacet n t
      else match im with
        | some i => s.schedule n t i m.lastVb
        | none => s
    let s := match im with
      | some i => s.manage n t i
      | none => s
    s.stepLife n t im

/-- PROFILE_STEP: at every tick T with T mod 256 = 0 the generators advance and the facet scheduler, the phase manager and the
lifecycle evaluate (R137, R151, R184, R221, R223). -/
def execProfileStep (s : State) : Host.Outcome State Fault Refusal :=
  clocked s (
    let from_ := match s.time.lastStep with
      | some t => max s.now (t + 1)
      | none => s.now
    let s := s.advance (s.nextGrid from_ 256 0)
    let s := (s.modTime fun x => { x with lastStep := some s.now }).pruneLog
    s.forRails fun s n => s.stepRail n s.now)

end Sys2Proof.Machine
end

