-- ==== Sys2Proof/Machine/Image.lean ====
section
/-! DEFINITION. Machine/Image.lean: the rigging image (§2.2), its checks in the order of Table 2-16, and its decoding into
a set. -/
namespace Sys2Proof.Machine

/-- The bytes of an image. -/
abbrev Img := List Nat

/-- A big-endian field of `n` bytes at an offset (R43). -/
def Img.at_ (i : Img) (off n : Nat) : Nat := beNat ((i.drop off).take n)

/-- The same in two's complement. -/
def Img.ats (i : Img) (off n : Nat) : Int := signedOf (8 * n) (i.at_ off n)

/-- What a check answers: the set, or a refusal code with its detail (Table 2-18, R66). -/
inductive ImgResult where
  | ok (g : RigSet)
  | refused (code detail : Nat)
deriving DecidableEq, Repr

/-- A section-table entry (Table 2-2) with its index. -/
structure Sec where
  idx : Nat
  type : Nat
  inst : Nat
  sflags : Nat
  sver : Nat
  off : Nat
  len : Nat
  scrc : Nat
deriving DecidableEq, Repr

/-- The section table (R46). -/
def Img.secs (i : Img) : List Sec :=
  (List.range (i.at_ 0x1C 2)).map fun k =>
    let b := 0x40 + 16 * k
    ⟨k, i.at_ b 1, i.at_ (b + 1) 1, i.at_ (b + 2) 1, i.at_ (b + 3) 1, i.at_ (b + 4) 4, i.at_ (b + 8) 4, i.at_ (b + 12) 4⟩

/-- Whether a section is one the device knows (R47). -/
def Sec.known (c : Sec) : Bool := decide (1 ≤ c.type ∧ c.type ≤ 12) && c.sver == 1

/-- A per-rail section. -/
def Sec.perRail (c : Sec) : Bool := c.type == 5 || c.type == 6 || c.type == 7

/-- The section of a type and instance, over the sections that are not skipped. -/
def Img.sec (i : Img) (type inst : Nat) : Option Sec :=
  i.secs.find? fun c => c.known && c.type == type && (!c.perRail || c.inst == inst)

/-- The offset of a section, 0 where it is missing. -/
def Img.off (i : Img) (type inst : Nat) : Nat :=
  match i.sec type inst with
  | some c => c.off
  | none => 0

/-- The rails in use: those that a SPLICE entry names (R47). -/
def Img.inUse (i : Img) (n : Nat) : Bool := (List.range 48).any fun p => i.at_ (i.off 1 0 + 4 * p) 1 == n

/-- The length that Table 2-3 gives a section. -/
def Img.lenOf (i : Img) (c : Sec) : Nat :=
  match c.type with
  | 1 => 192
  | 2 => 128
  | 3 => 192
  | 4 => 576
  | 5 => 32
  | 6 => 1024
  | 7 => 132
  | 8 => 400
  | 9 => 96
  | 10 => 112
  | 11 => 4 + 8 * i.at_ (c.off + 2) 1
  | _ => 4 + 8 * i.at_ c.off 4

/-- Bytes that must be 0 (R43). -/
def Img.zero (i : Img) (off n : Nat) : Bool := ((i.drop off).take n).all (· == 0)

/-- The first element that fails a check. -/
def firstBad {α : Type} (xs : List α) (ok : α → Bool) : Option α := xs.find? fun x => !ok x

/-- Placement of a section (R46). (Log entry: 23 DEDUCED.) -/
def Img.placed (i : Img) (c : Sec) : Bool :=
  c.off % 4 == 0 && c.len % 4 == 0 && c.len != 0 && decide (0x40 + 16 * i.at_ 0x1C 2 ≤ c.off)
    && decide (c.off + c.len ≤ i.at_ 8 4)
    && i.secs.all fun d => d.idx == c.idx || decide (d.off + d.len ≤ c.off) || decide (c.off + c.len ≤ d.off)

/-- Step 9: types, versions and occurrence (R47, R66). (Log entry: 23 DEDUCED.) -/
def Img.occurrence (i : Img) : Option (Nat × Nat) :=
  let live := i.secs.filter Sec.known
  match i.secs.find? fun c => !c.known && c.sflags % 2 == 0 with
  | some c => some (9, c.idx)
  | none =>
    match live.find? fun c =>
        live.any (fun d => decide (d.idx < c.idx) && d.type == c.type && (!c.perRail || d.inst == c.inst))
          || (c.perRail && !(decide (c.inst < 12) && i.inUse c.inst)) with
    | some c => some (8, c.idx)
    | none =>
      match [1, 2, 3, 4, 5, 6, 7, 8, 9, 10].findSome? fun t =>
          if t = 5 ∨ t = 6 ∨ t = 7 then
            ((List.range 12).find? fun n => i.inUse n && (i.sec t n).isNone).map fun n => 0x800 + t * 16 + n
          else if (i.sec t 0).isNone then some (0x800 + t * 16 + 15) else none with
      | some d => some (8, d)
      | none => none

/-- Whether a rail or window is absent on SKV2406. -/
def absentWin (x : Nat) : Bool := (decide (24 ≤ x ∧ x < 48)) || decide (54 ≤ x ∧ x < 60) || decide (66 ≤ x)

/-- A rail number that names an absent rail there. -/
def namesAbsent (r : Nat) : Bool := decide (6 ≤ r ∧ r < 12)

/-- Whether a preset names an absent element (R51, R52): in its address, or behind a select register (R423), of which `sel` are the windows
and the channels selected before it. -/
def presetAbsent (sel : Nat × Nat) (a : Nat) : Bool :=
  match regAtAddr a with
  | none => false
  | some (r, n) =>
    let b := r.row.base
    (decide (0x400 ≤ b ∧ b < 0x1000) && decide (6 ≤ n)) || (decide (0x1000 ≤ b ∧ b < 0x1C00) && decide (24 ≤ n))
      || (decide (0x1C00 ≤ b ∧ b < 0x1E00) && decide (16 ≤ n)) || (decide (0x2040 ≤ b ∧ b < 0x2100) && decide (6 ≤ n))
      || (r == .CMP_THR && absentWin sel.1) || (r == .CV_CALDATA && absentChan sel.2)

/-- No preset names an absent element (R52), in the order in which they are applied (R51). -/
def presetsPresent (sel : Nat × Nat) : List (Nat × Nat) → Bool
  | [] => true
  | e :: es =>
    !presetAbsent sel e.1 &&
      presetsPresent (match regAtAddr e.1 with
        | some (.CMP_SEL, _) => (CMP_SEL.WIN.of (BitVec.ofNat 32 e.2), sel.2)
        | some (.CV_CALSEL, _) => (sel.1, CV_CALSEL.CHAN.of (BitVec.ofNat 32 e.2))
        | _ => sel) es

/-- Step 10 for one section on SKV2406 (R52): absent elements hold their "none" values, and nothing names one. `sel` are the window and
the channel that CMP_SEL and CV_CALSEL select before the presets. -/
def Img.absentOk (i : Img) (sel : Nat × Nat) (c : Sec) : Bool :=
  let o := c.off
  match c.type with
  | 1 => (List.range 48).all fun p => !namesAbsent (i.at_ (o + 4 * p) 1) &&
      (decide (p < 24) || (i.at_ (o + 4 * p) 1 == 0xFF && i.zero (o + 4 * p + 1) 3))
  | 2 => (List.range 32).all fun k => !namesAbsent (i.at_ (o + 4 * k) 1) &&
      (decide (k < 16) || (i.at_ (o + 4 * k) 1 == 0xFF && i.zero (o + 4 * k + 1) 3))
  | 3 => i.zero (o + 96) 96
  | 4 => (List.range 72).all fun x => !absentWin x || i.zero (o + 8 * x) 8
  | 5 => !namesAbsent c.inst
  | 6 => !namesAbsent c.inst
  | 7 => !namesAbsent c.inst
  | 8 => i.zero (o + 16 + 6 * 32) 192
  | 9 => i.zero (o + 48) 48
  | 10 => (List.range 8).all (fun k => !((i.at_ (o + 4 * k) 1 == 3 || i.at_ (o + 4 * k) 1 == 4) && namesAbsent (i.at_ (o + 4 * k + 1) 1)))
      && (List.range 16).all fun k => !namesAbsent (i.at_ (o + 0x30 + 4 * k + 1) 1)
  | 11 => (List.range (i.at_ (o + 2) 1)).all fun k => !namesAbsent (i.at_ (o + 4 + 8 * k + 2) 1)
  | _ => presetsPresent sel ((List.range (i.at_ o 4)).map fun k => (i.at_ (o + 4 + 8 * k) 2, i.at_ (o + 8 + 8 * k) 4))

/-- A coefficient word within its layout (R49), 0 where the topology does not use it. R49 names no code for a word that is not: the model
answers VALUE at step 11. (Log entry: 51 DESIGN CHOICE.) -/
def coefOk (w : Nat) (used : Bool) : Bool := decide (w < 2 ^ 23) && (used || w == 0)

/-- The stage that a coefficient word belongs to is used (Table 2-10). -/
def stageUsed (nbiq flags k : Nat) : Bool :=
  if k < 4 then true else if k < 9 then decide (1 ≤ nbiq) else if k < 14 then decide (nbiq = 2)
  else if k < 18 then bitAt flags 1 else bitAt flags 2

/-- Step 11 for one section: ranges, reserved bytes and presets (R43, R48, R51). `acc` says that the registers accept the presets of the
image in order; `small` spares the records of absent elements. A PROTECT voltage has the range of its field, as Table 2-12 gives no other.
(Log entries: 23 DEDUCED, 51 DESIGN CHOICE.) -/
def Img.valueOk (i : Img) (small acc : Bool) (c : Sec) : Bool :=
  let o := c.off
  let u := fun off n => i.at_ (o + off) n
  let railOk := fun r => decide (r < 12) || r == 0xFF
  c.len == i.lenOf c && decide (c.sflags < 2) && (c.perRail || c.inst == 0xFF) &&
  match c.type with
  | 1 => (List.range 48).all fun p => railOk (u (4 * p) 1) && decide (u (4 * p + 3) 1 < 4)
  | 2 => (List.range 32).all fun k => railOk (u (4 * k) 1) && decide (u (4 * k + 1) 1 < 4) && i.zero (o + 4 * k + 3) 1
  | 3 => (List.range 12).all fun n => (small && decide (6 ≤ n)) ||
      (decide (0x10000 ≤ u (16 * n) 4 ∧ u (16 * n) 4 ≤ 0x4000000) && decide (u (16 * n + 4) 1 < 4)
        && decide (u (16 * n + 5) 1 < 4) && decide (u (16 * n + 6) 1 < 32) && decide (u (16 * n + 7) 1 < 32)
        && decide (1 ≤ u (16 * n + 8) 4 ∧ u (16 * n + 8) 4 ≤ 100000) && i.zero (o + 16 * n + 12) 4)
  | 4 => (List.range 72).all fun x => decide (u (8 * x) 2 < 1024) && decide (u (8 * x + 2) 2 ≤ u (8 * x) 2)
      && decide (u (8 * x + 4) 2 < 16) && (decide (x < 48) || !bitAt (u (8 * x + 4) 2) 0) && i.zero (o + 8 * x + 6) 2
  | 5 => decide (8 ≤ u 0 1 ∧ u 0 1 ≤ 200) && decide (u 1 1 < u 0 1) && decide (u 2 1 < 32) && decide (u 3 1 ≤ 2)
      && decide (u 4 1 ≤ 2) && i.zero (o + 5) 3 && [8, 0xC, 0x10].all (fun k => decide (1 ≤ u k 4 ∧ u k 4 ≤ 1000000))
      && i.zero (o + 0x14) 12
  | 6 =>
    let l := i.off 5 c.inst
    (List.range 8).all fun f =>
      let b := 128 * f
      if u (b + 0x16) 1 = 0 then f != 0 && i.zero (o + b) 128
      else u (b + 0x16) 1 == 1 && decide (i.ats (o + b) 2 < i.ats (o + b + 2) 2)
        && decide (50 ≤ u (b + 6) 2 ∧ u (b + 6) 2 ≤ 2000) && decide (u (b + 8) 4 < u (b + 0xC) 4)
        && decide (u (b + 0x12) 2 < u (b + 0x14) 2) && i.zero (o + b + 0x17) 9 && i.zero (o + b + 0x6C) 20
        && (List.range 19).all fun k => coefOk (u (b + 0x20 + 4 * k) 4) (stageUsed (i.at_ (l + 3) 1) (i.at_ (l + 2) 1) k)
  | 7 => decide (1 ≤ u 2 2)
  | 8 => decide (u 8 4 < u 4 4) && decide (1 ≤ u 0xC 1 ∧ u 0xC 1 ≤ 12) && i.zero (o + 0xD) 3
      && (List.range 12).all fun n => (small && decide (6 ≤ n)) ||
        (let b := 16 + 32 * n
         decide (u (b + 4) 4 < u b 4) && decide (u (b + 0xA) 2 ≤ u (b + 8) 2) && decide (u (b + 0xC) 1 < 16)
          && (decide (u (b + 0xD) 1 < 16) || u (b + 0xD) 1 == 0xFF) && decide (1 ≤ u (b + 0x10) 2 ∧ u (b + 0x10) 2 ≤ 10000)
          && i.zero (o + b + 0x1A) 6)
  | 9 => (List.range 12).all fun n => (small && decide (6 ≤ n)) ||
      (decide (u (8 * n) 1 < 2) && decide (1 ≤ u (8 * n + 1) 1 ∧ u (8 * n + 1) 1 ≤ 10)
        && decide (50 ≤ u (8 * n + 2) 2 ∧ u (8 * n + 2) 2 ≤ 5000) && decide (u (8 * n + 4) 1 < 8) && i.zero (o + 8 * n + 5) 3)
  | 10 => (List.range 8).all (fun k =>
        let f := u (4 * k) 1
        decide (f < 6) && decide (u (4 * k + 1) 1 < (if 1 ≤ f ∧ f ≤ 4 then 12 else 1))
          && decide (u (4 * k + 2) 1 < (if f = 1 ∨ f = 2 then 4 else 1)) && decide (u (4 * k + 3) 1 < 2))
      && (List.range 4).all (fun k => decide (u (0x20 + 4 * k) 1 < 2) && decide (u (0x21 + 4 * k) 1 ≤ 100) && i.zero (o + 0x22 + 4 * k) 2)
      && (List.range 16).all fun k => decide (u (0x30 + 4 * k) 1 < 4) && railOk (u (0x31 + 4 * k) 1) && i.zero (o + 0x32 + 4 * k) 2
  | 11 => decide (u 0 1 < 2) && (decide (u 1 1 < 64) || u 1 1 == 0xFF) && decide (u 2 1 ≤ 12) && i.zero (o + 3) 1
      && (List.range (u 2 1)).all fun k =>
        let b := 4 + 8 * k
        decide (u b 2 < 1024) && decide (u (b + 2) 1 < 12) && decide (1 ≤ u (b + 3) 1 ∧ u (b + 3) 1 ≤ 2)
          && decide (2 ≤ u (b + 4) 1 ∧ u (b + 4) 1 ≤ 8) && i.zero (o + b + 6) 2
  | _ => decide (1 ≤ u 0 4 ∧ u 0 4 ≤ 1024) && ((List.range (u 0 4)).all fun k =>
      let b := 4 + 8 * k
      let a := u b 2
      let v := u (b + 4) 4
      i.zero (o + b + 2) 2 && decide (0x400 ≤ a ∧ a ≤ 0x25FF) &&
      match regAtAddr a with
      | none => false
      | some (r, _) =>
        let m := r.row.rw ||| r.row.rwl
        m != 0 && (v &&& m) == v) && acc

/-- The reserved bits that step 11 tests outside the sections that are decoded (R43): those of the header, of the trailer of a signed
image, and of the SFLAGS of a section that is skipped. (Log entry: 23 DEDUCED.) -/
def Img.reservedBad (i : Img) (len : Nat) (signed : Bool) : Option (Nat × Nat) :=
  if i.at_ 0x0E 2 / 2 ≠ 0 ∨ !i.zero 0x1E 2 ∨ !i.zero 0x24 24 ∨ (signed ∧ !i.zero (len + 6) 10) then some (0x0D, 0)
  else (i.secs.find? fun c => !c.known && decide (2 ≤ c.sflags)).map fun c => (0x0D, c.idx)

/-- Step 12: splice, strand, exponent, temperature and lanyard rules. An ORDER that is not one of 0 to k − 1, or not 0 for a phase of no
rail, is an inconsistency of RAIL and ORDER here (SPLICE), and no VALUE of step 11. (Log entries: 23 DEDUCED, 51 DESIGN CHOICE.) -/
def Img.rules (i : Img) (small : Bool) : Option (Nat × Nat) :=
  let idx := fun t n => match i.sec t n with
    | some c => c.idx
    | none => 0
  let sp := fun p k => i.at_ (i.off 1 0 + 4 * p + k) 1
  let spliceOk := (List.range 48).all (fun p => sp p 0 != 0xFF || sp p 1 == 0) &&
    (List.range 12).all fun n =>
      let ps := (List.range 48).filter fun p => sp p 0 == n
      (List.range ps.length).all fun k => (ps.filter fun p => sp p 1 == k).length == 1
  let st := fun k j => i.at_ (i.off 2 0 + 4 * k + j) 1
  let strandOk := (List.range 32).all (fun k =>
        if st k 1 = 0 then st k 0 == 0xFF
        else decide (st k 0 < 12) && i.inUse (st k 0) &&
          (st k 1 == 1 || (st k 1 == 2 && k % 2 == 0 && st (k + 1) 1 == 3 && st (k + 1) 0 == st k 0)
            || (st k 1 == 3 && k % 2 == 1 && st (k - 1) 1 == 2 && st (k - 1) 0 == st k 0))) &&
    (List.range 12).all fun n =>
      let ks := (List.range 32).filter fun k => st k 0 == n
      if i.inUse n then (ks.length == 1 && ks.all (fun k => st k 1 == 1)) || (ks.length == 2 && ks.all (fun k => st k 1 != 1))
      else ks == []
  let expOk := fun (c : Sec) => (List.range 8).all fun f =>
    let e := fun k => i.at_ (c.off + 128 * f + 0x20 + 4 * k) 4 / 2 ^ 18 % 32
    let same := fun a b => (List.range (b - a)).all fun k => e (a + k) == e a
    same 0 4 && same 4 9 && same 9 14 && same 14 18
  let tempOk := (List.range 12).all fun n => (small && decide (6 ≤ n)) ||
    (let b := i.off 8 0 + 16 + 32 * n
     decide (-160 ≤ i.ats (b + 0x12) 2 ∧ i.ats (b + 0x12) 2 < i.ats (b + 0x14) 2 ∧ i.ats (b + 0x14) 2 ≤ 480)
      && decide (-320 ≤ i.ats (b + 0x16) 2 ∧ i.ats (b + 0x16) 2 < i.ats (b + 0x18) 2 ∧ i.ats (b + 0x18) 2 ≤ 600))
  let lanOk := match i.sec 11 0 with
    | none => true
    | some c =>
      let n := i.at_ (c.off + 2) 1
      let g := fun k j => i.at_ (c.off + 4 + 8 * k + j) 1
      (List.range n).all fun k => ((g k 3 == 1) == (g k 5 == 0)) && decide (g k 5 < g k 4)
        && (List.range n).all fun j => j == k || g j 2 != g k 2
  if !spliceOk then some (0x0B, idx 1 0)
  else if !strandOk then some (0x0C, idx 2 0)
  else match (i.secs.filter fun c => c.known && c.type == 6).find? fun c => !expOk c with
    | some c => some (0x0E, c.idx)
    | none => if !tempOk then some (0x0F, idx 8 0) else if !lanOk then some (0x12, idx 11 0) else none

/-- A rail byte. -/
def railByte (r : Nat) : Option (Fin 12) := if h : r < 12 then some ⟨r, h⟩ else none

/-- Decoding of a checked image into a set (§2.2). -/
def Img.decode (i : Img) : RigSet :=
  let o := fun t n => i.off t n
  let sp := fun (p : Fin 48) => o 1 0 + 4 * p.val
  let st := fun (k : Fin 32) => o 2 0 + 4 * k.val
  let se := fun (n : Fin 12) => o 3 0 + 16 * n.val
  let co := fun (x : Fin 72) => o 4 0 + 8 * x.val
  let pr := fun (n : Fin 12) => o 8 0 + 16 + 32 * n.val
  let li := fun (n : Fin 12) => o 9 0 + 8 * n.val
  let pi := o 10 0
  { loaded := true
    splice := Vector.ofFn fun p =>
      { rail := railByte (i.at_ (sp p) 1), order := i.at_ (sp p + 1) 1, offset := i.at_ (sp p + 2) 1
        shedok := bitAt (i.at_ (sp p + 3) 1) 0, entershed := bitAt (i.at_ (sp p + 3) 1) 1 }
    strand := Vector.ofFn fun k =>
      { rail := railByte (i.at_ (st k) 1), role := i.at_ (st k + 1) 1, sparepri := i.at_ (st k + 2) 1 }
    sense := Vector.ofFn fun n =>
      { div := i.at_ (se n) 4, elsb := i.at_ (se n + 4) 1, bias := bitAt (i.at_ (se n + 5) 1) 0
        fallback := bitAt (i.at_ (se n + 5) 1) 1, blankE := i.at_ (se n + 6) 1, blankC := i.at_ (se n + 7) 1
        cslsb := i.at_ (se n + 8) 4 }
    comp := Vector.ofFn fun x =>
      { upper := i.at_ (co x) 2, lower := i.at_ (co x + 2) 2, cons := i.at_ (co x + 4) 2 }
    loop := Vector.ofFn fun n => match i.sec 5 n with
      | none => {}
      | some c =>
        let f := i.at_ (c.off + 2) 1
        { period := i.at_ c.off 1, offset := i.at_ (c.off + 1) 1, detlatch := bitAt f 0, observer := bitAt f 1
          ffVbus := bitAt f 2, ffLtab := bitAt f 3, revallow := bitAt f 4, nbiq := i.at_ (c.off + 3) 1
          mode := i.at_ (c.off + 4) 1, slew := i.at_ (c.off + 8) 4, acc := i.at_ (c.off + 0xC) 4
          jerk := i.at_ (c.off + 0x10) 4 }
    facets := Vector.ofFn fun n => match i.sec 6 n with
      | none => Vector.replicate 8 {}
      | some c => Vector.ofFn fun (f : Fin 8) =>
        let b := c.off + 128 * f.val
        { valid := bitAt (i.at_ (b + 0x16) 1) 0, iLo := i.ats b 2, iHi := i.ats (b + 2) 2, iHys := i.at_ (b + 4) 2
          fsw := i.at_ (b + 6) 2, vbLo := i.at_ (b + 8) 4, vbHi := i.at_ (b + 0xC) 4, vbHys := i.at_ (b + 0x10) 2
          shedI := i.at_ (b + 0x12) 2, addI := i.at_ (b + 0x14) 2
          coef := Vector.ofFn fun (k : Fin 19) => BitVec.ofNat 32 (i.at_ (b + 0x20 + 4 * k.val) 4) }
    tables := Vector.ofFn fun n => match i.sec 7 n with
      | none => {}
      | some c =>
        { iMin := i.ats c.off 2, iStep := i.at_ (c.off + 2) 2
          lroll := Vector.ofFn fun (k : Fin 32) => i.at_ (c.off + 4 + 2 * k.val) 2
          dead := Vector.ofFn fun (k : Fin 32) => (i.at_ (c.off + 0x44 + 2 * k.val) 1, i.at_ (c.off + 0x45 + 2 * k.val) 1) }
    prot :=
      { pbudget := i.at_ (o 8 0) 4, vbusOv := i.at_ (o 8 0 + 4) 4, vbusUv := i.at_ (o 8 0 + 8) 4
        nstart := i.at_ (o 8 0 + 0xC) 1
        rails := Vector.ofFn fun n =>
          { ov := i.at_ (pr n) 4, uv := i.at_ (pr n + 4) 4, ibudget := i.at_ (pr n + 8) 2, ifloor := i.at_ (pr n + 0xA) 2
            prio := i.at_ (pr n + 0xC) 1, tsens := i.at_ (pr n + 0xD) 1, iovl := i.at_ (pr n + 0xE) 2
            tovl := i.at_ (pr n + 0x10) 2, tfLo := i.ats (pr n + 0x12) 2, tfHi := i.ats (pr n + 0x14) 2
            trLo := i.ats (pr n + 0x16) 2, trHi := i.ats (pr n + 0x18) 2 } }
    link := Vector.ofFn fun n =>
      { en := i.at_ (li n) 1 == 1, leddrv := i.at_ (li n + 1) 1, wdog := i.at_ (li n + 2) 2, retry := i.at_ (li n + 4) 1 }
    tio := Vector.ofFn fun (k : Fin 8) =>
      { func := i.at_ (pi + 4 * k.val) 1, sel := i.at_ (pi + 4 * k.val + 1) 1, chan := i.at_ (pi + 4 * k.val + 2) 1
        pol := i.at_ (pi + 4 * k.val + 3) 1 }
    fan := Vector.ofFn fun (k : Fin 4) => { en := i.at_ (pi + 0x20 + 4 * k.val) 1 == 1, weight := i.at_ (pi + 0x21 + 4 * k.val) 1 }
    tin := Vector.ofFn fun (k : Fin 16) =>
      { type := i.at_ (pi + 0x30 + 4 * k.val) 1, rail := railByte (i.at_ (pi + 0x31 + 4 * k.val) 1) }
    lanyard := match i.sec 11 0 with
      | none => {}
      | some c =>
        { ring := i.at_ c.off 1 == 1, member := i.at_ (c.off + 1) 1
          groups := (List.range (i.at_ (c.off + 2) 1)).map fun k =>
            let b := c.off + 4 + 8 * k
            { group := i.at_ b 2, rail := railOf (i.at_ (b + 2) 1), role := i.at_ (b + 3) 1, nmem := i.at_ (b + 4) 1
              idx := i.at_ (b + 5) 1 } }
    optLanyard := (i.sec 11 0).isSome
    presets := match i.sec 12 0 with
      | none => []
      | some c => (List.range (i.at_ c.off 4)).map fun k =>
          (i.at_ (c.off + 4 + 8 * k) 2, BitVec.ofNat 32 (i.at_ (c.off + 4 + 8 * k + 4) 4))
    imageId := i.at_ 0x14 4, imgSeq := i.at_ 0x18 4, signed := i.at_ 0x0E 2 % 2 == 1
    keyIdx := if i.at_ 0x0E 2 % 2 = 1 then i.at_ (i.at_ 8 4 + 4) 1 else 0 }

/-- The SIGNED flag of an image's header (Table 2-1). -/
def Img.signed (i : Img) : Bool := i.at_ 0x0E 2 % 2 == 1

/-- The signature of an image (R53): magic, algorithm, key slot and verification. (Log entry: 8 DESIGN CHOICE.) -/
def State.sigOk (s : State) (i : Img) : Bool :=
  let t := i.at_ 8 4
  let k := s.keySlot false (i.at_ (t + 4) 1)
  i.at_ t 4 == 0x534B5347 && decide (i.at_ (t + 4) 1 < 4) && i.at_ (t + 5) 1 == 1 && k.st == .loaded
    && Config.verifies k.key ((i.take t).map (BitVec.ofNat 8)) (((i.drop (t + 16)).take 64).map (BitVec.ofNat 8))

/-- The checks of Table 2-16 in order. `limit` is the length of step 3, `flag` the signed flag that R54 sees, `sig` the outcome of step 5
for a signed image, `acc` whether the registers accept the presets of a set (R51). (Log entry: 23 DEDUCED.) -/
def State.checkImage (s : State) (i : Img) (limit : Nat) (flag sig : Bool) (acc : RigSet → Bool) : ImgResult :=
  let len := i.at_ 8 4
  let signed := i.at_ 0x0E 2 % 2 == 1
  let total := len + (if signed then 80 else 0)
  let tab := i.at_ 0x1C 2
  if i.at_ 0 4 ≠ 0x534B5247 ∨ i.at_ 6 2 ≠ 64 then .refused 1 0
  else if i.at_ 4 1 ≠ 1 ∨ i.at_ 5 1 ≠ 0 then .refused 2 0
  else if i.at_ 0x3C 4 ≠ crc32 (i.take 0x3C) then .refused 4 0
  else if len % 4 ≠ 0 ∨ len < 64 ∨ 262144 < total ∨ limit < len then .refused 3 0
  else if i.at_ 0x0C 2 ≠ s.devCode then .refused 5 0
  else if s.flag RG_CTRL.SIGREQ 0 ∧ !flag then .refused 0x10 0
  else if signed ∧ !sig then .refused 0x11 0
  else if tab < 1 ∨ 64 < tab ∨ i.at_ 0x20 4 ≠ crc32 ((i.drop 0x40).take (16 * tab)) then
    .refused 6 0xFFF
  else match firstBad i.secs i.placed with
    | some c => .refused 6 c.idx
    | none =>
      if i.at_ 0x14 4 ≠ crc32 ((i.drop 0x40).take (len - 0x40)) then .refused 0x13 0
      else match firstBad i.secs fun c => crc32 ((i.drop c.off).take c.len) == c.scrc with
        | some c => .refused 7 c.idx
        | none => match i.occurrence with
          | some e => .refused e.1 e.2
          | none =>
            let live := i.secs.filter Sec.known
            match (if s.small then firstBad live (i.absentOk (s.fld CMP_SEL.WIN 0, s.fld CV_CALSEL.CHAN 0)) else none) with
            | some c => .refused 0x0A c.idx
            | none => match i.reservedBad len signed with
              | some e => .refused e.1 e.2
              | none => match firstBad live (i.valueOk s.small (acc i.decode)) with
                | some c => .refused 0x0D c.idx
                | none => match i.rules s.small with
                  | some e => .refused e.1 e.2
                  | none => .ok i.decode

/-- A rigging slot whose copy of the active image passes its CRCs (R69). The copy is matched by IMAGE_ID alone. (Log entry: 26 DEDUCED.)
-/
def State.slotCopyOk (s : State) (b : Bool) : Bool :=
  let r := s.rigSlot b
  let i : Img := memBytes erased r.bytes 0 262144
  let id := s.fld RG_AID.ID 0
  !s.rigHalf b && !s.rigWriting b && r.bytes != [] && i.at_ 0x14 4 == id && crc32 ((i.drop 0x40).take (i.at_ 8 4 - 0x40)) == id
    && i.at_ 0x3C 4 == crc32 (i.take 0x3C) && i.at_ 0x20 4 == crc32 ((i.drop 0x40).take (16 * i.at_ 0x1C 2))
    && i.secs.all fun c => crc32 ((i.drop c.off).take c.len) == c.scrc

end Sys2Proof.Machine
end

