-- ==== Sys2Proof/Machine/Swap.lean ====
section
/-! DEFINITION. Machine/Swap.lean: the hitless-swap rules (Table 2-15), the request of a swap (R59, R60, R65), and the commands
of the rigging control block (R55 to R57). -/
namespace Sys2Proof.Machine

/-- The states of RG_STATUS.STATE (Table 2-21). -/
def rgEmpty : Nat := 0
def rgStaging : Nat := 1
def rgChecking : Nat := 2
def rgReady : Nat := 3
def rgPending : Nat := 4

/-- A phase is spliced to a rail that is live. -/
def State.spliceLive (s : State) (r : Option (Fin 12)) : Bool :=
  match r with
  | some n => s.live n
  | none => false

/-- A phase that is shed; a held phase counts as shed (§7.1). -/
def State.isShed (s : State) (p : Fin 48) : Bool :=
  s.fld PH_MSTAT.STATE p == phShed || s.fld PH_MSTAT.STATE p == phHeld

/-- The splice rules that name a phase: one in service, one that leaves a live rail and one that joins one. A retired phase is
in no rail's service, and its own rule decides about it (R204). -/
def State.spliceOk (s : State) (p : Fin 48) : Bool :=
  let a := s.phRail p
  let b := s.shadow.splice[p]
  let stays := if s.spliceLive a && !s.phRet p && !s.isShed p then b.rail == a && b.offset == s.fld PH_PCFG.OFFSET p else true
  let joins := if s.spliceLive b.rail && b.rail != a
    then !s.phRet p && b.entershed && (!s.spliceLive a || s.isShed p) else true
  stays && joins

/-- LIVESPLICE (0x22): a phase, or a live rail that would be left without phases. -/
def State.ruleSplice (s : State) : Option Nat :=
  match (List.finRange 48).find? fun p => !s.spliceOk p with
  | some p => some p.val
  | none => ((List.finRange 12).find? fun (n : Fin 12) => s.live n && !s.shadow.railInUse n).map (·.val)

/-- LIVESTRAND (0x23): the strands of a live rail and their roles stay as they are bound. -/
def State.ruleStrand (s : State) : Option Nat :=
  ((List.finRange 32).find? fun (k : Fin 32) =>
    let b := s.shadow.strand[k]
    let a := railByte (s.fld ST_CFG.RAIL k)
    (s.spliceLive a || s.spliceLive b.rail) && !(a == b.rail && s.fld ST_CFG.ROLE k == b.role)).map (·.val)

/-- LIVESENSE (0x24), LIVETIMING (0x25) and LIVETOPO (0x26). -/
def State.ruleSense (s : State) : Option Nat :=
  ((List.finRange 12).find? fun (n : Fin 12) => s.live n &&
    !(s.shadow.sense[n].div == s.active.sense[n].div && s.shadow.sense[n].elsb == s.active.sense[n].elsb)).map (·.val)
def State.ruleTiming (s : State) : Option Nat :=
  ((List.finRange 12).find? fun (n : Fin 12) => s.live n &&
    !(s.shadow.loop[n].period == s.fld TB_RSMP.PERIOD n && s.shadow.loop[n].offset == s.fld TB_RSMP.OFFSET n
      && s.shadow.loop[n].detlatch == s.flag TB_RSMP.DETLATCH n)).map (·.val)
def State.ruleTopo (s : State) : Option Nat :=
  ((List.finRange 12).find? fun (n : Fin 12) => s.live n &&
    (let a := s.active.loop[n]
     let b := s.shadow.loop[n]
     !(a.nbiq == b.nbiq && a.observer == b.observer && a.ffVbus == b.ffVbus && a.ffLtab == b.ffLtab
      && s.shadow.facets[n][(s.rail n).mode.facet].valid))).map (·.val)

/-- LIVESAFE (0x27): PWMKILL and PROT, the link's EN, the pins of FUNC 3 and 4 and the temperature input of a live rail. -/
def State.safeOk (s : State) (n : Fin 12) : Bool :=
  let keeps := fun (x : Fin 72) (b : Nat) => !bitAt s.active.comp[x].cons b || bitAt s.shadow.comp[x].cons b
  (s.railPhases n).all (fun (p : Fin 48) => keeps (fastWin p) 0) && keeps (voltWin n) 2
    && (!s.flag LK_CTRL.EN n || s.shadow.link[n].en)
    && (List.finRange 8).all (fun (i : Fin 8) =>
        let a := s.active.tio[i]
        let b := s.shadow.tio[i]
        !((a.func == 3 || a.func == 4) && a.sel == n.val) || (a.func == b.func && a.sel == b.sel && a.pol == b.pol))
    && (List.finRange 16).all fun (i : Fin 16) =>
        s.fld RL_PRIO.TSENS n != i.val || s.shadow.tin[i].type == s.fld TH_CFG.TYPE i
def State.ruleSafe (s : State) : Option Nat :=
  ((List.finRange 12).find? fun (n : Fin 12) => s.live n && !s.safeOk n).map (·.val)

/-- The group record of a rail in a set. -/
def RigSet.groupRec (g : RigSet) (n : Fin 12) : Option GroupE := g.lanyard.groups.find? fun e => e.rail == n

/-- LIVESPAN (0x28): a live rail keeps its group record, and RING stays while a group rail is live. -/
def State.ruleSpan (s : State) : Option Nat :=
  let grouped := fun (n : Fin 12) => (s.active.groupRec n).isSome || (s.shadow.groupRec n).isSome
  ((List.finRange 12).find? fun (n : Fin 12) => s.live n && grouped n &&
    !(s.active.groupRec n == s.shadow.groupRec n && s.active.lanyard.ring == s.shadow.lanyard.ring)).map (·.val)

/-- RETIRED (0x29): a retired phase is spliced to no rail. -/
def State.ruleRetired (s : State) : Option Nat :=
  ((List.finRange 48).find? fun (p : Fin 48) => s.phRet p && s.shadow.splice[p].rail.isSome).map (·.val)

/-- STRANDBUSY (0x2A): no strand that is retired or holds a replay is assigned to a rail. -/
def State.ruleBusy (s : State) : Option Nat :=
  ((List.finRange 32).find? fun (k : Fin 32) =>
    (s.flag ST_CFG.RETIRED k || s.fld ST_CFG.STATE k == 3) && s.shadow.strand[k].rail.isSome).map (·.val)

/-- PRESETRWL (0x2B): a preset of an RWL register of a rail that is not OFF holds the present value of the fields a preset
writes. -/
def State.rulePreset (s : State) : Option Nat :=
  s.shadow.presets.findSome? fun e =>
    match regAtAddr e.1 with
    | none => none
    | some (r, n) =>
      let m := r.row.rw ||| r.row.rwl
      if r.row.rwl ≠ 0 ∧ s.rst n ≠ stOff ∧ e.2.toNat &&& m ≠ (s.reg r n).toNat &&& m then some n else none

/-- The rule of lowest code that the shadow set breaks, and its DETAIL (R60, R61, R66). (Log entry: 24 DEDUCED.) -/
def State.swapBroken (s : State) : Option (Nat × Nat) :=
  [(0x22, s.ruleSplice), (0x23, s.ruleStrand), (0x24, s.ruleSense), (0x25, s.ruleTiming), (0x26, s.ruleTopo),
   (0x27, s.ruleSafe), (0x28, s.ruleSpan), (0x29, s.ruleRetired), (0x2A, s.ruleBusy), (0x2B, s.rulePreset)].findSome?
    fun e => e.2.map fun d => (e.1, d)

/-- A refusal shown (R66). -/
def State.rgRefuse (s : State) (code detail : Nat) : State :=
  s.setFlds 0 [(RG_STATUS.CODE, code), (RG_STATUS.DETAIL, detail), (RG_EVENT.REFUSED, 1)]

/-- A swap requested for the boundary of an epoch: what a request answers, 0 when it is pending (R59, R60, R65). -/
def State.swapRequest (s : State) (epoch : Nat) (act : Option ActX) : Nat × State :=
  let st := s.fld RG_STATUS.STATE 0
  if st = rgPending then (0x2C, s.rgRefuse 0x2C 0)
  else if st ≠ rgReady then (0x20, s.rgRefuse 0x20 0)
  else if s.ticksTo epoch < 256 then (0x21, s.rgRefuse 0x21 0)
  else match s.swapBroken with
    | some e => (e.1, s.rgRefuse e.1 e.2)
    | none => (0, (s.setFld RG_STATUS.STATE 0 rgPending).modRig fun r => { r with swap := some { epoch := epoch, act := act } })

/-- SWAP: the first bell boundary at least 256 ticks ahead (R59). -/
def State.rgSwapNow (s : State) : State := (s.swapRequest ((s.T + 256 + 4095) / 4096 % 2 ^ 48) none).2

/-- SWAP AT EPOCH: the boundary of RG_SWAPE (R59). -/
def State.rgSwapAt (s : State) : State :=
  (s.swapRequest (s.fld RG_SWAPE_HI.EPOCH_H 0 * 2 ^ 32 + s.fld RG_SWAPE_LO.EPOCH_L 0) none).2

/-- CANCEL (R65). -/
def State.rgCancelSwap (s : State) : State :=
  match s.rig.swap with
  | none => s
  | some r =>
    if s.ticksTo r.epoch < 256 then s.rgRefuse 0x2C 0
    else (s.setFld RG_STATUS.STATE 0 rgReady).modRig fun x => { x with swap := none }

/-- The shadow set emptied; a RIGSAVE in progress stops (R56, R407). -/
def State.emptyShadow (s : State) : State :=
  { (s.stopRigsave.setFld RG_SID.ID 0 0) with shadow := RigSet.empty }

/-- OPEN (R56, Table 2-20). While a check runs it is not taken. -/
def State.rgOpenStaging (s : State) : State :=
  let st := s.fld RG_STATUS.STATE 0
  if st = rgPending then s.rgRefuse 0x2C 0
  else if st = rgChecking then s
  else
    ((s.emptyShadow.modFlash fun f => { f with staging := [] }).setFld RG_SLEN.SLEN 0 0).setFlds 0
      [(RG_STATUS.CODE, 0), (RG_STATUS.DETAIL, 0), (RG_STATUS.STATE, rgStaging)]

/-- CHECK starts (R57). -/
def State.rgCheckStart (s : State) : State :=
  let st := s.fld RG_STATUS.STATE 0
  if st = rgPending then s.rgRefuse 0x2C 0 else s.setFld RG_STATUS.STATE 0 rgChecking

/-- The state without a shadow set: STAGING while bytes are staged, EMPTY otherwise (R56); a check in progress goes on (R57). (Log entry:
24 DEDUCED.) -/
def State.rgLost (s : State) : State :=
  let st := s.fld RG_STATUS.STATE 0
  s.emptyShadow.setFld RG_STATUS.STATE 0 (if st = rgChecking then rgChecking else if s.fld RG_SLEN.SLEN 0 = 0 then rgEmpty else rgStaging)

/-- DISCARD (R56). While a check runs it is not taken. -/
def State.rgDiscardSet (s : State) : State :=
  let st := s.fld RG_STATUS.STATE 0
  if st = rgPending then s.rgRefuse 0x2C 0 else if st = rgChecking then s else s.rgLost

/-- RG_CMD (Table 2-20). (Log entry: 24 DEDUCED.) -/
def State.rgCmd (s : State) (w : Word) : State :=
  match RG_CMD.CMD.of w with
  | 1 => s.rgOpenStaging
  | 2 => s.rgCheckStart
  | 3 => s.rgSwapNow
  | 4 => s.rgSwapAt
  | 5 => s.rgCancelSwap
  | 6 => s.rgDiscardSet
  | _ => s

/-- A word written into the staging window at address `a` (R55, R56). -/
def State.stagingPut (s : State) (a : Nat) (w : Word) : State :=
  let st := s.fld RG_STATUS.STATE 0
  if st = rgStaging ∨ st = rgReady then
    let ofs := s.fld RG_PAGE.PAGE 0 * 16384 + (a - 0x4000) / 4 * 4
    let s := if st = rgReady then s.emptyShadow.setFld RG_STATUS.STATE 0 rgStaging else s
    let s := s.modFlash fun f => { f with staging := memPutAll 0 f.staging ofs ((bytesBE w.toNat).map (BitVec.ofNat 8)) }
    s.setFld RG_SLEN.SLEN 0 (max (s.fld RG_SLEN.SLEN 0) (ofs + 4))
  else s.raise RG_EVENT.WERR 0

end Sys2Proof.Machine
end

