-- ==== Sys2Proof/Machine/Grant.lean ====
section
/-! DEFINITION. Machine/Grant.lean: the start scheduler (§8.2) and the entry of a rail to PREMATCH. -/
namespace Sys2Proof.Machine

/-- Concurrent starts (Table 8-25): 0 is treated as 1, and 13 to 15 as 12. -/
def State.nstart (s : State) : Nat := min 12 (atLeast1 (s.fld PR_START.NSTART 0))

/-- The rails that hold a slot, and those that wait in the queue; a rail that no phase is spliced to stays OFF (R211). -/
def State.slotRails (s : State) : List (Fin 12) := (List.finRange 12).filter fun (n : Fin 12) => s.flag RL_STATUS.SLOT n
def State.queuedRails (s : State) : List (Fin 12) :=
  (List.finRange 12).filter fun (n : Fin 12) => s.flag RL_STATUS.QUEUED n && s.rst n == stOff && s.railPhases n != []

/-- The order of the queue (R216): PRIO, arrival, number. -/
def State.queueLe (s : State) (a b : Fin 12) : Bool :=
  let pr := fun (n : Fin 12) => if (s.rail n).life.aged then 15 else s.fld RL_PRIO.PRIO n
  let ar := fun (n : Fin 12) => (s.rail n).life.arrival.getD 0
  decide (pr b < pr a) || (pr a == pr b && (decide (ar a < ar b) || (ar a == ar b && decide (a.val ≤ b.val))))

/-- The head of the queue. -/
def State.queueHead (s : State) : Option (Fin 12) := (sortBy s.queueLe s.queuedRails).head?

/-- The budget has room for the floor of a rail whose target is positive (R216, R237). -/
def State.budgetRoom (s : State) (n : Fin 12) : Bool :=
  decide (s.fldS RL_ITGT.ITGT n ≤ 0) ||
    decide (rhe (s.fld RL_VOC.VOC n * s.budFloor n : Nat) 1000 ≤ (s.pb : Int) - s.plan)

/-- The rail that R216 would grant, the ring token apart: a slot is free and the head has room. -/
def State.grantable (s : State) : Option (Fin 12) :=
  if s.slotRails.length < s.nstart then
    match s.queueHead with
    | some n => if s.budgetRoom n then some n else none
    | none => none
  else none

/-- The cap at a grant (R237). -/
def State.grantCap (s : State) (n : Fin 12) : Nat :=
  let bud := s.fld RL_IBUD.IBUDGET n
  if s.fldS RL_ITGT.ITGT n ≤ 0 then bud
  else (max (s.budFloor n : Int) (min (bud : Int) (((s.pb : Int) - s.plan) * 1000 / max 1 (s.fld RL_VOC.VOC n)))).toNat

/-- Both generators set at rest at entry to PREMATCH (R143): the voltage at the latest VLOC reading, the current at its present target.
(Log entry: 28 DEDUCED.) -/
def State.restGens (s : State) (n : Fin 12) : State :=
  let v := (s.rail n).sense.vloc
  let i := s.currentTarget n s.now
  let s := s.modMode n fun m => { m with vgen := m.vgen.atRest v, igen := m.igen.atRest i }
  (s.setFlds n [(RL_PSET.VSET, v), (RL_PSET.VREST, bit (v == s.fld RL_VOC.VOC n)), (RL_PSET.VBACK, 0),
    (RL_PISET.IREST, 1), (RL_PISET.IBACK, 0)]).setFldS RL_PISET.ISET n (rheRat (i / 10))

/-- What the loop and the manager of a rail forget at entry to PREMATCH (R126, R153, R219, R233). -/
def State.clearRun (s : State) (n : Fin 12) : State :=
  let s := s.modLoop n fun l =>
    { l with jobs := [], done := [], started := false, waiting := none, count := 0, lastAt := none,
             swapped := false, rerun := false, takeover := false, claimed := [], oldStrands := [], suspect := [] }
  let s := s.modMode n fun m =>
    { m with cc := false, xcnt := 0, last := none, preAt := none, facet := 0, facetNext := none, facetFirst := false,
             exits := 0, isSum := 0, isCnt := 0, tune := none }
  let s := s.modProt n fun p => { p with q := 0, ovRun := 0, uvRun := 0 }
  let s := s.modLife n fun l =>
    { l with preTick := s.now, matchRun := 0, closeSteps := 0, closeOvr := false, contAt := none, ramp := 0,
             lowRun := 0, causes := [], budgetOff := false, condSince := none, arrival := none, aged := false }
  s.setFlds n [(RL_PSTAT.OVLPCT, 0), (RL_FCTL.PEND, 0), (RL_STATUS.QUEUED, 0)]

/-- Entry to PREMATCH (R218): the carrier waits for the first bell boundary at tick `from_` or later (R161, R348). (Log entry: 28
DEDUCED.) -/
def State.enterPrematch (s : State) (n : Fin 12) (from_ : Nat) : State :=
  let s := (s.clearRun n).enter n stPrematch
  let s := s.restGens n
  let s := s.modCarrier n fun _ => { waiting := some from_, fsw := s.active.facets[n][(0 : Fin 8)].fsw }
  let s := s.choosePhases n
  let s := s.modLife n fun l => { l with offNact := s.numIn n phActive }
  let s := (s.bump RL_SCNT.STARTCNT n).countLife (31 + n.val) 1
  s.bindingTakeover n

/-- The longest wait (R217), in ms. (Log entry: 28 DEDUCED.) -/
def State.countWait (s : State) (n : Fin 12) : State :=
  match (s.rail n).life.arrival with
  | none => s
  | some a => s.setFld PR_QSTAT.WMAX 0 (max (s.fld PR_QSTAT.WMAX 0) (min 1048575 ((s.now - a) / ms)))

/-- A grant (R218). On a lead the carrier starts 8192 ticks later and FEPO announces the boundary (R348). (Log entry: 28 DEDUCED.) -/
def State.grant (s : State) (n : Fin 12) : State :=
  let s := (s.countWait n).setFld RL_PSTAT.CAP n (s.grantCap n)
  let s := s.setFld RL_STATUS.SLOT n 1
  if s.lead n then
    let b := s.nextGrid (s.now + 8192) 4096 0
    (s.modGroup n fun g => { g with fepo := s.absAt b / 4096 % 4 }).enterPrematch n (s.now + 8192)
  else s.enterPrematch n (s.now + 2)

/-- PR_QSTAT.BWAIT: a slot is free, and the budget holds the queue (R216). (Log entry: 28 DEDUCED.) -/
def State.budgetWait (s : State) : Bool :=
  decide (s.slotRails.length < s.nstart) && (match s.queueHead with
    | some n => !s.budgetRoom n
    | none => false)

/-- The ring lets the rail start (R216, R355): with RINGTOK 1 a token is held for it. -/
def State.tokenPermits (s : State) (n : Fin 12) : Bool :=
  !s.flag PR_START.RINGTOK 0 || (decide (2 ≤ s.fld LY_STATUS.MODE 0) && s.lan.held.any fun e => e.2 == n)

/-- SLOT_GRANT: the scheduler considers the head of the queue (R216, R218). A rail that has entered OFF at this tick leaves it at the next
one (R213). (Log entry: 28 DEDUCED.) -/
def execSlotGrant (s : State) : Host.Outcome State Fault Refusal :=
  clocked s (
    match s.grantable with
    | some n => if s.tokenPermits n then (s.advance (s.now + bit (s.movedNow n))).grant n else s
    | none => s)

end Sys2Proof.Machine
end

