-- ==== Sys2Proof/Machine/Link.lean ====
section
/-! DEFINITION. Machine/Link.lean: the Ifeto pack link (chapter 10): frames received and answered, binding, enables, notices
and the watchdogs. A frame's command stands at the end of the frame. -/
namespace Sys2Proof.Machine

/-- The states of a link (R286). -/
def lkOff : Nat := 0
def lkSearch : Nat := 1
def lkBound : Nat := 2
def State.lst (s : State) (n : Fin 12) : Nat := s.fld LK_STATUS.LSTATE n

/-- Header and payload of a frame (Table 10-2); `dir` is 1 from the slot. -/
def linkBody (dir type seq : Nat) (payload : List Byte) : List Nat :=
  [type % 16 * 16 + seq % 16, dir * 128 + payload.length % 64] ++ payload.map BitVec.toNat

/-- The bytes of a frame from its preamble to its CRC. -/
def linkBytes (dir type seq : Nat) (payload : List Byte) : List Byte :=
  let b := linkBody dir type seq payload
  let c := crc16 b
  ([0xAA, 0xAA, 0x2D, 0xD4] ++ b ++ [c / 256, c % 256]).map (BitVec.ofNat 8)

/-- The Manchester half-cells of bytes, light or dark, each 200 ticks long (R280): the most significant bit first, a 1 light then dark, a 0
dark then light. -/
def linkHalves (bs : List Byte) : List Bool :=
  bs.flatMap fun b => (List.range 8).flatMap fun k => if b.getLsbD (7 - k) then [true, false] else [false, true]

/-- How long a frame with a payload of `len` bytes lasts, in ticks (R283). -/
def frameTicks (len : Nat) : Nat := (8 + len) * 16 * us

/-- The LED drive in 10 mA steps as LK_CTRL.LED gives it (R277). -/
def ledDrive (v : Nat) : Nat := if v = 0 then 1 else min 10 v

/-- The first tick from the present one on at which the slot may start a frame (R282): 40 µs after the last frame received, 30 µs after
the last transition seen, and after its own frames, those that wait among them. (Log entry: 41 DEDUCED.) -/
def State.lineFree (s : State) (n : Fin 12) : Nat :=
  let l := s.link n
  let after := fun (t : Option Nat) (d : Nat) => match t with
    | none => 0
    | some t => t + d
  let own := l.acks.foldl (fun a e => max a (e.1 + frameTicks e.2.2.length)) (after (l.tx.map (·.2)) 0)
  max s.now (max (max (after l.rxAt (40 * us)) (after l.edgeAt (30 * us))) own)

/-- A frame of `dur` ticks that ends now began while the slot transmitted or within 10 µs after, and is ignored (R282). (Log entry: 41
DEDUCED.) -/
def State.deaf (s : State) (n : Fin 12) (dur : Nat) : Bool :=
  match (s.link n).tx with
  | none => false
  | some e => decide (e.1 < s.now) && decide (s.now < e.2 + 10 * us + dur)

/-- A frame the slot sends from tick `start` on, with the LED drive of R277. -/
def State.linkSend (s : State) (n : Fin 12) (start type seq : Nat) (payload : List Byte) : State :=
  s.modLink n fun l =>
    { l with sent := linkBytes 1 type seq payload, sentLed := ledDrive (s.fld LK_CTRL.LED n)
             tx := some (start, start + frameTicks payload.length) }

/-- The ACKs that have begun by tick `t`: each takes the LED drive that stands at its start (R277, R291). (Log entry: 41 DEDUCED.) -/
def State.linkBegun (s : State) (n : Fin 12) (t : Nat) : State :=
  let due := (s.link n).acks.filter fun e => decide (e.1 ≤ t)
  let s := s.modLink n fun l => { l with acks := l.acks.filter fun e => decide (t < e.1) }
  due.foldl (fun (s : State) e => s.linkSend n e.1 8 e.2.1 e.2.2) s

/-- A frame or stray light on the receiver since tick `from_` holds back the ACKs that had not begun by then until tick `until_` (R282).
(Log entry: 41 DEDUCED.) -/
def State.holdBack (s : State) (n : Fin 12) (until_ : Nat) : State :=
  let put := fun (a : Nat × List (Nat × Nat × List Byte)) (e : Nat × Nat × List Byte) =>
    let t := max e.1 a.1
    (t + frameTicks e.2.2.length, a.2 ++ [(t, e.2)])
  s.modLink n fun l => { l with acks := (l.acks.foldl put (until_, [])).2 }

/-- The receiver is blinded or saturated by an ambient and a total photocurrent in µA (R279). (Log entry: 47 DEDUCED.) -/
def blinded (amb total : Nat) : Bool := decide (220 < amb) || decide (650 < total)

/-- The receiver has been blinded or saturated at a moment of the frame (R279). -/
def spoiling (x : LightIn) : Bool := blinded x.amb x.total || blinded x.ambMax x.totalMax

/-- The light that the receiver sees (R279). -/
def State.linkLight (s : State) (n : Fin 12) (x : LightIn) : State :=
  s.setFlds n [(LK_STATUS.AMB, min 255 x.amb), (LK_STATUS.SAT, bit (blinded x.amb x.total))]

/-- A frame discarded whole (R279, R281, R285). Light that belongs to no frame is no frame discarded. -/
def State.linkDiscard (s : State) (n : Fin 12) (why : Discard) : State :=
  match why with
  | .light => (s.raise LK_EVENT.SATF n).bump LK_ERRC.SATCNT n
  | .code => (s.raise LK_EVENT.FRMERR n).bump LK_ERRC.VIOLCNT n
  | .check => (s.raise LK_EVENT.FRMERR n).bump LK_ERRC.CRCCNT n
  | .stray => s

/-- A target register written by the link: while an auto-tune runs the write is discarded with CFGERR (R157). (Log entry: 32 DEDUCED.) -/
def State.linkTarget (s : State) (r : Reg) (n : Fin 12) (w : Word) : State :=
  if s.tuning n then s.raise RL_MCTL.CFGERR n else s.writeReg r n w

/-- RL_ITGT as the link writes it while TSRC is 1 (R297). -/
def State.linkItgt (s : State) (n : Fin 12) : State :=
  if s.flag RL_MCTL.TSRC n then
    let l := (s.link n).limit
    let v := if (0 < l ∧ s.flag LK_STATUS.CHG n) ∨ (l < 0 ∧ s.flag LK_STATUS.REV n) then l else 0
    s.linkTarget .RL_ITGT n (BitVec.ofNat 32 (unsignedOf 16 v))
  else s

/-- Enables withdrawn (R298): the last one in force makes a stop request. -/
def State.linkWithdraw (s : State) (n : Fin 12) (chg rev : Bool) : State :=
  let c := s.flag LK_STATUS.CHG n
  let r := s.flag LK_STATUS.REV n
  let c' := c && !chg
  let r' := r && !rev
  if c' = c ∧ r' = r then s
  else
    let s := s.setFlds n [(LK_STATUS.CHG, bit c'), (LK_STATUS.REV, bit r'), (LK_STATUS.WDRUN, bit (c' || r'))]
    let s := if !c' && !r' then s.stopRequest n else s
    (s.linkItgt n).startCheck n

/-- The link leaves BOUND, or is OFF or in SEARCH already, for state `st` (R286, R289, R290). (Log entry: 41 DEDUCED.) -/
def State.linkLeave (s : State) (n : Fin 12) (st : Nat) : State :=
  let s := s.linkWithdraw n true true
  let s := (((s.setReg .LK_ID_HI n 0).setReg .LK_ID_LO n 0).setReg .LK_PINFO n 0).setReg .LK_PTEMP n 0
  let s := s.setFlds n [(LK_STATUS.LSTATE, st), (LK_STATUS.TAGE, 1)]
  let s := s.modLink n fun l =>
    { l with accepted := none, limit := 0, out := none, queue := [], report := none
             tx := if st = lkOff then none else l.tx, acks := if st = lkOff then [] else l.acks }
  s.startCheck n

/-- EN changes (R286): from OFF to SEARCH, or to OFF. -/
def State.linkEnable (s : State) (n : Fin 12) (on : Bool) : State :=
  if on then (if s.lst n = lkOff then s.linkLeave n lkSearch else s)
  else if s.lst n = lkOff then s else s.linkLeave n lkOff

/-- The WDOG and the RETRY in force: after a swap those of the former set, up to the next frame boundary (R62). -/
def State.linkWdog (s : State) (n : Fin 12) : Nat := ((s.link n).params.map (·.wdog)).getD (s.fld LK_CTRL.WDOG n)
def State.linkRetry (s : State) (n : Fin 12) : Nat := ((s.link n).params.map (·.retry)).getD (s.fld LK_CTRL.RETRY n)

/-- The LINK entry of a set that becomes active: LK_CTRL is loaded (R303), and EN acts. The link of a live rail goes by the values that it
had up to its next frame boundary (R62). (Log entries: 25 DEDUCED, 41 DEDUCED.) -/
def State.loadLink (s : State) (n : Fin 12) (k : LinkE) : State :=
  let s := s.linkBegun n s.now
  let old : LinkE :=
    { en := s.flag LK_CTRL.EN n, leddrv := s.fld LK_CTRL.LED n, wdog := s.linkWdog n, retry := s.linkRetry n }
  let s := s.setFlds n [(LK_CTRL.EN, bit k.en), (LK_CTRL.LED, k.leddrv), (LK_CTRL.WDOG, k.wdog), (LK_CTRL.RETRY, k.retry)]
  let s := s.modLink n fun l => { l with params := if s.live n then some old else none }
  if old.en = k.en then s else s.linkEnable n k.en

/-- A frame boundary of a link: the values that a swap has loaded are in force (R62). -/
def State.frameBoundary (s : State) (n : Fin 12) : State := s.modLink n fun l => { l with params := none }

/-- LK_CTRL 1: unbind (R290). -/
def State.linkUnbind (s : State) (n : Fin 12) : State := if s.lst n = lkBound then s.linkLeave n lkSearch else s

/-- Every valid frame restarts the watchdog and the absence timer (R289, R301). (Log entry: 41 DEDUCED.) -/
def State.linkHeard (s : State) (n : Fin 12) : State :=
  s.modLink n fun l => { l with heardAt := s.now, wdog := s.linkWdog n }

/-- The results of an ACK (Table 10-5). -/
def rDone : Nat := 0
def rRange : Nat := 1
def rState : Nat := 2
def rFormat : Nat := 3
def rUnbound : Nat := 4
def rSeqerr : Nat := 5
def rHostctl : Nat := 6

/-- Bytes of a number, the most significant first. -/
def be16 (v : Nat) : List Byte := [BitVec.ofNat 8 (v / 256), BitVec.ofNat 8 v]
def be32 (v : Nat) : List Byte := be16 (v / 65536 % 65536) ++ be16 (v % 65536)

/-- The number that `k` payload bytes from `i` on hold. -/
def payNat (p : List Byte) (i k : Nat) : Nat := beNat (((p.drop i).take k).map BitVec.toNat)

/-- The slot report of an ACK to STATUS (Table 10-5). -/
def State.slotReport (s : State) (n : Fin 12) : List Byte :=
  let g := fun f => s.fld f n
  let i := clampInt (-32768) 32767 (signedOf 32 (s.reg .RL_IAVG n).toNat)
  [BitVec.ofNat 8 (s.rst n), BitVec.ofNat 8 (g RL_STATUS.CAUSE)]
    ++ be16 (bit (s.contOut n) + 2 * g RL_STATUS.QUEUED + 4 * g RL_STATUS.LOCKOUT + 8 * g RL_PSTAT.TWF + 16 * g RL_PSTAT.TWR
        + 32 * g RL_PSTAT.BLIM + 64 * g LK_STATUS.CHG + 128 * g LK_STATUS.REV)
    ++ be32 (s.reg .RL_VAVG n).toNat ++ be16 (unsignedOf 16 i) ++ [0, 0]

/-- An ACK (R291). It begins 40 µs to 250 µs after the frame that it answers; the delay within these bounds is free. (Log entry: 7 DESIGN
CHOICE.) -/
def State.linkAck (s : State) (n : Fin 12) (type seq result : Nat) : State :=
  let p := [BitVec.ofNat 8 result, BitVec.ofNat 8 type]
  let q := s.takeFree 16
  let e := (max (s.now + 40 * us + q.1.toNat % (210 * us + 1)) (s.lineFree n), seq, if type = 2 then p ++ s.slotReport n else p)
  q.2.modLink n fun l => { l with acks := l.acks ++ [e] }

/-- The length that Table 10-4 gives a pack frame's TYPE. -/
def linkLen (type : Nat) : Nat :=
  match type with
  | 1 => 16
  | 2 => 8
  | 3 => 6
  | 4 => 4
  | 5 => 2
  | 6 => 1
  | _ => 1

/-- A frame that the receiver hears whole: its light, its end, ACKs held back by it (R282), and a frame boundary (R62). (Log entry: 41
DEDUCED.) -/
def State.linkTaken (s : State) (n : Fin 12) (x : LightIn) : State :=
  (((s.linkLight n x).modLink n fun l => { l with rxAt := some s.now, edgeAt := some s.now }).holdBack n (s.now + 40 * us)).frameBoundary n

/-- Light that ends now and that the receiver takes for no frame (R279, R282): what it sees of it once it listens again is a transition,
which holds back the slot's frames. (Log entry: 41 DEDUCED.) -/
def State.linkGlimpse (s : State) (n : Fin 12) (x : LightIn) : State :=
  let s := s.linkLight n x
  if s.deaf n 0 then s else (s.modLink n fun l => { l with edgeAt := some s.now }).holdBack n (s.now + 30 * us)

/-- A frame of `dur` ticks whose end is now, as the receiver sees it (R279, R282): a link that is OFF sees nothing, one that transmitted
at its start ignores it, and blinding discards it. `act` is what a frame received whole does. (Log entry: 41 DEDUCED.) -/
def State.linkReceive (s : State) (n : Fin 12) (dur : Nat) (x : LightIn) (act : State → State) : State :=
  if s.lst n = lkOff then s
  else
    let s := s.linkBegun n (s.now - dur)
    if s.deaf n dur then s.linkGlimpse n x
    else
      let s := s.linkTaken n x
      if spoiling x then s.linkDiscard n .light else act s

/-- A valid pack frame executed or refused by the supervisor, and answered (R291, R292): a duplicate is answered as before, a repeated SEQ
with other content is SEQERR, and any other frame is executed by `act` when `check` gives DONE. A frame of wrong length is FORMAT before
its other checks (R285), and one in SEARCH other than IDENT is UNBOUND (R287). (Log entry: 41 DEDUCED.) -/
def State.linkAnswer (s : State) (n : Fin 12) (type seq : Nat) (payload : List Byte) (known : Bool) (check : State → Nat)
    (act : State → State) : State :=
  let c := crc16 (linkBody 0 type seq payload)
  let r :=
    if !known ∨ payload.length ≠ linkLen type then rFormat
    else if s.lst n ≠ lkBound ∧ type ≠ 1 then rUnbound
    else check s
  let run := fun (s : State) =>
    let s := if r = rDone then act s else s
    let s := if r = rUnbound then s
      else (s.setFld LK_STATUS.LASTSEQ n seq).modLink n fun l => { l with accepted := some (seq, c, r) }
    s.linkAck n type seq r
  match (s.link n).accepted with
  | none => run s
  | some (q, d, res) =>
    if q ≠ seq then run s
    else if d = c then (s.bump LK_ERRC.DUPCNT n).linkAck n type seq res
    else s.linkAck n type seq rSeqerr

/-- A valid pack frame (R291): the watchdogs restart, and the frame is answered while the supervisor runs. (Log entry: 41 DEDUCED.) -/
def State.linkFrame (s : State) (n : Fin 12) (type seq : Nat) (f : LinkIn) (known : Bool) (check : State → Nat)
    (act : State → State) : State :=
  s.linkReceive n (frameTicks f.bytes.length) f.light fun s =>
    let s := s.linkHeard n
    if s.svRuns then s.linkAnswer n type seq f.bytes known check act else s

/-- Binding, refresh or rebinding by an IDENT (R288). (Log entry: 41 DEDUCED.) -/
def State.linkBind (s : State) (n : Fin 12) (p : List Byte) : State :=
  let hi := BitVec.ofNat 32 (payNat p 0 4)
  let lo := BitVec.ofNat 32 (payNat p 4 4)
  let info := fun (s : State) =>
    s.setFlds n [(LK_PINFO.CELLS, payNat p 8 1), (LK_PINFO.CHEM, payNat p 9 1), (LK_PINFO.VMAX, payNat p 14 2)]
  let id := fun (s : State) => info ((s.setReg .LK_ID_HI n hi).setReg .LK_ID_LO n lo)
  let fresh := fun (s : State) =>
    s.modLink n fun l => { l with limit := 0, out := none, queue := [], nextSeq := 0, report := none }
  if s.lst n ≠ lkBound then
    let s := fresh (id s)
    (s.setFlds n [(LK_STATUS.LSTATE, lkBound), (LK_STATUS.TAGE, 1), (LK_EVENT.BOUND, 1)]).startCheck n
  else if s.reg .LK_ID_HI n = hi ∧ s.reg .LK_ID_LO n = lo then info s
  else
    let s := s.linkWithdraw n true true
    let s := (fresh (id s)).setReg .LK_PTEMP n 0
    let s := s.setFlds n [(LK_STATUS.TAGE, 1), (LK_EVENT.REBIND, 1)]
    let s := if s.flag RL_MCTL.TSRC n then s.setFld RL_VOC.VALID n 0 else s
    s.startCheck n

/-- IDENT (R288). -/
def execIdent (n : Fin 12) (seq : Fin 16) (fr : LinkIn) (s : State) : Host.Outcome State Fault Refusal :=
  clocked s (s.linkFrame n 1 seq fr true
    (fun _ => if payNat fr.bytes 10 1 ≠ 1 ∨ payNat fr.bytes 8 1 < 1 ∨ 24 < payNat fr.bytes 8 1 ∨ payNat fr.bytes 14 2 = 0 then rFormat
      else rDone)
    (fun s => s.linkBind n fr.bytes))

/-- The pack voltage of a STATUS (R299). While TSRC is 0 the write comes from the source that is not selected, and is discarded with TWERR
(R214). RL_VOC has 20 bits; the spec states no value for a larger report, so that one is free. (Log entry: 7 DESIGN CHOICE.) -/
def State.takeVpack (s : State) (n : Fin 12) (v : Nat) : State :=
  if v = 0 then s
  else if !s.flag RL_MCTL.TSRC n then s.raise RL_MCTL.TWERR n
  else
    let f := s.field20 v
    (f.2.setFlds n [(RL_VOC.VOC, f.1), (RL_VOC.VALID, 1)]).startCheck n

/-- STATUS (R298, R299). -/
def execStatus (n : Fin 12) (seq : Fin 16) (fr : LinkIn) (s : State) : Host.Outcome State Fault Refusal :=
  clocked s (s.linkFrame n 2 seq fr true (fun _ => rDone) fun s =>
    let f := payNat fr.bytes 6 2
    let s := (s.takeVpack n (payNat fr.bytes 0 4)).setFld LK_STATUS.PFLAGS n f
    if bitAt f 0 ∨ bitAt f 2 then s.linkWithdraw n true true else s)

/-- TEMP (R300). -/
def execTemp (n : Fin 12) (seq : Fin 16) (fr : LinkIn) (s : State) : Host.Outcome State Fault Refusal :=
  let t := fun i => signedOf 16 (payNat fr.bytes i 2)
  clocked s (s.linkFrame n 3 seq fr true (fun _ => if t 4 ≤ t 0 ∧ t 0 ≤ t 2 then rDone else rFormat) fun s =>
    let s := s.modLink n fun l => { l with report := some { tavg := t 0, tmax := t 2, tmin := t 4, at_ := s.now } }
    s.setFlds n [(LK_PTEMP.TMAX, payNat fr.bytes 2 2), (LK_PTEMP.TMIN, payNat fr.bytes 4 2), (LK_STATUS.TAGE, 0)])

/-- VTARGET (R296). -/
def execVtarget (n : Fin 12) (seq : Fin 16) (fr : LinkIn) (s : State) : Host.Outcome State Fault Refusal :=
  let v := payNat fr.bytes 0 4
  clocked s (s.linkFrame n 4 seq fr true
    (fun s =>
      if !s.flag RL_MCTL.TSRC n then rHostctl
      else if s.fld RL_UV.MV n < v ∧ v < s.fld RL_OV.MV n ∧ v ≤ s.fld LK_PINFO.VMAX n * 10 ∧ v ≤ 1048575 then rDone else rRange)
    (fun s => s.linkTarget .RL_VTGT n (BitVec.ofNat 32 v)))

/-- ILIMIT (R297). -/
def execIlimit (n : Fin 12) (seq : Fin 16) (fr : LinkIn) (s : State) : Host.Outcome State Fault Refusal :=
  clocked s (s.linkFrame n 5 seq fr true (fun s => if s.flag RL_MCTL.TSRC n then rDone else rHostctl) fun s =>
    ((s.modLink n fun l => { l with limit := signedOf 16 (payNat fr.bytes 0 2) }).linkItgt n).startCheck n)

/-- An enable comes into force (R298, R301). A stop request that stands is not withdrawn by it (R302). -/
def State.linkGrant (s : State) (n : Fin 12) (f : Fld) : State :=
  ((s.setFlds n [(f, 1), (LK_STATUS.WDRUN, 1)]).linkItgt n).startCheck n

/-- CHGEN (R298). -/
def execChgen (n : Fin 12) (seq : Fin 16) (fr : LinkIn) (s : State) : Host.Outcome State Fault Refusal :=
  let v := payNat fr.bytes 0 1
  clocked s (s.linkFrame n 6 seq fr true (fun _ => if 1 < v then rFormat else rDone) fun s =>
    if v = 1 then s.linkGrant n LK_STATUS.CHG else s.linkWithdraw n true false)

/-- REVEN (R298). -/
def execReven (n : Fin 12) (seq : Fin 16) (fr : LinkIn) (s : State) : Host.Outcome State Fault Refusal :=
  let v := payNat fr.bytes 0 1
  clocked s (s.linkFrame n 7 seq fr true
    (fun s => if 1 < v then rFormat else if v = 1 ∧ !s.active.loop[n].revallow then rState else rDone) fun s =>
    if v = 1 then s.linkGrant n LK_STATUS.REV else s.linkWithdraw n false true)

/-- A pack's ACK (R294): it ends the outstanding NOTIFY of its SEQ when its sync word is complete by the end of the window, and is ignored
otherwise. It is not answered. (Log entry: 41 DEDUCED.) -/
def execNotifyAck (n : Fin 12) (seq : Fin 16) (fr : LinkIn) (s : State) : Host.Outcome State Fault Refusal :=
  clocked s (s.linkReceive n (frameTicks fr.bytes.length) fr.light fun s =>
    let s := s.linkHeard n
    match (s.link n).out with
    | none => s
    | some o =>
      if s.svRuns ∧ fr.bytes.length = 2 ∧ o.seq = seq.val ∧ s.now ≤ o.close + (4 + fr.bytes.length) * 16 * us
      then s.modLink n fun l => { l with out := none }
      else s)

/-- LINK_FORMAT_FRAME: a valid frame of a reserved or slot-only type, or of wrong length (R285). -/
def execLinkFormatFrame (n : Fin 12) (type seq : Fin 16) (fr : LinkIn) (s : State) : Host.Outcome State Fault Refusal :=
  clocked s (s.linkFrame n type seq fr false (fun _ => rFormat) (fun s => s))

/-- LINK_FRAME_DISCARD: a frame of `dur` ticks discarded whole, for the light where the light spoils it (R279, R281, R285), or light that
belongs to no frame. (Log entry: 41 DEDUCED.) -/
def execLinkFrameDiscard (n : Fin 12) (why : Discard) (dur : Nat) (light : LightIn) (s : State) : Host.Outcome State Fault Refusal :=
  clocked s (
    if why = .stray then (if s.lst n = lkOff then s else (s.linkBegun n (s.now - dur)).linkGlimpse n light)
    else s.linkReceive n dur light fun s => s.linkDiscard n why)

/-- The slot starts a frame as soon as the line discipline allows (R282): the tick comes, which is a frame boundary (R62), and the ACKs
that waited have been sent. -/
def State.lineTake (s : State) (n : Fin 12) : State :=
  let s := s.advance (s.lineFree n)
  (s.linkBegun n s.now).frameBoundary n

/-- BEACON: in SEARCH the slot sends a BEACON at each boundary with E mod 2441 = 0, or as soon after it as the line discipline allows
(R287, Table 10-4). The SEQ of a BEACON is not stated and is free. (Log entry: 7 DESIGN CHOICE.) -/
def execBeacon (n : Fin 12) (s : State) : Host.Outcome State Fault Refusal :=
  clocked s (
    if s.lst n ≠ lkSearch then s
    else
      let t := s.nextGrid (match (s.link n).beaconAt with
        | none => s.now
        | some e => if s.E = e then s.now + 1 else s.now) (2441 * 4096) 0
      let s := s.advance t
      let s := (s.modLink n fun l => { l with beaconAt := some s.E }).lineTake n
      let q := s.takeFree 4
      q.2.linkSend n s.now 0 q.1.toNat
        [BitVec.ofNat 8 (if s.flag LY_STATUS.NUMV 0 then s.fld LY_STATUS.MEMBER 0 else 0xFF), BitVec.ofNat 8 n.val, 1,
         BitVec.ofNat 8 (bit (s.rst n == stOff && !s.flag RL_STATUS.LOCKOUT n))])

/-- PACK_ABSENCE: no valid frame for 2 × WDOG (R289). -/
def execPackAbsence (n : Fin 12) (s : State) : Host.Outcome State Fault Refusal :=
  clocked s (
    if s.lst n ≠ lkBound then s
    else
      let s := s.advance ((s.link n).heardAt + 2 * (s.link n).wdog * ms)
      (s.linkLeave n lkSearch).raise LK_EVENT.GONE n)

/-- The outstanding NOTIFY sent once more, with the ticks of what follows it (R294): its window lasts 400 µs from its end, and a retry comes
5 ms + n × 0.25 ms after the window. -/
def State.sendNotify (s : State) (n : Fin 12) (ev : NoteEvent) (seq tries : Nat) : State :=
  let close := s.now + frameTicks 4 + 400 * us
  let due := if tries < s.linkRetry n then close + 5 * ms + n.val * 250 * us else close
  let s := s.modLink n fun l => { l with out := some { ev := ev, seq := seq, tries := tries, close := close, due := due } }
  s.linkSend n s.now 9 seq [BitVec.ofNat 8 ev.event, BitVec.ofNat 8 ev.cause, BitVec.ofNat 8 ev.state, 0]

/-- The slot's next NOTIFY begins: the oldest queued event, with the slot's own SEQ (R294). -/
def State.startNotify (s : State) (n : Fin 12) : State :=
  match (s.link n).queue with
  | [] => s
  | e :: r =>
    let q := (s.link n).nextSeq
    let s := s.modLink n fun l => { l with queue := r, nextSeq := (q + 1) % 16 }
    (s.setFld LK_STATUS.SLOTSEQ n q).sendNotify n e q 0

/-- NOTIFY: the slot sends the oldest queued event while none is outstanding (R294), as soon as the line discipline allows (R282). -/
def execNotify (n : Fin 12) (s : State) : Host.Outcome State Fault Refusal :=
  clocked s (
    if (s.link n).queue = [] ∨ (s.link n).out.isSome ∨ s.lst n ≠ lkBound then s else (s.lineTake n).startNotify n)

/-- NOTIFY_RETRY: the outstanding NOTIFY is retried, or dropped with NOTFAIL after its last retry (R294). -/
def execNotifyRetry (n : Fin 12) (s : State) : Host.Outcome State Fault Refusal :=
  clocked s (
    match (s.link n).out with
    | none => s
    | some o =>
      let s := s.advance o.due
      if o.tries < s.linkRetry n then (s.lineTake n).sendNotify n o.ev o.seq (o.tries + 1)
      else (s.modLink n fun l => { l with out := none }).raise LK_EVENT.NOTFAIL n)

/-- LINK_WATCHDOG_EXPIRY: no valid frame for WDOG while an enable is in force (R301). The expiry takes place once its tick is over, since
a frame that ends in the same tick forestalls it (R302). (Log entry: 41 DEDUCED.) -/
def execLinkWatchdogExpiry (n : Fin 12) (s : State) : Host.Outcome State Fault Refusal :=
  clocked s (
    if s.flag LK_STATUS.WDRUN n then
      let t := (s.link n).heardAt + (s.link n).wdog * ms
      (s.advance (t + 1)).asOf (max s.now t) fun s => (s.raise LK_EVENT.WDX n).linkWithdraw n true true
    else s)

/-- PACK_TEMP_REPORT_STALE: no TEMP within WDOG (R300). -/
def execPackTempReportStale (n : Fin 12) (s : State) : Host.Outcome State Fault Refusal :=
  clocked s (match (s.link n).report with
    | none => s
    | some r =>
      if s.flag LK_STATUS.TAGE n then s
      else (s.advance (r.at_ + s.linkWdog n * ms)).setFld LK_STATUS.TAGE n 1)

end Sys2Proof.Machine
end

