-- ==== Sys2Proof/Machine/Lanyard.lean ====
section
/-! DEFINITION. Machine/Lanyard.lean: the lanyard ring (chapter 12). The command of a frame stands at the tick at which its
first bit arrives at LYI or leaves LYO; the commands of its message types deliver what its message cell carries. -/
namespace Sys2Proof.Machine

/-- The modes of LY_STATUS.MODE (Table 12-7). -/
def lyOff : Nat := 0
def lyForming : Nat := 1
def lyRing : Nat := 2
def lyWrap : Nat := 3
def State.lyMode (s : State) : Nat := s.fld LY_STATUS.MODE 0

/-- The ring or its line runs. -/
def State.lyUp (s : State) : Bool := s.flag LY_CTRL.EN 0 && decide (lyRing ≤ s.lyMode)

/-- Own member number, and N. -/
def State.me (s : State) : Nat := s.fld LY_STATUS.MEMBER 0
def State.ringN (s : State) : Nat := s.fld LY_STATUS.NM1 0 + 1

/-- Start tokens at the head (Table 12-6). -/
def State.ntok (s : State) : Nat := min 32 (atLeast1 (s.fld LY_CTRL.NTOK 0))

/-- A local rail in the role of lead (1) or follower (2) of a group number. -/
def State.groupRail (s : State) (role group : Nat) : Option GroupE :=
  s.active.lanyard.groups.find? fun e => e.role == role && e.group == group

/-- MEMBER against the rigging (R340). -/
def State.memCheck (s : State) : State :=
  let m := s.active.lanyard.member
  let bad := s.active.optLanyard && m != 0xFF && s.flag LY_STATUS.NUMV 0 && m != s.me
  let s := if bad && !s.lan.memErr then s.raise LY_EVENT.MEMERR 0 else s
  s.modLan fun l => { l with memErr := bad }

/-- The measurement of the incoming hop from a round trip in taps (R339); whether it lies within 100 ns (R332). -/
def hopDelay (rt : Nat) : Nat := (rt - 2560) / 2
def hopOk (rt : Nat) : Bool := decide (hopDelay rt ≤ 1280)
def State.measureHop (s : State) (rt : Nat) : State := s.setFld LY_HOPD.INDLY 0 (min 65535 (hopDelay rt))

/-- The step Δ of R342 for the offset known, in ticks, and whether SYNCERR forbids it. -/
def State.ringStep (s : State) : Int × Bool :=
  let o := s.lan.ofs
  let m : Nat := max 1 (s.fld TB_SYNC.MULT 0)
  if s.flag TB_STATUS.LOCK 0 then
    let d := rhe o (64 * m) * m
    (d, decide (16 * m < (o - 64 * d).natAbs))
  else (rhe o 64, false)

/-- A member other than the head that knows the ring time. -/
def State.lyFollows (s : State) : Bool := !s.flag LY_STATUS.HEAD 0 && s.lan.stamped && s.lyUp

/-- LY_STATUS.TALIGN: Δ would be 0; and TSTEER: TBCLK follows the ring time (R343). (Log entry: 45 DESIGN CHOICE.) -/
def State.talign (s : State) : Bool := s.lyUp && (s.flag LY_STATUS.HEAD 0 || (s.lyFollows && s.ringStep.1 == 0))
def State.tsteer (s : State) : Bool := s.lyFollows && !s.flag TB_CTRL.SRC 0 && s.flag LY_CTRL.TFOLLOW 0

/-- The groups of a member that leaves ring and line forget their members. -/
def State.dropGroups (s : State) : State :=
  s.modLan fun l =>
    { l with groups := l.groups.map fun g =>
        { g with reports := [], heard := [], seen := false, age := 127, allOff := false, rptWas := none } }

/-- LY_CTRL.EN changes: with EN 0 both pairs rest (R332); with EN 1 the member waits for numbered frames (R338). -/
def State.lanEnable (s : State) (on : Bool) : State :=
  if on then s
  else
    let s := s.setFlds 0 [(LY_STATUS.MODE, 0), (LY_STATUS.LSTART, 0), (LY_STATUS.LEND, 0), (LY_STATUS.HELD, 0)]
    let s := s.modLan fun l =>
      { l with msgs := [], held := [], skip := false, sent := none, carried := [], rev := none, back := {}, repeats := []
               revSeqs := [], revMiss := 0, breaks := [], line := false, claimed := false, restoreAt := none, stamped := false
               tokenSeen := [], tokenMiss := [], masks := [], levels := [] }
    s.dropGroups.driftCheck.startChecks

/-- A live rail of an active group forbids EN 0 (Table 12-6). -/
def State.lanBusy (s : State) : Bool := (List.finRange 12).any fun (n : Fin 12) => s.groupActive n && s.live n

/-- A hop loss logged (Table 9-4, source 0x10): the third of a hop within 60 s is permanent and forbids a restore (R353). -/
def State.hopLost (s : State) (hop : Nat) : State :=
  let recent := s.lan.losses.filter fun e => decide (s.now < e.2 + 60000 * ms)
  let third := decide (2 ≤ (recent.filter fun e => e.1 == hop).length)
  let s := s.modLan fun l => { l with losses := (hop, s.now) :: recent }
  let s := if third then s.setFld LY_STATUS.PERMWRAP 0 1 else s
  s.classify 0x10 hop (if third then clsPerm else clsTrans) none 0 0

/-- The incoming hop of a member is lost and the member is the line start; or its outgoing one, and it is the line end (R332, R351). -/
def State.loseIn (s : State) : State := (s.setFlds 0 [(LY_EVENT.HOPIN, 1), (LY_STATUS.LSTART, 1)]).hopLost 0
def State.loseOut (s : State) : State := (s.setFlds 0 [(LY_STATUS.LEND, 1), (LY_EVENT.HOPOUT, 1)]).hopLost 1

/-- RING_FORM_START: a member that receives no numbered frame measures its incoming hop and starts forming with a CLAIM (R338, R339). `rt`
is the round trip in taps. (Log entry: 44 DEDUCED.) -/
def execRingFormStart (rt : Nat) (s : State) : Host.Outcome State Fault Refusal :=
  clocked s (
    if !s.flag LY_CTRL.EN 0 ∨ lyRing ≤ s.lyMode then s
    else
      let s := s.measureHop rt
      let s := s.setFlds 0 [(LY_STATUS.MODE, lyForming), (LY_STATUS.HEAD, 0), (LY_STATUS.NUMV, 0), (LY_STATUS.LSTART, 0),
        (LY_STATUS.LEND, 0)]
      let s := if hopOk rt then s else s.loseIn
      let s := s.dropGroups.modLan fun l => { l with claimed := true, stamped := false, line := false, breaks := [], revMiss := 0 }
      s.lanMsg 1 0xFF [BitVec.ofNat 8 (s.fld HB_ADDR.ADDR 0)])

/-- CLAIM: a lower address is forwarded, a higher one replaced by the own, and the own one elects the head (R338). -/
def execClaim (addr : Nat) (s : State) : Host.Outcome State Fault Refusal :=
  clocked s (
    let own := s.fld HB_ADDR.ADDR 0
    if !s.flag LY_CTRL.EN 0 ∨ s.lyMode ≠ lyForming then s
    else if addr = own then
      if s.lan.claimed then
        let s := s.setFlds 0 [(LY_STATUS.HEAD, 1), (LY_STATUS.NUMV, 1), (LY_STATUS.MEMBER, 0)]
        (s.memCheck.modLan fun l => { l with claimed := false }).lanMsg 2 0xFF [0]
      else s
    else if addr < own then (s.modLan fun l => { l with claimed := false }).lanMsg 1 0xFF [BitVec.ofNat 8 addr]
    else (s.modLan fun l => { l with claimed := true }).lanMsg 1 0xFF [BitVec.ofNat 8 own])

/-- The other members as a device that comes up on a ring of N takes them: every one present, none with a report yet (R354, R356). (Log
entry: 45 DESIGN CHOICE.) -/
def State.freshMembers (s : State) (n : Nat) : State :=
  s.modLan fun l => { l with memberAt := s.now, heardNow := [], heardLast := List.range n, masks := [], levels := [] }

/-- A message WRAP of this member: a loss with itself as the line start, or a restore at an epoch (Table 12-3). -/
def State.sendWrap (s : State) (kind epoch : Nat) : State :=
  s.lanMsg 8 0xFF ([BitVec.ofNat 8 s.me, BitVec.ofNat 8 kind] ++ (beBytes 6 epoch).map (BitVec.ofNat 8))

/-- Formation completes with N members (R338): MODE is ring, or wrap where a hop is missing, and FORMED sets. A line start tells of the
loss, from which the line end knows itself (R351). -/
def State.ringFormed (s : State) (n : Nat) : State :=
  let line := s.flag LY_STATUS.LSTART 0 || s.lan.line
  let s := s.setFlds 0 [(LY_STATUS.NM1, n - 1), (LY_STATUS.MODE, if line then lyWrap else lyRing), (LY_EVENT.FORMED, 1)]
  let s := if s.flag LY_STATUS.LSTART 0 then s.sendWrap 0 0 else s
  ((s.modLan fun l => { l with heardAt := s.now }).freshMembers n).driftCheck.startChecks

/-- NUMBER: an unnumbered member takes the count plus 1 and passes it on; at the head N is the count plus 1, which it broadcasts,
with the start tokens; a numbered member learns N (R338, R355). -/
def execNumber (count : Nat) (s : State) : Host.Outcome State Fault Refusal :=
  clocked s (
    if !s.flag LY_CTRL.EN 0 ∨ s.lyMode ≠ lyForming then s
    else if s.flag LY_STATUS.HEAD 0 then
      let s := (s.ringFormed (count + 1)).lanMsg 2 0xFF [BitVec.ofNat 8 (count + 1)]
      (List.range s.ntok).foldl (fun (s : State) i => s.lanMsg 4 0xFF [BitVec.ofNat 8 i]) s
    else if s.flag LY_STATUS.NUMV 0 then s.ringFormed (max 1 count)
    else
      let s := s.setFlds 0 [(LY_STATUS.NUMV, 1), (LY_STATUS.MEMBER, count + 1)]
      s.memCheck.lanMsg 2 0xFF [BitVec.ofNat 8 (count + 1)])

/-- MEMBER_JOIN: a member that comes up on an existing ring takes SRCM + 1 of its upstream neighbour's probe modulo N, measures
its hop and forwards; the ring stays wrapped until it restores (R340). A hop beyond 100 ns counts as lost (R332). Member 0 is the head
(R338). -/
def execMemberJoin (srcm n rt : Nat) (s : State) : Host.Outcome State Fault Refusal :=
  clocked s (
    if !s.flag LY_CTRL.EN 0 ∨ lyRing ≤ s.lyMode then s
    else
      let s := s.measureHop rt
      if !hopOk rt then (s.raise LY_EVENT.HOPIN 0).hopLost 0
      else
        let n := max 1 n
        let s := s.setFlds 0 [(LY_STATUS.NUMV, 1), (LY_STATUS.MEMBER, (srcm + 1) % n), (LY_STATUS.NM1, n - 1),
          (LY_STATUS.MODE, lyWrap)]
        let s := if (srcm + 1) % n = 0 then s.setFld LY_STATUS.HEAD 0 1 else s
        ((s.memCheck.modLan fun l => { l with heardAt := s.now }).freshMembers n).driftCheck.startChecks)

/-- The order in which waiting messages are sent (R337). -/
def msgRank (type : Nat) : Nat :=
  match type with
  | 4 => 0
  | 5 => 1
  | 6 => 1
  | 8 => 2
  | 3 => 3
  | 7 => 4
  | _ => 5

/-- The message that goes next, and the rest. -/
def nextMsg (ms : List LyMsg) : Option (LyMsg × List LyMsg) :=
  match sortBy (fun (a b : LyMsg) => decide (msgRank a.type ≤ msgRank b.type)) ms with
  | [] => none
  | m :: _ => some (m, ms.erase m)

/-- A waiting message put into an empty cell of a ring-direction or a reverse frame (R337). -/
def State.fillCell (s : State) (c : LyMsg) (rev : Bool) : LyMsg × State :=
  if c.type ≠ 0 then (c, s)
  else match nextMsg s.lan.msgs with
    | none => (c, s)
    | some (m, r) => (m, s.modLan fun l => { l with msgs := r, revSeqs := if rev then (m.seq :: l.revSeqs).take 256 else l.revSeqs })

/-- A message of this member's own is back after it has been everywhere (R337, R352): in a ring where it arrives, in a line once it has
passed both ends, so that it comes in the direction in which it set out, or to the end at which it has turned. (Log entry: 44 DEDUCED.) -/
def State.ownBack (s : State) (c : LyMsg) (rev : Bool) : Bool :=
  c.src == s.me && (s.lyMode != lyWrap || rev == s.lan.revSeqs.contains c.seq || s.flag (if rev then LY_STATUS.LSTART else LY_STATUS.LEND) 0)

/-- A message cell at this member (R334, R337, R352): a failed one is counted, and emptied by the head; one for this member, and
one of its own that has been everywhere, is emptied; an empty one takes a waiting message. -/
def State.passCell (s : State) (c : LyMsg) (rev : Bool) : LyMsg × State :=
  if !c.ok then
    let s := s.bump LY_ERRC.SCNT 0
    if s.flag LY_STATUS.HEAD 0 then s.fillCell {} rev else (c, s)
  else
    let own := s.ownBack c rev
    let home := c.type != 0 && s.flag LY_STATUS.NUMV 0 && (c.dst == s.me || own)
    let s := if home ∧ own then s.modLan fun l => { l with revSeqs := l.revSeqs.filter (· != c.seq) } else s
    s.fillCell (if home then {} else c) rev

/-- The command slot word of a lead (Table 12-2, R347), after what was due at its rail by now. (Log entry: 7 DESIGN CHOICE.) -/
def State.leadWord (s : State) (n : Fin 12) (group : Nat) : Nat × State :=
  let s := s.respTo n s.now
  let g := s.group n
  let r : Int × State :=
    if g.num = 0 then
      let q := s.takeFree 16
      (signedOf 16 q.1.toNat, q.2)
    else (clampInt (-32768) 32767 (rhe (rhe g.sum g.num) (s.nspl n)), s)
  let s := r.2
  let cnt := (g.cnt + 1) % 8
  let facet := match (s.rail n).mode.facetNext with
    | some e => e.2.1.val
    | none => (s.rail n).mode.facet.val
  let s := s.modGroup n fun x => { x with sum := 0, num := 0, cnt := cnt, icmd := r.1, age := 0 }
  (2 ^ 39 + bit (s.fld RL_TRSTAT.ACT n == 2) * 2 ^ 38 + s.rst n * 2 ^ 34 + facet * 2 ^ 31 + cnt * 2 ^ 28 + group % 1024 * 2 ^ 18
    + g.fepo % 4 * 2 ^ 16 + unsignedOf 16 r.1, s)

/-- Whether a slot carries a command of a group, and whether it is empty (R335). -/
def slotCarries (x : LySlot) (group : Nat) : Bool := x.ok && bitAt x.w 39 && bitsOf x.w 18 10 == group
def slotFree (x : LySlot) : Bool := x.ok && x.w == 0

/-- The slots with the commands of this member's active groups as lead (R336). -/
def State.leadSlots (s : State) (xs : Vector LySlot 12) : Vector LySlot 12 × State :=
  (List.finRange 12).foldl (fun (a : Vector LySlot 12 × State) (n : Fin 12) =>
    match a.2.groupOf n with
    | none => a
    | some g =>
      if g.role ≠ 1 ∨ !a.2.groupActive n then a
      else
        let at_ := match (List.finRange 12).find? fun (i : Fin 12) => slotCarries a.1[i] g.group with
          | some i => some i
          | none => (List.finRange 12).find? fun (i : Fin 12) => slotFree a.1[i]
        match at_ with
        | none => a
        | some i =>
          let w := a.2.leadWord n g.group
          (a.1.set i { w := w.1 }, w.2)) (xs, s)

/-- The slots that a follower of the last IDX empties (R336). -/
def State.tailSlots (s : State) (xs : Vector LySlot 12) : Vector LySlot 12 :=
  xs.map fun x => if s.active.lanyard.groups.any (fun g => g.role == 2 && g.idx + 1 == g.nmem && slotCarries x g.group) then {} else x

/-- A bell boundary after tick `t` whose E[1:0] is a value (R348). -/
def State.fepoTick (s : State) (t fepo : Nat) : Nat := s.nextGrid (t + 1) 16384 (fepo % 4 * 4096)

/-- The state that a slot names for a follower (R346), its contactor driven from CLOSE to RAMPDOWN (Table 8-1). -/
def State.followState (s : State) (n : Fin 12) (st fepo r : Nat) : State :=
  let now := s.rst n
  let on := fun (s : State) => (s.moving n).setCont n true
  if now = stOff then
    if st = stPrematch ∧ s.railPhases n ≠ [] then s.enterPrematch n (s.fepoTick r fepo) else s
  else if !s.live n || now == stFault then s
  else if st = stFault ∨ st = stRetired then s.toFault n 21
  else if now = st then s
  else match st with
    | 0 => s.enterOff n
    | 2 => (on s).enterClose n
    | 3 => (on s).enterRamp n
    | 4 => (on s).enter n stRegulate
    | 5 => (on s).enterRampdown n
    | 6 => s.enterOpen n
    | _ => s

/-- The all-off of the lead is asked for at its follower from tick `c`, or its end (R200, R346). (Log entry: 36 DEDUCED.) -/
def State.followOff (s : State) (n : Fin 12) (off : Bool) (c : Nat) : State :=
  let last := (s.rail n).man.reqs.foldl (fun a (r : RespReq) =>
    if r.kind = .leadOff then true else if r.kind = .leadEnd then false else a) (s.group n).allOff
  if last = off then s else s.askResp n { at_ := c, kind := if off then .leadOff else .leadEnd }

/-- A facet that the lead announces (R348): it comes into force, with PRE 1, at the boundary that FEPO names. -/
def State.followFacet (s : State) (n : Fin 12) (f : Fin 8) (fepo r : Nat) : State :=
  let cur := match (s.rail n).mode.facetNext with
    | some e => e.2.1
    | none => (s.rail n).mode.facet
  let s := s.modGroup n fun g => { g with fepo := fepo }
  if !s.live n || f == cur then s
  else
    let s := s.modMode n fun m => { m with facetNext := some (s.fepoTick r fepo, f, true), facetFirst := true }
    s.setFlds n [(RL_FCTL.PEND, 1), (RL_FCTL.PFACET, f)]

/-- A valid slot of a follower's group, whose last byte is received at tap `at_` of the tick count (R346 to R348). (Log entry: 44
DEDUCED.) -/
def State.followSlot (s : State) (n : Fin 12) (w at_ : Nat) : State :=
  let r := at_ / 64
  let icmd := signedOf 16 (bitsOf w 0 16)
  let s := s.modGroup n fun g =>
    { g with seen := true, age := 0, icmd := icmd, cnt := bitsOf w 28 3
             iset := (((at_ + 191) / 64, icmd) :: g.iset).take 8 }
  let s := s.followState n (bitsOf w 34 4) (bitsOf w 16 2) r
  let s := s.followFacet n (facetOf (bitsOf w 31 3)) (bitsOf w 16 2) r
  s.followOff n (bitAt w 38) (r + 1)

/-- A frame has passed: the count of frames without a valid slot of each group (R344, R346). -/
def State.ageGroups (s : State) : State :=
  s.forRails fun s n => if (s.groupOf n).isSome then s.modGroup n fun x => { x with age := min 127 (x.age + 1) } else s

/-- The slots of a frame that arrived at tap `at_` (R335, R344, R346): failed ones are counted; each follower takes the first valid slot
of its group, and a second slot of a group is a group error. (Log entry: 44 DEDUCED.) -/
def State.readSlots (s : State) (xs : Vector LySlot 12) (at_ : Nat) : State :=
  let s := s.ageGroups
  let s := (List.finRange 12).foldl (fun (s : State) (i : Fin 12) => if xs[i].ok then s else s.bump LY_ERRC.SCNT 0) s
  s.forRails fun s n =>
    match s.groupOf n with
    | none => s
    | some g =>
      let mine := (List.finRange 12).filter fun (i : Fin 12) => slotCarries xs[i] g.group
      let s := if 1 < mine.length then s.raise LY_EVENT.GRPERR 0 else s
      if g.role ≠ 2 ∨ s.lan.memErr then s
      else match mine with
        | [] => s
        | i :: _ => s.followSlot n xs[i].w (at_ + ((18 + 6 * i.val) * 1024 + 9) / 10)

/-- What the head does to the slots it forwards (R334, R336): failed ones, and those unchanged since the frame before, are
emptied. -/
def State.headSlots (s : State) (xs : Vector LySlot 12) : Vector LySlot 12 × State :=
  let old := s.lan.prevW
  let s := s.modLan fun l => { l with prevW := Vector.ofFn fun (i : Fin 12) => xs[i].w }
  (Vector.ofFn fun (i : Fin 12) => if !xs[i].ok || (xs[i].w != 0 && xs[i].w == old[i]) then {} else xs[i], s)

/-- Messages that are due again (R357). -/
def State.dueRepeats (s : State) : State :=
  let due := s.lan.repeats.filter fun e => decide (e.1 ≤ s.now)
  let s := s.modLan fun l => { l with repeats := l.repeats.filter fun e => !decide (e.1 ≤ s.now) }
  due.foldl (fun (s : State) e =>
    s.lanMsg 5 0xFF ([BitVec.ofNat 8 e.2.actid, BitVec.ofNat 8 e.2.kind] ++
      (List.range 6).map fun i => BitVec.ofNat 8 (e.2.epoch / 2 ^ (8 * (5 - i))))) s

/-- The ring time at a tick of this member, in taps of 64 bits (R341). -/
def State.stampAt (s : State) (t : Nat) : Nat :=
  let own : Int := ((s.absAt t * 64 : Nat) : Int)
  ((if s.flag LY_STATUS.HEAD 0 || !s.lan.stamped then own else own + s.lan.ofs) % (2 ^ 64 : Nat)).toNat

/-- The sender's mark of a frame (Table 12-1). -/
def State.srcm (s : State) : Nat := if s.flag LY_STATUS.NUMV 0 then s.me else 0xFF

/-- A member that starts frames of its own (R333, R338, R351): the head, a forming member until it has its number, and a line start. -/
def State.startsFrames (s : State) : Bool :=
  let m := s.lyMode
  s.flag LY_CTRL.EN 0 && ((m == lyForming && (s.flag LY_STATUS.HEAD 0 || !s.flag LY_STATUS.NUMV 0))
    || (m == lyRing && s.flag LY_STATUS.HEAD 0) || (m == lyWrap && s.flag LY_STATUS.LSTART 0))

/-- A line without a reverse frame for four ring-direction frames ends here (R351, Table 12-5). (Log entry: 45 DESIGN CHOICE.) -/
def State.lineFrame (s : State) : State :=
  if s.lyMode ≠ lyWrap ∨ s.flag LY_STATUS.LEND 0 then s
  else
    let s := s.modLan fun l => { l with revMiss := l.revMiss + 1 }
    if 4 < s.lan.revMiss then s.loseOut else s

/-- LANYARD_FRAME_START: the head at each tick of its grid with T mod 200 = 0, a line start every 480 ticks, and a forming member on its
own grid start a frame, with what has been received whole to carry on (R333, R338, R351). (Log entry: 44 DEDUCED.) -/
def execLanyardFrameStart (s : State) : Host.Outcome State Fault Refusal :=
  clocked s (
    let m := s.lyMode
    let line := m == lyWrap && s.flag LY_STATUS.LSTART 0
    if !s.startsFrames then s
    else
      let after := if s.lan.sent.isSome ∧ s.now ≤ s.lan.sentAt then s.lan.sentAt + 1 else s.now
      let t := if line then (if s.lan.sent.isSome then max s.now (s.lan.sentAt + 480) else s.now) else s.nextGrid after 200 0
      let s := (s.advance t).dueRepeats
      let whole := s.lan.carried.find? fun e => decide (e.1 + 200 ≤ s.now)
      let base := (whole.map (·.2)).getD {}
      let s := match whole with
        | some e => s.modLan fun l => { l with carried := l.carried.erase e }
        | none => s
      let xs : Vector LySlot 12 × State := if m == lyForming then (Vector.replicate 12 {}, s)
        else
          let a := s.leadSlots base.slots
          if line then (a.1, a.2.ageGroups.lineFrame) else a
      let c := xs.2.fillCell base.msg false
      let s := c.2
      let f : LyFrame :=
        { form := m == lyForming, wrap := m == lyWrap || (m == lyForming && s.flag LY_STATUS.LSTART 0), restp := s.lan.restoreAt.isSome
          srcm := s.srcm, stamp := s.stampAt s.now, slots := xs.1, msg := c.1 }
      s.modLan fun l => { l with sent := some f, sentAt := s.now })

/-- Wrap mode is entered (R351). -/
def State.enterWrap (s : State) : State := (s.setFld LY_STATUS.MODE 0 lyWrap).startChecks

/-- The offset of a received stamp (R341, R342). The spec states no value of OFS for an offset beyond 32 bits: that one is free. (Log
entry: 7 DESIGN CHOICE.) -/
def State.takeStamp (s : State) (tap stamp : Nat) : State :=
  if s.flag LY_STATUS.HEAD 0 then s
  else
    let o := signedOf 64 (unsignedOf 64 ((stamp + s.fld LY_HOPD.INDLY 0 : Nat) - ((s.T * 64 + tap : Nat) : Int)))
    let q := if o.natAbs < 2 ^ 31 then (o, s) else
      let f := s.takeFree 32
      (f.1.toInt, f.2)
    let s := (q.2.setFldS LY_TOFS.OFS 0 q.1).modLan fun l => { l with ofs := o, stamped := true }
    if s.ringStep.2 then s.raise LY_EVENT.SYNCERR 0 else s

/-- A frame or cell that the next frame started here carries on, once it is received whole (R333). (Log entry: 44 DEDUCED.) -/
def State.carry (s : State) (f : LyFrame) : State := s.modLan fun l => { l with carried := l.carried ++ [(s.now, f)] }

/-- A frame forwarded by cut-through: its first bit leaves LYO 200 ns after it arrived (R333). -/
def State.cutThrough (s : State) (f : LyFrame) : State := s.modLan fun l => { l with sent := some f, sentAt := s.now + 40 }

/-- STAMP of a frame forwarded (R341): the head writes its own T at the departure, any other member the ring time of the arrival and its
own 200 ns. -/
def State.stampOn (s : State) (stamp : Nat) : Nat :=
  if s.flag LY_STATUS.HEAD 0 then s.stampAt (s.now + 40) else (stamp + s.fld LY_HOPD.INDLY 0 + 2560) % 2 ^ 64

/-- The reverse frame that answers a ring-direction frame, 200 ns after its end, with the cell that waits for it (R352). (Log entry: 44
DEDUCED.) -/
def State.sendRev (s : State) (stamp : Nat) : State :=
  let b := s.fillCell s.lan.back true
  b.2.modLan fun l =>
    { l with back := {}, rev := some { wrap := true, rev := true, srcm := b.2.srcm, stamp := stamp, msg := b.1 }, revAt := b.2.now + 240 }

/-- A ring-direction frame of a running ring or line (R334 to R337, R341, R352). (Log entry: 44 DEDUCED.) -/
def State.takeFrame (s : State) (tap : Nat) (f : LyFrame) : State :=
  let s := s.modLan fun l => { l with heardAt := s.now }
  let s := if f.wrap ∧ s.lyMode = lyRing then s.enterWrap else s
  let s := ((s.takeStamp tap f.stamp).readSlots f.slots (s.now * 64 + tap)).lineFrame
  let s := s.dueRepeats
  let head := s.flag LY_STATUS.HEAD 0
  let xs : Vector LySlot 12 × State := if head then s.headSlots f.slots else (f.slots, s)
  let s := xs.2
  let ys := s.tailSlots xs.1
  if head ∧ s.lyMode = lyRing then
    let c := s.passCell f.msg false
    c.2.carry { slots := ys, msg := c.1 }
  else
    let zs := s.leadSlots ys
    let c := zs.2.passCell f.msg false
    let s := c.2
    let stamp := s.stampOn f.stamp
    let g := { f with slots := zs.1, msg := c.1, stamp := stamp, srcm := s.srcm, wrap := decide (s.lyMode = lyWrap), hcrc := none }
    if s.lyMode ≠ lyWrap then s.cutThrough g
    else if s.flag LY_STATUS.LEND 0 then (s.sendRev stamp).modLan fun l => { l with back := c.1 }
    else (s.sendRev stamp).cutThrough g

/-- A ring-direction frame at a member that forms (R338): with its number it forwards by cut-through, and before it the frame's message
acts through its command; a cell whose check fails is counted and carried on, but for the head (R334). (Log entry: 44 DEDUCED.) -/
def State.takeForming (s : State) (f : LyFrame) : State :=
  let s := s.modLan fun l => { l with heardAt := s.now, line := l.line || f.wrap }
  if s.flag LY_STATUS.NUMV 0 ∧ !s.flag LY_STATUS.HEAD 0 then
    let c := s.passCell f.msg false
    c.2.cutThrough { f with msg := c.1, stamp := c.2.stampOn f.stamp, srcm := c.2.srcm, hcrc := none }
  else if f.msg.ok then s
  else
    let s := s.bump LY_ERRC.SCNT 0
    if s.flag LY_STATUS.HEAD 0 then s else s.carry { msg := f.msg }

/-- A frame whose HCRC failed is passed on, and nothing of it is used (R334): the head empties what failed of the slots and the message
cell that it forwards, and a reverse frame or a line end passes the message cell on. It counts as a frame without a valid slot (R346).
(Log entry: 44 DEDUCED.) -/
def State.passUnused (s : State) (f : LyFrame) : State :=
  let head := s.flag LY_STATUS.HEAD 0
  let cell : LyMsg := if head && !f.msg.ok then {} else f.msg
  if f.rev then
    if s.lyMode ≠ lyWrap then s
    else if s.flag LY_STATUS.LSTART 0 then s.carry { msg := cell } else s.modLan fun l => { l with back := cell }
  else if s.lyMode = lyForming then
    if s.flag LY_STATUS.NUMV 0 ∧ !head then s.cutThrough f else s.carry { msg := cell }
  else if s.flag LY_STATUS.LSTART 0 then s
  else
    let s := s.ageGroups
    let xs : Vector LySlot 12 × State := if head then s.headSlots f.slots else (f.slots, s)
    let s := xs.2
    if head ∧ s.lyMode = lyRing then s.carry { slots := xs.1, msg := cell }
    else if s.flag LY_STATUS.LEND 0 then s.modLan fun l => { l with back := cell }
    else s.cutThrough { f with slots := xs.1, msg := cell }

/-- LANYARD_FRAME_RECEIVE: the first bit of a frame arrives, `tap` taps into the tick (R333 to R337, R341, R352). A frame whose HCRC fails
is counted and passed on unused; a reverse frame carries its message cell alone; what reaches a line start in ring direction is a probe.
(Log entry: 44 DEDUCED.) -/
def execLanyardFrameReceive (tap : Fin 64) (x : LyWire) (s : State) : Host.Outcome State Fault Refusal :=
  let f := frameOf x.bytes
  clocked s (
    if !s.flag LY_CTRL.EN 0 ∨ s.lyMode = lyOff then s
    else
      let s := if f.rev then s.modLan fun l => { l with revMiss := 0 } else s
      if !f.hcrcOk then (s.bump LY_ERRC.HCNT 0).passUnused f
      else if f.rev then
        if s.lyMode ≠ lyWrap then s
        else
          let c := s.passCell f.msg true
          if s.flag LY_STATUS.LSTART 0 then c.2.carry { msg := c.1 } else c.2.modLan fun l => { l with back := c.1 }
      else if s.lyMode = lyForming then s.takeForming f
      else if f.form ∨ s.flag LY_STATUS.LSTART 0 then s
      else s.takeFrame tap.val f)

/-- The member of IDX `i` of a group led from here lies past a break of the line: it is reached only against the ring direction (R349,
R350). (Log entry: 44 DEDUCED.) -/
def State.pastBreak (s : State) (i : Nat) : Bool :=
  s.lyMode == lyWrap && s.lan.breaks.any fun b =>
    let d := (b + s.ringN - s.me) % s.ringN
    decide (0 < d ∧ d ≤ i)

/-- SPANRPT: a member's report reaches this device (R344, R350); one that fits no group of a local lead is a group error, and one from past
a break attaches no member. -/
def execSpanrpt (src : Nat) (r : SpanRpt) (s : State) : Host.Outcome State Fault Refusal :=
  clocked s (
    if !s.lyUp then s
    else match s.groupRail 1 r.group with
      | none => if (s.groupRail 2 r.group).isSome then s.raise LY_EVENT.GRPERR 0 else s
      | some g =>
        if 1 ≤ r.idx ∧ r.idx < g.nmem ∧ src = (s.me + r.idx) % s.ringN then
          let s := s.modGroup g.rail fun x =>
            { x with reports := (if s.pastBreak r.idx then [] else [(r.idx, r, s.now)]) ++ x.reports.filter fun e => !(e.1 == r.idx)
                     heard := if x.heard.contains r.idx then x.heard else r.idx :: x.heard }
          s.driftCheck.startCheck g.rail
        else s.raise LY_EVENT.GRPERR 0)

/-- The payload of a follower's report (Table 12-3). -/
def State.spanPayload (s : State) (n : Fin 12) (g : GroupE) : List Byte :=
  let x := (s.rail n).sense
  be16 g.group ++ [BitVec.ofNat 8 g.idx, BitVec.ofNat 8 (s.rst n), BitVec.ofNat 8 (s.fld RL_STATUS.CAUSE n)] ++ be16 (s.nspl n)
    ++ [BitVec.ofNat 8 (s.fld TB_STATUS.LOCK 0 + 2 * bit s.talign)]
    ++ be32 x.vf ++ be32 (unsignedOf 32 x.iF) ++ be32 (unsignedOf 32 x.pf)

/-- SPANRPT_SEND: a follower reports to its lead, at once when its NSPL, its state or LOCK has changed since its last report and 256 bells
after that one otherwise (R350). (Log entry: 44 DEDUCED.) -/
def execSpanrptSend (n : Fin 12) (s : State) : Host.Outcome State Fault Refusal :=
  clocked s (match s.groupOf n with
    | none => s
    | some g =>
      if g.role = 2 ∧ s.lyUp then
        let is := (s.nspl n, s.rst n, s.flag TB_STATUS.LOCK 0)
        let s := if (s.group n).rptWas = some is then s.advance ((s.group n).rptAt + 256 * 4096) else s
        let s := s.modGroup n fun x => { x with rptAt := s.now, rptWas := some is }
        s.lanMsg 3 ((s.me + s.ringN - g.idx) % s.ringN) (s.spanPayload n g)
      else s)

/-- A member of a lead's group is detached (R350). -/
def State.detach (s : State) (n : Fin 12) (i : Nat) : State :=
  if (s.group n).reports.any fun e => e.1 == i then
    let s := s.modGroup n fun g => { g with reports := g.reports.filter fun e => !(e.1 == i) }
    ((s.raise LY_EVENT.DETACH 0).driftCheck).startCheck n
  else s

/-- SPAN_ATTACH_TIMEOUT: no report of a member for 1024 bells (R350). -/
def execSpanAttachTimeout (n : Fin 12) (idx : Fin 8) (s : State) : Host.Outcome State Fault Refusal :=
  clocked s (match (s.group n).reports.find? fun e => e.1 == idx.val with
    | none => s
    | some e => (s.advance (e.2.2 + 1024 * 4096)).detach n idx)

/-- SPAN_SLOT_TIMEOUT: 64 frames have passed without a valid slot, and the follower enters FAULT with cause SPANLOSS (R346). -/
def execSpanSlotTimeout (n : Fin 12) (s : State) : Host.Outcome State Fault Refusal :=
  clocked s (
    if s.follower n ∧ (s.group n).seen ∧ 64 ≤ (s.group n).age then
      (s.modGroup n fun g => { g with seen := false, allOff := false }).toFault n 21
    else s)

/-- A cell that holds the free token `i`. -/
def holdsToken (i : Nat) (c : LyMsg) : Bool := c.type == 4 && c.payload.head? == some (BitVec.ofNat 8 i)

/-- A token is taken out of the frame or cell in which this member passes it on, and a waiting message takes its place (R337). -/
def State.takeToken (s : State) (i : Nat) : State :=
  let s := match s.lan.sent with
    | some f =>
      if holdsToken i f.msg then
        let c := s.fillCell {} f.rev
        c.2.modLan fun l => { l with sent := some { f with msg := c.1 } }
      else s
    | none => s
  let s := match s.lan.rev with
    | some f =>
      if holdsToken i f.msg then
        let c := s.fillCell {} true
        c.2.modLan fun l => { l with rev := some { f with msg := c.1 } }
      else s
    | none => s
  s.modLan fun l =>
    { l with back := if holdsToken i l.back then {} else l.back
             carried := l.carried.map fun e => if holdsToken i e.2.msg then (e.1, { e.2 with msg := {} }) else e }

/-- TOKEN: a free token reaches this member (R355, R356). -/
def execToken (i : Nat) (s : State) : Host.Outcome State Fault Refusal :=
  clocked s (
    if !s.lyUp then s
    else
      let head := s.flag LY_STATUS.HEAD 0
      let s := if head then s.modLan fun l => { l with tokenSeen := i :: l.tokenSeen.filter (· != i) } else s
      if head ∧ (s.ntok ≤ i ∨ s.lan.held.any (fun e => e.1 == i) ∨ s.lan.masks.any fun e => bitAt e.2 i) then s.takeToken i
      else if !s.flag PR_START.RINGTOK 0 then s
      else if s.lan.skip then s.modLan fun l => { l with skip := false }
      else match s.grantable with
        | none => s
        | some n =>
          if s.lan.held.any fun e => e.2 == n then s
          else
            let s := (s.takeToken i).modLan fun l => { l with held := l.held ++ [(i, n)], skip := true }
            s.setFld LY_STATUS.HELD 0 s.lan.held.length)

/-- The head duties of a lost head (R354, Table 12-5): in wrap mode the member that has heard of none with a lower number in two periods
of MEMBER takes them, and one that hears of a lower number gives them up. (Log entry: 45 DESIGN CHOICE.) -/
def State.takeDuties (s : State) : State :=
  if s.lyMode = lyWrap ∧ !s.flag LY_STATUS.HEAD 0 ∧ !(s.lan.heardNow ++ s.lan.heardLast).any (fun m => decide (m < s.me))
  then s.setFld LY_STATUS.HEAD 0 1 else s
def State.giveDuties (s : State) (src : Nat) : State :=
  if s.flag LY_STATUS.HEAD 0 ∧ src < s.me then s.setFld LY_STATUS.HEAD 0 0 else s

/-- MEMBER: what another member holds, and the levels its firmware reports (R354, R356, R410). (Log entry: 45 DESIGN CHOICE.) -/
def execMember (src : Nat) (payload : List Byte) (s : State) : Host.Outcome State Fault Refusal :=
  clocked s (
    if !s.lyUp then s
    else (s.giveDuties src).modLan fun l =>
      { l with heardNow := src :: l.heardNow.filter (· != src)
               masks := (src, payNat payload 0 4) :: l.masks.filter fun e => !(e.1 == src)
               levels := (src, payNat payload 6 1, payNat payload 7 1, bitAt (payNat payload 8 1) 0)
                 :: l.levels.filter fun e => !(e.1 == src) })

/-- The head's count of one token (R356): seen free, found in a mask of this period, held, or missed; after two periods it is made
again. -/
def State.countToken (s : State) (i : Nat) : State :=
  let l := s.lan
  let there := l.tokenSeen.contains i || l.masks.any (fun e => l.heardNow.contains e.1 && bitAt e.2 i) || l.held.any (fun e => e.1 == i)
  let miss := if there then 0 else (match l.tokenMiss.find? fun e => e.1 == i with
    | some e => e.2 + 1
    | none => 1)
  let s := s.modLan fun l =>
    { l with tokenMiss := (i, if 2 ≤ miss then 0 else miss) :: l.tokenMiss.filter fun e => !(e.1 == i) }
  if 2 ≤ miss then (s.raise LY_EVENT.TOKREGEN 0).lanMsg 4 0xFF [BitVec.ofNat 8 i] else s

/-- MEMBER_BROADCAST: every 256 bells a member broadcasts MEMBER, and the head counts the tokens (R356, R410). What a member that is no
longer heard has reported is forgotten (Table 12-5). (Log entry: 45 DESIGN CHOICE.) -/
def execMemberBroadcast (s : State) : Host.Outcome State Fault Refusal :=
  clocked s (
    if !s.lyUp then s
    else
      let s := s.advance (s.lan.memberAt + 256 * 4096)
      let mask := s.lan.held.foldl (fun a e => a ||| 2 ^ e.1) 0
      let f := s.fw s.flash.runSlot
      let lv := if s.svRuns then [BitVec.ofNat 8 f.clvl, BitVec.ofNat 8 f.cmin, BitVec.ofNat 8 (bit s.flash.trial.isSome)] else [0, 0, 0]
      let s := s.lanMsg 7 0xFF (be32 mask ++
        [BitVec.ofNat 8 (s.fld TB_STATUS.LOCK 0 + 2 * s.fld TB_CTRL.SRC 0 + 4 * bit s.talign),
         BitVec.ofNat 8 (s.fld HB_ADDR.ADDR 0)] ++ lv)
      let s := if s.flag LY_STATUS.HEAD 0 then (List.range s.ntok).foldl (fun (s : State) i => s.countToken i) s else s
      s.takeDuties.modLan fun l =>
        let there := fun (m : Nat) => l.heardNow.contains m || l.heardLast.contains m
        { l with memberAt := s.now, tokenSeen := [], heardNow := [], heardLast := l.heardNow
                 masks := l.masks.filter (fun e => there e.1), levels := l.levels.filter (fun e => there e.1) })

/-- An activation executed at this member (R357, R358); the result of one of firmware shows as that of a command does (Tables 14-14 and
14-15). (Log entry: 44 DEDUCED.) -/
def State.runActivation (s : State) (a : ActX) : State :=
  if s.lan.acts.contains (a.src, a.actid) then s
  else
    let s := s.modLan fun l => { l with acts := ((a.src, a.actid) :: l.acts).take 32, latest := some a }
    let s := (((s.setReg .LY_ACTOK_HI 0 0).setReg .LY_ACTOK_LO 0 0).setReg .LY_ACTNO_HI 0 0).setReg .LY_ACTNO_LO 0 0
    let s := s.setFlds 0 [(LY_ACT.LASTID, a.actid), (LY_ACT.RESULT, 0)]
    match a.kind with
    | 1 =>
      let r := s.swapRequest a.epoch (some a)
      r.2.sendActRes a.src a.actid 1 r.1
    | 2 =>
      let c := s.actRequest a.epoch
      let s := if c = 0 then (s.pendAct a.epoch true (some (a.src, a.actid))).setFld FU_STATUS.CODE 0 0 else s.fuRefuse c
      s.sendActRes a.src a.actid 2 c
    | _ => s

/-- ACTIVATE: an activation of another member (R357). -/
def execActivate (src actid kind epoch : Nat) (s : State) : Host.Outcome State Fault Refusal :=
  clocked s (if s.lyUp then s.runActivation { src := src, actid := actid, kind := kind, epoch := epoch } else s)

/-- LY_ACT 1 and 2: an activation issued here (R357). -/
def State.issueActivation (s : State) (kind : Nat) : State :=
  let e := s.fld LY_ACTE_HI.EPOCH_H 0 * 2 ^ 32 + s.fld LY_ACTE_LO.EPOCH_L 0
  if e < s.E + 64 then s.raise LY_EVENT.ACTERR 0
  else
    let id := (s.lan.nextAct + 1) % 256
    let a : ActX := { src := s.me, actid := id, kind := kind, epoch := e }
    let frame := if s.lyMode = lyWrap then 480 else 200
    let s := s.modLan fun l =>
      { l with nextAct := id, repeats := l.repeats ++ (List.range 4).map fun k => (s.now + 64 * frame * k, a) }
    s.runActivation a

/-- LY_ACT (Table 12-12). -/
def State.lyAct (s : State) (w : Word) : State :=
  match LY_ACT.CMD.of w with
  | 1 => s.issueActivation 1
  | 2 => s.issueActivation 2
  | _ => s

/-- ACTRES: a member's result of the latest activation (R358). -/
def execActres (src actid kind result : Nat) (s : State) : Host.Outcome State Fault Refusal :=
  clocked s (match s.lan.latest with
    | none => s
    | some a =>
      if !s.lyUp || a.actid != actid || a.kind != kind then s
      else
        let set := fun (s : State) (hi lo : Fld) =>
          if src < 32 then s.setFld lo 0 (s.fld lo 0 ||| 2 ^ src) else s.setFld hi 0 (s.fld hi 0 ||| 2 ^ (src - 32))
        let s := if result = 1 then set s LY_ACTOK_HI.MAP LY_ACTOK_LO.MAP
          else if result = 0 then s else set s LY_ACTNO_HI.MAP LY_ACTNO_LO.MAP
        s.raise LY_EVENT.ACTRES 0)

/-- WRAP: a line start tells of a loss, or of a restore to come (R350, R351, R353). -/
def execWrap (src start kind epoch : Nat) (s : State) : Host.Outcome State Fault Refusal :=
  clocked s (
    if !s.lyUp ∨ 64 ≤ src then s
    else if kind = 1 then s.modLan fun l => { l with restoreAt := some epoch }
    else if kind ≠ 0 then s
    else
      let n := s.ringN
      let s := if s.lyMode = lyRing then s.enterWrap else s
      let s := s.modLan fun l => { l with breaks := start :: l.breaks.filter (· != start) }
      let s := if start = (s.me + 1) % n ∧ !s.flag LY_STATUS.LEND 0 then s.loseOut else s
      let d := (start + n - s.me) % n
      s.forRails fun s k =>
        if s.lead k ∧ 0 < d then
          (s.group k).reports.foldl (fun (s : State) e => if d ≤ e.1 then s.detach k e.1 else s) s
        else s)

/-- HOP_LOSS: no valid frame has begun for 4 µs; this member becomes the line start (R351). (Log entry: 44 DEDUCED.) -/
def execHopLoss (s : State) : Host.Outcome State Fault Refusal :=
  clocked s (
    if !s.lyUp ∨ s.flag LY_STATUS.LSTART 0 then s
    else
      let s := s.advance (s.lan.heardAt + 4 * us)
      s.loseIn.enterWrap.sendWrap 0 0)

/-- PROBE: the line end sends one every 1 ms; one received at the line start, with the round trip of its hop in taps, announces
a restore 8 bells ahead when the hop is good (R353). -/
def execProbe (received : Option (Nat × Nat)) (s : State) : Host.Outcome State Fault Refusal :=
  clocked s (
    if s.lyMode ≠ lyWrap then s
    else match received with
      | none =>
        if !s.flag LY_STATUS.LEND 0 then s
        else
          let s := s.advance (s.lan.probeAt + ms)
          s.modLan fun l =>
            { l with probeAt := s.now, sent := some { wrap := true, srcm := s.srcm, stamp := s.stampAt s.now }, sentAt := s.now }
      | some (_, rt) =>
        if !s.flag LY_STATUS.LSTART 0 then s
        else
          let s := s.measureHop rt
          if !hopOk rt ∨ s.flag LY_STATUS.PERMWRAP 0 ∨ s.lan.restoreAt.isSome then s
          else
            let e := (s.E + 8) % 2 ^ 48
            (s.modLan fun l => { l with restoreAt := some e }).sendWrap 1 e)

/-- RING_RESTORE: at the boundary of the restore epoch the member returns to ring mode (R353). -/
def execRingRestore (s : State) : Host.Outcome State Fault Refusal :=
  clocked s (match s.lan.restoreAt with
    | none => s
    | some e =>
      let s := s.advance (s.now + (s.ticksTo e).toNat)
      let s := s.setFlds 0 [(LY_STATUS.MODE, lyRing), (LY_STATUS.LSTART, 0), (LY_STATUS.LEND, 0), (LY_EVENT.RESTORED, 1)]
      (s.modLan fun l =>
        { l with restoreAt := none, heardAt := s.now, rev := none, back := {}, revSeqs := [], revMiss := 0, breaks := []
                 line := false }).startChecks)

/-- HOP_DELAY_MARKER: a marker received on the LYO pair goes back on the same pair 250 bit times later (R339). -/
def execHopDelayMarker (s : State) : Host.Outcome State Fault Refusal :=
  clocked s (if s.flag LY_CTRL.EN 0 then s.modLan fun l => { l with marker := some (s.now + 40) } else s)

end Sys2Proof.Machine
end

