-- ==== Sys2Proof/Machine/Timers.lean ====
section
/-! DEFINITION. Machine/Timers.lean: the timers, their channels and the auxiliary pins (§13.1 to §13.4), and the fans
(§13.5). -/
namespace Sys2Proof.Machine

/-- OUT of a timer channel. -/
def State.tmOut (s : State) (k c : Nat) : Bool := bitAt (s.fld TM_STAT.OUT k) c

/-- The states of the fan supervisor (Table 13-3). -/
def fnOff : Nat := 0
def fnStarting : Nat := 1
def fnRunning : Nat := 2
def fnKick : Nat := 3
def fnBlocked : Nat := 4
def fnTachlost : Nat := 5

/-- A fan's source timer commands it on (R372). -/
def State.fanSrcOn (s : State) (f : Fin 4) : Bool :=
  s.tmOut (s.fld FAN_CTRL.TM f) (s.fld FAN_CTRL.CHAN f) || (match (s.fan f).srcAt with
    | some t => decide (s.now < t + ms)
    | none => false)

/-- The commanded duty of a fan (R372); a timer source counts as full duty. -/
def State.fanCmd (s : State) (f : Fin 4) : Nat :=
  if !s.active.fan[f].en then 0
  else if s.flag FAN_CTRL.SRC f then (if s.fanSrcOn f then 1000 else 0)
  else match s.fld FAN_CTRL.MODE f with
    | 0 => 0
    | 1 => min 1000 (s.fld FAN_CTRL.DUTY f)
    | _ => (s.fan f).autoDuty

/-- FAN_DERATE (R376). -/
def State.fanDerate (s : State) : State :=
  s.setFld FAN_DERATE.DERATE 0 (min 100 ((List.finRange 4).foldl (fun a (f : Fin 4) =>
    if s.fld FAN_STAT.STATE f = fnBlocked then a + s.active.fan[f].weight else a) 0))

/-- The tick within the 25 kHz period of a fan channel, and the start of the first period after a tick (R372). -/
def fanTick (f : Fin 4) (t : Nat) : Nat := (t + Config.fanPhase f) % 8000
def fanNext (f : Fin 4) (t : Nat) : Nat := t + (8000 - fanTick f t)

/-- The duty in force of a fan (R372): a change of the commanded duty takes effect at the next period. (Log entry: 46 DEDUCED.) -/
def State.fanDuty (s : State) (f : Fin 4) : Nat :=
  if s.now < fanNext f (s.fan f).changed then (s.fan f).was else s.fld FAN_STAT.DOUT f

/-- A duty set at once (R375), and one that takes effect at the next period (R372). (Log entry: 46 DEDUCED.) -/
def State.fanSet (s : State) (f : Fin 4) (d : Nat) : State :=
  (s.setFld FAN_STAT.DOUT f d).modFan f fun x => { x with was := d, changed := s.now }
def State.fanNextDuty (s : State) (f : Fin 4) (d : Nat) : State :=
  let was := s.fanDuty f
  (s.setFld FAN_STAT.DOUT f d).modFan f fun x => { x with was := was, changed := s.now }

/-- FPWMf as the fan's control drives it (R372, R443): released, or held low. (Log entry: 46 DEDUCED.) -/
def State.fanDrive (s : State) (f : Fin 4) : Bool :=
  let st := s.fld FAN_STAT.STATE f
  let out := s.tmOut (s.fld FAN_CTRL.TM f) (s.fld FAN_CTRL.CHAN f)
  let src := s.flag FAN_CTRL.SRC f
  let cycle := decide (fanTick f s.now < s.fanDuty f * 8)
  match s.power.mode with
  | .standby => true
  | .held => false
  | .sleep => s.active.fan[f].en && src && s.flag TM_CTRL.LPCLK (s.fld FAN_CTRL.TM f) && out
  | .running => s.active.fan[f].en && (if src && decide (st ≤ 2) then out else cycle)

/-- The duty in force of a fan by its state (Table 13-3). The spec states no duty while a timer drives the pin: it is free. (Log entries:
7 DESIGN CHOICE, 46 DEDUCED.) -/
def State.fanShow (s : State) (f : Fin 4) : State :=
  let st := s.fld FAN_STAT.STATE f
  if st = fnOff then s.fanNextDuty f 0
  else if st = fnKick ∨ st = fnTachlost then s.fanSet f 1000
  else if st = fnBlocked then s.fanSet f (if (s.fan f).retry then 1000 else 0)
  else if s.flag FAN_CTRL.SRC f then
    let q := s.takeFree 10
    q.2.fanSet f q.1.toNat
  else s.fanNextDuty f (s.fan f).cmd

/-- A fan enters a state of its supervisor. -/
def State.fanEnter (s : State) (f : Fin 4) (st : Nat) : State :=
  let s := (s.setFld FAN_STAT.STATE f st).modFan f fun x => { x with at_ := s.now, retry := false }
  s.fanDerate.fanShow f

/-- A kick of the count `k` since the start (R375). -/
def State.fanKick (s : State) (f : Fin 4) (k : Nat) : State :=
  (s.setFlds f [(FAN_STAT.KICKS, k), (FAN_STAT.KICKF, 1)]).fanEnter f fnKick

/-- The commanded duty taken again: 0 sets OFF, and a change from 0 is a start (R375). -/
def State.fanRefresh (s : State) (f : Fin 4) : State :=
  let new := s.fanCmd f
  let old := (s.fan f).cmd
  let s := s.modFan f fun x => { x with cmd := new }
  if new = 0 then (if s.fld FAN_STAT.STATE f = fnOff then s else s.fanEnter f fnOff)
  else if old = 0 then (s.setFld FAN_STAT.KICKS f 0).fanEnter f fnStarting
  else if new = old then s else s.fanShow f

/-- FAN_TACH.RPM of the interval between the last two accepted edges, 0 while the fan does not turn (R374). -/
def State.fanSpeed (s : State) (f : Fin 4) : State :=
  s.setFld FAN_TACH.RPM f (match (s.fan f).gap with
    | none => 0
    | some d => min 65535 (rhe 12000000000 (d * (s.fld FAN_CTRL.PPR f + 1))).toNat)

/-- A write of FAN_CTRL acts: the commanded duty, and the speed by the new PPR (R372, R374). A source that changes drives the pin at once.
(Log entry: 46 DEDUCED.) -/
def State.fanControl (s t : State) (f : Fin 4) : State :=
  let t := t.fanSpeed f
  if t.power.mode = .running then
    let t := t.fanRefresh f
    if s.flag FAN_CTRL.SRC f = t.flag FAN_CTRL.SRC f then t else t.fanShow f
  else t

/-- Every fan's commanded duty and the derating taken again (R372, R376). -/
def State.fansRefresh (s : State) : State :=
  (if s.power.mode = .running then (List.finRange 4).foldl (fun (s : State) (f : Fin 4) => s.fanRefresh f) s else s).fanDerate

/-- Whether a timer acts on events now: EN is 1, no debug halt freezes it, and in sleep it has the low-power clock (R360, R370, R371). -/
def State.timerAwake (s : State) (k : Fin 12) : Bool :=
  s.flag TM_CTRL.EN k && (!s.power.halted || s.flag TM_CTRL.DBGRUN k)
    && (s.power.mode == .running || (s.power.mode == .sleep && s.flag TM_CTRL.LPCLK k))

/-- Whether TMk's prescaler runs on TBCLK (R360, R369 to R371). (Log entry: 46 DEDUCED.) -/
def State.timerRuns (s : State) (k : Fin 12) : Bool :=
  s.timerAwake k && s.power.mode == .running
    && (s.fld TM_CTRL.SLV k != 1 || s.tmOut (s.fld TM_CTRL.MSTR k) (s.fld TM_CTRL.MCHAN k))

/-- The tick that a gate adds where TM0 and TM1 are slaves of each other (R369). (Log entry: 46 DEDUCED.) -/
def State.gateLag (s : State) (k : Fin 12) : Nat :=
  let m := 1 - k.val
  bit (decide (k.val < 2) && s.fld TM_CTRL.SLV k == 1 && s.fld TM_CTRL.MSTR k == m && s.fld TM_CTRL.SLV m != 0
    && s.fld TM_CTRL.MSTR m == k.val)

/-- A step over every timer. -/
def State.forTimers (s : State) (f : State → Fin 12 → State) : State := (List.finRange 12).foldl f s

/-- A change of the state under which timers may stop or resume: a prescaler that stops keeps the ticks it has counted, and a gate of TM0
and TM1 slaves of each other is seen 1 tick later (R369). (Log entry: 46 DEDUCED.) -/
def State.retime (s t : State) : State :=
  t.forTimers fun (u : State) (k : Fin 12) =>
    let e := t.now + (if s.timerAwake k && t.timerAwake k then t.gateLag k else 0)
    match s.timerRuns k, t.timerRuns k with
    | true, false => u.modTimer k fun x => { x with pre := x.pre + (e - x.from_), from_ := e }
    | false, true => u.modTimer k fun x => { x with from_ := e }
    | _, _ => u

/-- The prescaler of a timer restarts. -/
def State.restartPre (s : State) (k : Fin 12) : State := s.modTimer k fun x => { x with from_ := s.now, pre := 0 }

/-- The tick of a timer's next step by its prescaler. -/
def State.stepDue (s : State) (k : Fin 12) : Nat := (s.timer k).from_ + 2 ^ s.fld TM_CTRL.PSC k - (s.timer k).pre

/-- A step that came due before a gate closed, and is not yet taken (R369). -/
def State.stepOwed (s : State) (k : Fin 12) : Bool :=
  s.timerAwake k && s.power.mode == .running && s.fld TM_CTRL.SLV k == 1 && decide (2 ^ s.fld TM_CTRL.PSC k < (s.timer k).pre)

/-- The prescaler goes on from a step taken at the present tick. -/
def State.stepTaken (s : State) (k : Fin 12) : State :=
  if s.timerRuns k then s.restartPre k else s.modTimer k fun x => { x with pre := x.pre - 2 ^ s.fld TM_CTRL.PSC k }

/-- The length of a slot of TC0 and of TC1 in ticks (R90, R93). (Log entry: 38 DEDUCED.) -/
def State.slotLen (s : State) : Nat := if s.flag CV_STATUS.LPACT 0 then 12500 else 200
def State.slotLen1 (s : State) : Nat := if s.tele.low1 then 12500 else 200

/-- The channel that a trigger of TM0 (`zero`) or TM1 converts, whether TC0 serves it, and the triggers whose conversions have not ended
(R94). -/
def State.trigChan (s : State) (zero : Bool) : Nat := s.fld (if zero then CV_TRIG.CH0 else CV_TRIG.CH1) 0
def State.trigTc0 (s : State) (zero : Bool) : Bool := decide (s.trigChan zero < 48)
def State.trigPend (s : State) (zero : Bool) : List Nat := if zero then s.tele.pend0 else s.tele.pend1

/-- The slot boundaries of the converter that serves a trigger: the beginning of the slot that comes next to be converted, and its length.
-/
def State.trigGrid (s : State) (zero : Bool) : Nat × Nat :=
  if s.trigTc0 zero then (s.tele.slotAt, s.slotLen) else (s.tele.slotAt1, s.slotLen1)

/-- The first slot boundary at or after the oldest of the triggers of a timer that wait, none where none waits. -/
def State.trigSlot (s : State) (zero : Bool) : Option Nat :=
  let g := s.trigGrid zero
  (s.trigPend zero).head?.map fun a => if a ≤ g.1 then g.1 else g.1 + (a - g.1 + g.2 - 1) / g.2 * g.2

/-- The other timer's conversion comes first: both are for one converter, and it was asked for in an earlier slot, or in the same slot by
TM0 (R94). -/
def State.trigBehind (s : State) (zero : Bool) : Bool :=
  s.trigTc0 zero == s.trigTc0 (!zero) &&
    match s.trigSlot zero, s.trigSlot (!zero) with
    | some a, some b => decide (b < a) || (!zero && a == b)
    | _, _ => false

/-- The conversion of a timer is the next slot of its converter. -/
def State.trigNext (s : State) (zero : Bool) : Bool := (s.trigSlot zero == some (s.trigGrid zero).1) && !s.trigBehind zero

/-- The tick at which the latest inserted conversion of TM0 (`zero`) or TM1 that has not ended starts (R94): at the first slot boundary of
its converter, behind those asked for before it and behind the other timer's; none where none waits or runs. (Log entry: 38 DEDUCED.) -/
def State.trigStart (s : State) (zero : Bool) : Option Nat :=
  (s.trigSlot zero).map fun a => a + ((s.trigPend zero).length - 1 + bit (s.trigBehind zero)) * (s.trigGrid zero).2

/-- The trigger event of TM0 or TM1 (R368): a conversion asked for (R94), the trace trigger of every rail at its next sample (R269), and
the slaves at the next tick (R369). (Log entry: 46 DEDUCED.) -/
def State.tmTrigger (s : State) (k : Fin 12) : State :=
  if 2 ≤ k.val then s
  else
    let zero := decide (k.val = 0)
    let s :=
      if s.flag (if zero then CV_TRIG.EN0 else CV_TRIG.EN1) 0 then
        if (s.trigStart zero).any fun t => decide (s.now < t) then s.raise CV_STATUS.TRGOVR 0
        else s.modTele fun t => if zero then { t with pend0 := t.pend0 ++ [s.now] } else { t with pend1 := t.pend1 ++ [s.now] }
      else s
    let s := s.forRails fun s n => s.trigger n (trgTm0 + k.val) true
    s.forTimers fun (s : State) (j : Fin 12) =>
      if j ≠ k ∧ (s.fld TM_CTRL.SLV j = 2 ∨ s.fld TM_CTRL.SLV j = 3) ∧ s.fld TM_CTRL.MSTR j = k.val ∧ s.timerAwake j then
        s.modTimer j fun x => { x with slaveAt := x.slaveAt ++ [s.now + 1] }
      else s

/-- OUT of a channel set to a level: a fan that it drives keeps the latest tick at which it was 1, and is commanded on from its rise
(R372, R375). (Log entry: 46 DEDUCED.) -/
def State.setOut (s : State) (k : Fin 12) (c : Nat) (on : Bool) : State :=
  let was := s.tmOut k c
  let s := s.setFld TM_STAT.OUT k (s.fld TM_STAT.OUT k - bit was * 2 ^ c + bit on * 2 ^ c)
  (List.finRange 4).foldl (fun (s : State) (f : Fin 4) =>
    if s.flag FAN_CTRL.SRC f ∧ s.fld FAN_CTRL.TM f = k.val ∧ s.fld FAN_CTRL.CHAN f = c ∧ was ≠ on then
      let s := if was then s.modFan f fun x => { x with srcAt := some s.now } else s
      if s.power.mode = .running then s.fanRefresh f else s
    else s) s

/-- A channel's event (R362, R364, R368). -/
def State.chanEvent (s : State) (k : Fin 12) (c : Nat) : State :=
  let s := s.raiseBit TM_STAT.EVF k c
  if s.fld TM_CTRL.TRGSRC k = c + 1 then s.tmTrigger k else s

/-- The mode of a channel (Table 13-11): 3 is treated as 0. -/
def State.chMode (s : State) (k c : Nat) : Nat := s.fld TM_CHCFG.MODE (chanKey k c) % 3

/-- The matches of a timer whose counter has come to a value (R362, R363). -/
def State.tmMatch (s : State) (k : Fin 12) (cnt : Nat) : State :=
  (List.finRange 4).foldl (fun (s : State) (c : Fin 4) =>
    let y := chanKey k c
    let x := (s.timer k).chans[c]
    let v := if x.at_.any (fun e => decide (s.now ≤ e)) then x.old else s.fld TM_CHVAL.VALUE y
    if s.chMode k c = 1 ∧ v = cnt then
      let s := match s.fld TM_CHCFG.MACT y with
        | 1 => s.setOut k c true
        | 2 => s.setOut k c false
        | 3 => s.setOut k c (!s.tmOut k c)
        | _ => s
      s.chanEvent k c
    else s) s

/-- One step of a counter at the present tick (R360, R362): up by one, or the wrap after TOP. (Log entry: 46 DEDUCED.) -/
def State.countStep (s : State) (k : Fin 12) : State :=
  let cnt := s.fld TM_CNT.COUNT k
  let wrap := decide (cnt = (s.timer k).top)
  let new := if wrap then 0 else (cnt + 1) % 2 ^ 32
  let s := s.setFld TM_CNT.COUNT k new
  let s :=
    if wrap then
      let s := s.setFlds k [(TM_STAT.WRAPF, 1), (TM_STAT.TOPPEND, 0)]
      let s := s.modTimer k fun x => { x with top := s.fld TM_TOP.TOP k }
      let s := (List.finRange 4).foldl (fun (s : State) (c : Fin 4) =>
        if s.chMode k c = 1 then
          match s.fld TM_CHCFG.WACT (chanKey k c) with
          | 1 => s.setOut k c true
          | 2 => s.setOut k c false
          | _ => s
        else s) s
      if s.fld TM_CTRL.TRGSRC k = 0 ∨ 5 ≤ s.fld TM_CTRL.TRGSRC k then s.tmTrigger k else s
    else s
  s.tmMatch k new

/-- A slave's act on a master's trigger event (R369): a reset, or a step in clock mode. -/
def State.slaveAct (s : State) (k : Fin 12) : State :=
  if s.fld TM_CTRL.SLV k = 2 then ((s.setFld TM_CNT.COUNT k 0).restartPre k).tmMatch k 0
  else if s.fld TM_CTRL.SLV k = 3 then s.countStep k
  else s

/-- The TIO pin that feeds a capture channel (R364): the lowest-numbered one that names it. -/
def State.capturePin (s : State) (k c : Nat) : Option (Fin 8) :=
  (List.finRange 8).find? fun (i : Fin 8) =>
    s.fld TIO_AUX.FUNC i == 2 && s.fld TIO_AUX.SEL i == k && s.active.tio[i].chan == c

/-- A capture takes the present count, or the one before a write of the same tick (R361, R364). (Log entry: 46 DEDUCED.) -/
def State.capture (s : State) (k : Fin 12) (c : Nat) : State :=
  let count := match (s.timer k).wrote with
    | some e => if e.1 = s.now then e.2 else s.fld TM_CNT.COUNT k
    | none => s.fld TM_CNT.COUNT k
  let s := if bitAt (s.fld TM_STAT.EVF k) c then s.raiseBit TM_STAT.OVRF k c else s
  (s.setFld TM_CHVAL.VALUE (chanKey k c) count).chanEvent k c

/-- The captures that an advance of the count was awaited for (R371). -/
def State.lateCaptures (s : State) (k : Fin 12) : State :=
  (s.timer k).capPend.foldl (fun (s : State) c => s.capture k c) (s.modTimer k fun x => { x with capPend := [] })

/-- An edge at TIO pin i is seen at the present tick (R364): a capture of the kind that EDGE selects, which a debug halt ignores (R370).
In sleep a timer that advances there records the count after its next advance (R371). (Log entry: 46 DEDUCED.) -/
def State.tioEdge (s : State) (i : Fin 8) (rising : Bool) : State :=
  let k : Fin 12 := railOf (s.fld TIO_AUX.SEL i)
  let c := s.active.tio[i].chan % 4
  let edge := s.fld TM_CHCFG.EDGE (chanKey k c)
  if s.fld TIO_AUX.FUNC i ≠ 2 ∨ s.capturePin k c ≠ some i ∨ s.chMode k c ≠ 2 ∨ (s.power.halted ∧ !s.flag TM_CTRL.DBGRUN k)
      ∨ (edge = 0 ∧ !rising) ∨ (edge = 1 ∧ rising) then s
  else if s.power.mode = .sleep ∧ s.timerAwake k then s.modTimer k fun x => { x with capPend := x.capPend ++ [c] }
  else s.retime (s.capture k c)

/-- The edges that are seen by tick `t`, each at its own tick (R364). (Log entry: 46 DEDUCED.) -/
def State.seenTo (s : State) (t : Nat) : State :=
  (s.pins.tioQ.filter fun e => decide (e.1 ≤ t)).foldl (fun (s : State) e => s.asOf e.1 fun s => s.tioEdge e.2.1 e.2.2)
    (s.modPins fun p => { p with tioQ := p.tioQ.filter fun e => decide (t < e.1) })

/-- The edges that are seen by now. -/
def State.seenAll (s : State) : State := s.seenTo s.now

/-- The tick of TMk's next step, and whether its master asks for it (R369): on its prescaler, or on its master's trigger event, whichever
is due first; none where neither runs. -/
def State.nextStep (s : State) (k : Fin 12) : Option (Nat × Bool) :=
  let own := (s.timerRuns k && s.fld TM_CTRL.SLV k != 3) || s.stepOwed k
  match (s.timer k).slaveAt with
  | e :: _ => if own ∧ s.stepDue k < e then some (s.stepDue k, false) else some (e, true)
  | [] => if own then some (s.stepDue k, false) else none

/-- The step or the slave's act of TMk at the present tick, with the captures that waited for it (R371). (Log entry: 46 DEDUCED.) -/
def State.timerAct (s : State) (k : Fin 12) (slave : Bool) : State :=
  let t :=
    if slave then
      let u := s.modTimer k fun x => { x with slaveAt := x.slaveAt.drop 1 }
      if u.timerAwake k then u.slaveAct k else u
    else (s.stepTaken k).countStep k
  s.retime (t.lateCaptures k)

/-- TIMER_STEP: TMk's next step (R360), at its own tick. Time stands behind that tick afterwards: the writes of the tick have been
accepted, and each of them won over the step (R361). (Log entry: 46 DEDUCED.) -/
def execTimerStep (k : Fin 12) (s : State) : Host.Outcome State Fault Refusal :=
  clocked s (
    let s := s.seenAll
    match s.nextStep k with
    | none => s
    | some d =>
      let s := s.seenTo (d.1 - 1)
      match s.nextStep k with
      | none => s
      | some d => ((s.asOf d.1 fun s => s.timerAct k d.2).seenTo d.1).advance (d.1 + 1))

/-- TIMER_CAPTURE: an edge reaches TIO pin i (R364). It is seen 2 ticks later, unless it begins or ends a pulse shorter than 20 ns, which
the filter takes out. In sleep, where TBCLK stands, it is seen at once. (Log entry: 46 DEDUCED.) -/
def execTimerCapture (i : Fin 8) (e : TioEdge) (s : State) : Host.Outcome State Fault Refusal :=
  done s (
    let s := s.seenAll
    let put := fun (x : Nat) => x - bit (bitAt x i) * 2 ^ i.val + bit e.rising * 2 ^ i.val
    let s := s.modPins fun p => { p with tioIn := put p.tioIn }
    if s.held then s.modPins fun p => { p with tioSeen := put p.tioSeen }
    else if e.held < 4 ∨ bitAt s.pins.tioSeen i = e.rising then s
    else
      let s := s.modPins fun p => { p with tioSeen := put p.tioSeen }
      if s.power.mode = .sleep then s.tioEdge i e.rising
      else s.modPins fun p => { p with tioQ := p.tioQ ++ [(s.now + 2, i, e.rising)] })

/-- The level a TIO pin drives, for the functions that drive it (R365, R366, Table 2-14). -/
def State.tioDrive (s : State) (i : Fin 8) : Option Bool :=
  let sel := s.fld TIO_AUX.SEL i
  let aux := s.tmOut (min 11 (s.fld TIO_AUX.TM i)) (s.fld TIO_AUX.CHAN i)
  let lv := match s.fld TIO_AUX.FUNC i with
    | 1 => some (s.tmOut sel s.active.tio[i].chan)
    | 3 => some (decide (sel < 12) && s.contOut (railOf sel) && (!s.flag TIO_AUX.ECO i || !s.pins.ecoOn[i] || aux))
    | 4 => match s.fld TIO_AUX.LMODE i with
      | 1 => some (if s.rst sel = stOff ∧ !s.flag RL_STATUS.LOCKOUT sel then false
          else if s.rst sel = stFault ∨ s.rst sel = stRetired ∨ s.flag RL_STATUS.LOCKOUT sel then aux else true)
      | 2 => some (s.fld LK_STATUS.LSTATE sel == 2)
      | _ => some aux
    | 5 => some (bitAt (s.fld TIO_OUT.OUT 0) i)
    | _ => none
  if s.held then none else s.ball (lv.map fun v => v != s.flag TIO_AUX.POL i) fun c => c.tio[i]

/-- The level at a TIO pin (TIO_IN). -/
def State.tioLevel (s : State) (i : Fin 8) : Bool :=
  match s.tioDrive i with
  | some v => v
  | none => !s.held && bitAt s.pins.tioIn i

/-- ECONOMISER_DELAY_EXPIRY: ECODLY after CONTn is driven the pin carries CONTn AND OUT (R366). (Log entry: 46 DEDUCED.) -/
def execEconomiserDelayExpiry (i : Fin 8) (s : State) : Host.Outcome State Fault Refusal :=
  clocked s (
    let n : Fin 12 := railOf (s.fld TIO_AUX.SEL i)
    match (s.rail n).life.contAt with
    | none => s
    | some t =>
      if s.fld TIO_AUX.FUNC i = 3 ∧ s.flag TIO_AUX.ECO i then
        (s.advance (t + atLeast1 (s.fld TIO_AUX.ECODLY i) * ms)).modPins fun p => { p with ecoOn := p.ecoOn.set i true }
      else s)

/-- The fan of the channel is used and supervised now. -/
def State.fanLive (s : State) (f : Fin 4) : Bool := s.active.fan[f].en && s.power.mode == .running

/-- FAN_CURVE_UPDATE: at each bell boundary with E mod 256 = 0 the automatic duties are computed (R373). -/
def execFanCurveUpdate (s : State) : Host.Outcome State Fault Refusal :=
  done s (
    if s.power.mode ≠ .running then s
    else
      let s := s.advance (s.nextGrid s.now (256 * 4096) 0)
      let s := (List.finRange 4).foldl (fun (s : State) (f : Fin 4) =>
        let marked := (List.finRange 16).filter fun (i : Fin 16) => bitAt (s.fld FAN_CURVE.TSEL f) i
        let bad := marked = [] ∨ marked.any fun (i : Fin 16) => s.flag TH_TEMP.INV i
        let th := marked.foldl (fun a (i : Fin 16) => max a (s.fldS TH_TEMP.T i / 8)) (-4096)
        let lo := s.fldS FAN_CURVE.TLO f
        let hi := if s.fldS FAN_CURVE.THI f ≤ lo then lo + 1 else s.fldS FAN_CURVE.THI f
        let dmin : Int := s.fld FAN_CTRL.DMIN f
        let d : Int :=
          if bad then 1000
          else if th ≤ lo then dmin
          else if hi ≤ th then 1000
          else dmin + (1000 - dmin) * (th - lo) / (hi - lo)
        s.modFan f fun x => { x with autoDuty := d.toNat }) s
      s.fansRefresh)

/-- TACH_EDGE: a falling edge at FTACHf (R374, R375). -/
def execTachEdge (f : Fin 4) (s : State) : Host.Outcome State Fault Refusal :=
  done s (
    let x := s.fan f
    let accepted := match x.edge with
      | none => true
      | some t => decide (t + 100 * us ≤ s.now)
    if !s.fanLive f || !accepted then s
    else
      let s := s.modFan f fun x => { x with edge := some s.now }
      let s := match x.edge with
        | none => s
        | some t => (s.modFan f fun x => { x with gap := some (s.now - t) }).fanSpeed f
      let st := s.fld FAN_STAT.STATE f
      if st = fnKick then (s.setFld FAN_STAT.KICKS f 0).fanEnter f fnRunning
      else if st = fnStarting ∨ st = fnTachlost ∨ (st = fnBlocked ∧ x.retry) then s.fanEnter f fnRunning
      else s)

/-- FAN_START_TIMEOUT: 2 s in STARTING without an edge make a kick (R375). -/
def execFanStartTimeout (f : Fin 4) (s : State) : Host.Outcome State Fault Refusal :=
  done s (
    if s.fanLive f ∧ s.fld FAN_STAT.STATE f = fnStarting then (s.advance ((s.fan f).at_ + 2000 * ms)).fanKick f 1 else s)

/-- FAN_KICK_END: a kick of 2 s ends without an edge (R375). -/
def execFanKickEnd (f : Fin 4) (s : State) : Host.Outcome State Fault Refusal :=
  done s (
    let st := s.fld FAN_STAT.STATE f
    if !s.fanLive f then s
    else if st = fnKick then
      let s := s.advance ((s.fan f).at_ + 2000 * ms)
      let k := s.fld FAN_STAT.KICKS f
      if k < 3 then s.fanKick f (k + 1) else (s.raise FAN_STAT.BLOCKF f).fanEnter f fnBlocked
    else if st = fnBlocked ∧ (s.fan f).retry then
      ((s.advance ((s.fan f).at_ + 2000 * ms)).modFan f fun x => { x with retry := false }).fanShow f
    else s)

/-- FAN_BLOCKED_RETRY: every 60 s a blocked fan makes one kick of 2 s (R375). -/
def execFanBlockedRetry (f : Fin 4) (s : State) : Host.Outcome State Fault Refusal :=
  done s (
    if s.fanLive f ∧ s.fld FAN_STAT.STATE f = fnBlocked ∧ !(s.fan f).retry then
      let s := s.advance ((s.fan f).at_ + 60000 * ms)
      ((s.modFan f fun x => { x with retry := true, at_ := s.now }).raise FAN_STAT.KICKF f).fanShow f
    else s)

/-- IFAN lies within its band. -/
def State.fanInBand (s : State) (f : Fin 4) : Bool :=
  decide (s.fld FAN_IBAND.ILO f ≤ s.fld FAN_TACH.IFAN f ∧ s.fld FAN_TACH.IFAN f ≤ s.fld FAN_IBAND.IHI f)

/-- FAN_STOPPED: 2 s without an accepted edge: RPM reads 0, and a running fan is TACHLOST or kicked (R374, R375). -/
def execFanStopped (f : Fin 4) (s : State) : Host.Outcome State Fault Refusal :=
  done s (match (s.fan f).edge with
    | none => s
    | some t =>
      if s.power.mode ≠ .running then s
      else
        let s := ((s.advance (t + 2000 * ms)).modFan f fun x => { x with gap := none }).fanSpeed f
        if s.fanLive f ∧ s.fld FAN_STAT.STATE f = fnRunning then
          if s.fanInBand f then (s.raise FAN_STAT.TLOSTF f).fanEnter f fnTachlost else s.fanKick f 1
        else s)

/-- FAN_TIMER_SOURCE_LAPSE: OUT of the source has not been 1 for 1 ms (R372). -/
def execFanTimerSourceLapse (f : Fin 4) (s : State) : Host.Outcome State Fault Refusal :=
  done s (match (s.fan f).srcAt with
    | none => s
    | some t =>
      if s.fanLive f ∧ s.flag FAN_CTRL.SRC f ∧ !s.tmOut (s.fld FAN_CTRL.TM f) (s.fld FAN_CTRL.CHAN f) then
        ((s.advance (t + ms)).modFan f fun x => { x with srcAt := none }).fanRefresh f
      else s)

/-- The fan current at the end of a TC0 frame (R374): the mean corrected code of the last 16 frames, and a TACHLOST fan whose
current has left its band (R375). -/
def State.fanCurrent (s : State) (f : Fin 4) (code : Nat) : State :=
  if !s.active.fan[f].en then s
  else
    let s := s.modFan f fun x => { x with codes := (code :: x.codes).take 16 }
    let cs := (s.fan f).codes
    let i := rhe ((cs.foldl (· + ·) 0 : Nat) * s.fld FAN_IGAIN.IGAIN f : Nat) (1000 * cs.length)
    let s := s.setFld FAN_TACH.IFAN f (min 65535 i.toNat)
    if s.fld FAN_STAT.STATE f = fnTachlost ∧ !s.fanInBand f then s.fanKick f 1 else s

end Sys2Proof.Machine
end

