-- ==== Sys2Proof/Machine/Sample.lean ====
section
/-! DEFINITION. Machine/Sample.lean: the current trigger (§3.4) and the sample of a rail: the error word (§3.2), the input vector
(Table 4-1), the model supervisor (§9.5), the transient responder's criteria (§7.4), the transfer count (R146) and the auto-tune
relay (§5.5). -/
namespace Sys2Proof.Machine

/-- The latest transition of a phase's output at or before an instant in taps. -/
def State.transBefore (s : State) (p : Fin 48) (tap : Nat) : Option Nat :=
  match ((s.phase p).edges.filter fun e => decide (e.1 ≤ tap)).getLast? with
  | some e => some e.1
  | none => (s.phase p).lastTrans

/-- A transition lies within `len` ticks before an instant (R78, R87). -/
def State.blanks (s : State) (p : Fin 48) (t len : Nat) : Bool :=
  match s.transBefore p (t * 64) with
  | some e => decide (t * 64 < e + len * 64)
  | none => false

/-- The raw code and the over-range flag of a phase current converter; `v` is ISP − ISREF in nV (R84). (Log entry: 47 DEDUCED.) -/
def phaseCode (v : Int) : Int × Bool :=
  let r := (v + 250000) / 500000
  (clampInt (-2048) 2047 r, decide (r < -2048 ∨ 2047 < r))

/-- The corrected value of a raw code (R85). -/
def correctPhase (r ofs : Int) (gain : Nat) : Int := clampInt (-8192) 8191 (rhe ((4 * r - ofs) * gain) 32768)

/-- A phase current conversion is stored (R84, R85, Table 3-27). -/
def State.convertPhase (s : State) (p : Fin 48) (v : Int) : State :=
  let s := s.modPhase p fun x => { x with irAt := s.now, irOld := s.irawNow p }
  let c := phaseCode v
  let y := correctPhase c.1 (s.fldS PH_ICAL.OFS p) (s.fld PH_ICAL.GAIN p)
  let s := s.setFlds p [(PH_IRAW.OVR, bit c.2), (PH_IRAW.BLK, 0), (PH_IRAW.RAW, unsignedOf 12 c.1),
    (PH_IRAW.CORR, unsignedOf 14 y)]
  if c.2 then (s.raise PH_ISTAT.OVRF p).bump PH_ISTAT.OVRCNT p else s

/-- One phase of a rail at its trigger (R86, R87). -/
def State.triggerPhase (s : State) (n : Fin 12) (p : Fin 48) (v : Int) : State :=
  let blank := s.blanks p s.now s.active.sense[n].blankC && (s.phase p).fresh && !s.flag PH_IRAW.BLK p
  let s := if blank then s.setFld PH_IRAW.BLK p 1 else s.convertPhase p v
  let y := s.fldS PH_IRAW.CORR p
  s.modPhase p fun x =>
    { x with fresh := true, telSum := x.telSum + y, telCnt := x.telCnt + 1, balSum := x.balSum + y, balCnt := x.balCnt + 1 }

/-- The ITRIG in force (R86, Table 3-20). -/
def State.itrig (s : State) (n : Fin 12) : Nat := max 8 (s.fld CV_SNS.ITRIG n)

/-- CURRENT_TRIGGER: the common trigger of a rail's phase current converters and the current sum (R86, R87). `volts` are ISP − ISREF in nV
of the phases spliced to the rail, in number order. (Log entry: 29 DEDUCED.) -/
def execCurrentTrigger (n : Fin 12) (volts : List Int) (s : State) : Host.Outcome State Fault Refusal :=
  clocked s (
    if !s.live n then s
    else
      let from_ := match (s.rail n).sense.sums with
        | [] => s.now
        | e :: _ => max s.now (e.1 + 1)
      let per := s.period n
      let t := s.nextGrid from_ per ((s.fld TB_RSMP.OFFSET n + 255 * per - s.itrig n) % per)
      let s := (s.respTo n t).advance t
      let ps := s.railPhases n
      let s := (ps.zip (volts ++ List.replicate 48 0)).foldl (fun (s : State) e => s.triggerPhase n e.1 e.2) s
      let sum := ps.foldl (fun a (p : Fin 48) => if s.phRet p then a else a + s.fldS PH_IRAW.CORR p) 0
      let nact := (ps.filter fun (p : Fin 48) => s.phState p == phActive).length
      s.modSense n fun x => { x with sums := ((s.now, sum, nact) :: x.sums).take 40 })

/-- UNSPLICED_CONVERSION: a phase spliced to no rail converts at every tick T with T mod 200 = 0, and is never blanked (R88). -/
def execUnsplicedConversion (p : Fin 48) (v : Int) (s : State) : Host.Outcome State Fault Refusal :=
  clocked s (match s.phRail p with
    | some _ => s
    | none =>
      let s := s.advance (s.nextGrid (max s.now (s.phase p).since) 200 0)
      let s := s.convertPhase p v
      let y := s.fldS PH_IRAW.CORR p
      s.modPhase p fun x => { x with since := s.now + 1, was := phNone, fresh := true, telSum := x.telSum + y, telCnt := x.telCnt + 1 })

/-- The sum and NACT of the trigger at a tick (R86): the trigger's own, none before the rail left OFF, and the latest earlier one while
the trigger's is not there. (Log entry: 29 DEDUCED.) -/
def State.sumAt (s : State) (n : Fin 12) (t : Nat) : Int × Nat :=
  let l := (s.rail n).life
  match (s.rail n).sense.sums.find? fun e => decide (e.1 ≤ t) with
  | some e => e.2
  | none => (0, l.offNact)

/-- I_s of a current sum, in units of 10 mA (R100). -/
def State.sampleCur (s : State) (n : Fin 12) (sum : Int) : Int := rhe (sum * s.active.sense[n].cslsb) 40000

/-- REFCODE of a set-point in mV (R75). -/
def State.refcode (s : State) (n : Fin 12) (vset : Nat) : Int :=
  rhe ((vset : Int) * 64 * 65536) (max 1 s.active.sense[n].div)

/-- The reference REF of the error converter (R75, R82). -/
def State.refOf (s : State) (n : Fin 12) (vset : Nat) : Int :=
  let bref : Int := if s.active.sense[n].bias && !s.flag CV_SNS.FBK n then rhe ((s.fld CV_SNS.BCOMP n : Int) * 64) 1000 else 0
  clampInt 0 262143 (s.refcode n vset + s.fldS CV_TRIM.TRIM n + bref)

/-- The error word for an input in nV: E and OVR (R76). (Log entry: 47 DEDUCED.) -/
def errorCode (vd ref : Int) (elsb : Nat) : Int × Bool :=
  let lsb : Int := 250000 * 2 ^ elsb
  let e := (2 * (vd - ref * 15625) + lsb) / (2 * lsb)
  (clampInt (-256) 255 e, decide (e < -256 ∨ 255 < e))

/-- Automatic operation, by R146, of a rail's next sample. -/
def State.automatic (s : State) (n : Fin 12) (t : Nat) : Bool :=
  let st := s.loopState n
  !s.follower n && (st == stRampdown || ((st == stRamp || st == stRegulate) && s.fldAt RL_MCTL.REQ n t == 0
    && !(match (s.rail n).mode.tune with
      | some u => decide (u.fromTick ≤ t)
      | none => false)))

/-- The MODE of a sample at tick `t` (R144, R156, R347, Table 5-3). (Log entry: 31 DEDUCED.) -/
def State.sampleMode (s : State) (n : Fin 12) (t : Nat) : LoopMode :=
  let st := s.loopState n
  let auto := if (s.rail n).mode.cc then LoopMode.cc else LoopMode.cv
  if s.follower n then .cc
  else if st = stRamp ∨ st = stRegulate then
    match (s.rail n).mode.tune, s.fldAt RL_MCTL.REQ n t with
    | some u, r => if u.fromTick ≤ t then .manD else if r = 1 then .manI else if r = 2 then .manD else auto
    | none, 1 => .manI
    | none, 2 => .manD
    | none, _ => auto
  else if st = stRampdown then auto
  else .cv

/-- MDUTY of a sample: the relay's duty while an auto-tune runs (R147, R156). (Log entry: 32 DEDUCED.) -/
def State.sampleDuty (s : State) (n : Fin 12) (t : Nat) : Nat :=
  match (s.rail n).mode.tune with
  | some u =>
    if u.fromTick ≤ t then
      let a := s.fld RL_ATCTL.AMP n * 16
      if u.high then min 0xFFFFF (u.d0 + a) else u.d0 - a
    else s.fldAt RL_MDUTY.DUTY n t
  | none => s.fldAt RL_MDUTY.DUTY n t

/-- The ISET of a follower (R347): ICMD on its in-service phases, under C_bud and C_temp. -/
def State.followIset (s : State) (n : Fin 12) (t : Nat) : Int :=
  let v := match (s.group n).iset.find? fun e => decide (e.1 ≤ t) with
    | some e => e.2 * s.nspl n
    | none => 0
  let m : Int := if s.tempForbids n v then 0 else min (v.natAbs : Int) (s.budCap n)
  clampInt (-32768) 32767 (if v < 0 then -m else m)

/-- The arithmetic mode of a sample (R125): fraction in PREMATCH, CLOSE and RAMP, and while FRHOLD is 1. -/
def State.sampleFrac (s : State) (n : Fin 12) (t : Nat) : Bool :=
  let st := s.loopState n
  st == stPrematch || st == stClose || st == stRamp || s.fldAt RL_LCTL.FRHOLD n t == 1

/-- What R106 names as a sample's parameters. -/
def FrozenCfg.key (c : FrozenCfg) : List Bool × Nat × Vector (Vector Word 19) 8 × TablesE × Word × Word × Word :=
  ([c.loop.detlatch, c.loop.observer, c.loop.ffVbus, c.loop.ffLtab, c.loop.revallow], c.loop.nbiq, c.facets.map (·.coef), c.tables,
    c.dlim, c.lctl, c.fxp)

/-- Changes that a sample at tick `t` is the first to carry: a facet that comes into force (R153, R154), unless the set that is active by
then holds no VALID record of it (R48, Table 2-9), and a change of the error input (R82, R83). Answers the preset they ask for. (Log
entry: 49 DESIGN CHOICE.) -/
def State.takeChanges (s : State) (n : Fin 12) (t : Nat) : Bool × State :=
  let a := match (s.rail n).mode.facetNext with
    | some (d, f, flag) =>
      if d ≤ t ∧ !s.active.facets[n][f].valid then (false, (s.modMode n fun m => { m with facetNext := none }).setFld RL_FCTL.PEND n 0)
      else if d ≤ t then
        let s := s.modMode n fun m => { m with facet := f, facetNext := none }
        let s := s.setFld RL_FCTL.PEND n 0
        (flag, if flag then s.setFld RL_FCTL.FCHG n (s.fld RL_FCTL.FCHG n + 1) else s)
      else (false, s)
    | none => (false, s)
  let s := a.2
  match (s.rail n).sense.fbkAt with
  | some (d, v) =>
    if d ≤ t then (true, (s.setFld CV_SNS.FBK n (bit v)).modSense n fun x => { x with fbkAt := none })
    else (a.1, s)
  | none => (a.1, s)

/-- The error word of a sample, blanked or converted (R76, R78, R79). (Log entry: 29 DEDUCED.) -/
def State.errorWord (s : State) (n : Fin 12) (vd : Int) : State :=
  let c := s.active.sense[n]
  let x := (s.rail n).err
  let blank := x.fresh && !x.blanked && (s.phasesIn n phActive).any fun (p : Fin 48) => s.blanks p s.now c.blankE
  let w := if blank then (x.e, x.ovr) else errorCode vd (s.refOf n (s.fld RL_PSET.VSET n)) c.elsb
  let s := s.modErr n fun x => { x with e := w.1, ovr := w.2, blanked := blank, fresh := true }
  s.modSense n fun x => { x with ovrSeen := x.ovrSeen || w.2, blkCnt := x.blkCnt + bit blank }

/-- The residual of the model for a sample (R258). -/
def State.residual (s : State) (n : Fin 12) (eprev : Int) (v : InVec) : Int :=
  let is := s.sampleCur n v.isum
  let u := rhe ((s.fld RL_DUTY.DUTY n * v.vb : Nat) : Int) (2 ^ 20) - v.vset - rhe (s.fldS MS_LIM.MR n * is) 256
  let epred := eprev + rhe (s.fldS MS_CFG.MA n * u - s.fldS MS_CFG.MB n * eprev) 4096
  clampInt (-32768) 32767 (v.e - epred)

/-- The model supervisor on a sample (R259, R260): OOF of this sample, its residual, and the count. `eprev` is the error code
before. -/
def State.supervise (s : State) (n : Fin 12) (eprev : Int) (v : InVec) : (Bool × Int) × State :=
  let x := (s.rail n).err
  let clean := !x.blanked && !x.ovr && !v.pre && s.fld RL_TRSTAT.ACT n == 0 && !(s.group n).allOff
  let st := s.rst n
  let ev := s.flag MS_LIM.EN n && (st == stRamp || st == stRegulate || st == stRampdown) && clean && x.clean
  let res := if ev then s.residual n eprev v else 0
  let exceed := ev && decide (((atLeast1 (s.fld MS_LIM.RLIM n) : Nat) : Int) < (res.natAbs : Nat))
  let s := if ev then
      s.setFlds n [(MS_STAT.LASTRES, unsignedOf 16 res), (MS_STAT.COUNT, if exceed then s.fld MS_STAT.COUNT n + 1 else 0)]
    else s
  ((ev && x.oof, res), s.modErr n fun y => { y with clean := clean, exceed := exceed, oof := exceed && !x.exceed })

/-- The responder's criteria on the sample just taken (R195 to R200). `de` is ΔE. (Log entry: 36 DEDUCED.) -/
def State.respond (s : State) (n : Fin 12) (mode : LoopMode) (de : Int) : State :=
  let c := s.now + 2
  let e := (s.rail n).err.e
  let th := fun (f : Fld) => ((atLeast1 (s.fldStep f n c) : Nat) : Int)
  if decide (th RL_TRTHR.OTH ≤ e ∧ th RL_TRTHR.OSLP ≤ de) && s.offArmed n c then
    s.askResp n { at_ := c, kind := .off, cause := 3, fault := if s.fldStep RL_TRCTL.OREL n c = 1 then some 6 else none }
  else if s.fld RL_TRSTAT.ACT n = 1 then
    if -(s.fldStep RL_TRCTL.UEXIT n c : Int) ≤ e ∨ mode ≠ .cv then s.askResp n { at_ := c, kind := .onEnd } else s
  else if s.fld RL_TRSTAT.ACT n = 2 then
    if e < th RL_TRTHR.OTH / 2 then s.askResp n { at_ := c, kind := .offEnd } else s
  else if decide (e ≤ -th RL_TRTHR.UTH ∧ de ≤ -th RL_TRTHR.USLP) && s.onArmed n c (s.rail n).loop.count mode then
    s.askResp n { at_ := c, kind := .on, cause := 1 }
  else s

/-- The transfer count after a sample in automatic operation (R146). -/
def State.transfer (s : State) (n : Fin 12) (v : InVec) : State :=
  if !s.automatic n s.now then s.modMode n fun m => { m with xcnt := 0 }
  else
    let sg : Int := if 0 ≤ v.iset then 1 else -1
    let isetq := rhe (v.iset * 40000) s.active.sense[n].cslsb
    let counts : Bool := match v.mode with
      | .cv => decide (0 < sg * (v.isum - isetq))
      | .cc => decide (0 ≤ sg * v.e)
      | .manI => false
      | .manD => false
    let k := if counts then (s.rail n).mode.xcnt + 1 else 0
    if counts ∧ atLeast1 (s.fldAt RL_MCTL.XCNT n s.now) ≤ k then
      s.modMode n fun m => { m with xcnt := 0, cc := v.mode == .cv, preAt := some (s.now + 1) }
    else s.modMode n fun m => { m with xcnt := k }

/-- The relay of an auto-tune on a sample it runs (R156, R157). (Log entry: 32 DEDUCED.) -/
def State.relay (s : State) (n : Fin 12) (u : Tune) (e : Int) (ovr : Bool) : State :=
  if ovr then s.tuneEnd n 4 true
  else
    let hys : Int := s.fld RL_ATCTL.HYS n
    let x0 := -e
    let down := u.high && decide (x0 < -hys)
    let up := !u.high && decide (hys < x0)
    let meas := decide (3 ≤ u.cycles)
    let u := { u with eMin := if meas then (if u.seen then min u.eMin e else e) else u.eMin
                      eMax := if meas then (if u.seen then max u.eMax e else e) else u.eMax
                      seen := u.seen || meas
                      idle := if down || up then 0 else u.idle + 1
                      high := (u.high && !down) || up }
    let u := if up then
        { u with cycles := u.cycles + 1, lastUp := some s.now
                 periods := match u.lastUp with
                   | some l => if meas then (s.now - l) :: u.periods else u.periods
                   | none => u.periods }
      else u
    if s.fld RL_ATCTL.NCYC n ≤ u.periods.length then
      let s := s.setFlds n [(RL_ATRES.TU, min 65535 (rhe ((u.periods.foldl (· + ·) 0 : Nat) : Int) u.periods.length).toNat),
        (RL_ATRES.APP, (u.eMax - u.eMin).toNat)]
      s.tuneEnd n 2 true
    else s.modMode n fun m => { m with tune := some u }

/-- The auto-tune on the sample just taken. -/
def State.tuneSample (s : State) (n : Fin 12) (v : InVec) : State :=
  match (s.rail n).mode.tune with
  | some u => if u.fromTick ≤ s.now then s.relay n u v.e v.ovr else s
  | none => s

/-- The peaks and sums of a sample's current (R100, R101, R151, R347). -/
def State.countCurrent (s : State) (n : Fin 12) (is : Int) : State :=
  let x := (s.rail n).sense
  let s := (s.setFldS CV_PKMAX.I n (if x.peaks then max is (s.fldS CV_PKMAX.I n) else is)).setFldS CV_PKMIN.I n
    (if x.peaks then min is (s.fldS CV_PKMIN.I n) else is)
  let s := s.modSense n fun x => { x with peaks := true, isSum := x.isSum + is, isCnt := x.isCnt + 1 }
  let s := s.modMode n fun m => { m with isSum := m.isSum + is, isCnt := m.isCnt + 1 }
  let s := s.modGroup n fun g => { g with sum := g.sum + is, num := g.num + 1 }
  let rev := !s.revPermitted n && decide (is < -((atLeast1 (s.fldStep RL_REVS.RLIM n s.now) * 10 : Nat) : Int))
  s.modMan n fun m => { m with revRun := if rev then m.revRun + 1 else 0 }

/-- The mode's number in RL_MCTL.MODE. -/
def LoopMode.code (m : LoopMode) : Nat :=
  match m with
  | .cv => 0
  | .cc => 1
  | .manI => 2
  | .manD => 3

/-- The vector of the sample at the present tick but its VB, error word, OOF and preset (Table 4-1). (Log entry: 29 DEDUCED.) -/
def State.vectorOf (s : State) (n : Fin 12) : InVec :=
  let t := s.now
  let sm := s.sumAt n (t - s.itrig n)
  { isum := sm.1, nact := sm.2, vset := s.fld RL_PSET.VSET n
    iset := if s.follower n then s.followIset n t else s.fldS RL_PISET.ISET n
    facet := (s.rail n).mode.facet, mode := s.sampleMode n t, mduty := s.sampleDuty n t, fmode := s.sampleFrac n t }

/-- A sample of a rail at the present tick. VB of a VBUS reading that its 20 bits cannot hold is free. (Log entry: 49 DESIGN CHOICE.) -/
def State.takeSample (s : State) (n : Fin 12) (vr vl : Int) : State :=
  let t := s.now
  let old := (s.rail n).err
  let oldFacet := (s.rail n).mode.facet
  let ch := s.takeChanges n t
  let s := (ch.2.showSet n t)
  let l := (s.rail n).loop
  let m := (s.rail n).mode
  let first := decide (l.count = 0)
  let cfg := s.cfgAt n t
  let pchg := match l.lastCfg with
    | some c => c.key != cfg.key
    | none => true
  let coefs := match l.lastCfg with
    | some c => l.swapped && c.facets[oldFacet].coef != cfg.facets[m.facet].coef
    | none => false
  let vb := s.field20 s.tele.vbNow
  let s := vb.2
  let v := { s.vectorOf n with vb := vb.1 }
  let s := if s.follower n then s.setFldS RL_PISET.ISET n v.iset else s
  let asked := match m.preAt with
    | some a => decide (a ≤ t)
    | none => false
  let moved := match m.last with
    | some k => k != v.mode && v.mode != .manD
    | none => false
  let pre := !first && (ch.1 || coefs || (asked && v.mode != .manD) || moved)
  let s := s.errorWord n (if s.inLocal n then vl else vr)
  let err := (s.rail n).err
  let v := { v with e := err.e, ovr := err.ovr, pre := pre }
  let sup := s.supervise n old.e v
  let s := sup.2
  let v := { v with oof := sup.1.1 }
  let trig := s.trace[n].trig.isSome && !(l.jobs.any (·.trig)) && !(l.done.any (·.sample.trig))
  let x : Sample :=
    { at_ := t, vec := v, par := cfg.par v.facet, first := first
      conv := decide (oldFacet ≠ m.facet) || l.swapped, mark := decide (l.count % 1024 = 0) || pchg
      blk := err.blanked, pchg := pchg, trig := trig, res := sup.1.2 }
  let s := s.modLoop n fun l =>
    { l with jobs := l.jobs ++ [x], count := l.count + 1, lastAt := some t, lastCfg := some cfg, swapped := false }
  let s := s.modMode n fun m =>
    { m with last := some v.mode, lastVb := v.vb, preAt := if asked then none else m.preAt }
  let s := s.modCarrier n fun c => { c with fsw := cfg.facets[v.facet].fsw }
  let s := if s.rst n = stClose ∧ v.ovr then s.modLife n fun y => { y with closeOvr := true } else s
  let s := s.setFlds n [(RL_MCTL.MODE, v.mode.code), (RL_MCTL.PRE, bit pre), (RL_FCTL.FACET, v.facet)]
  let s := if m.tune.isSome && v.mode == .manD then s.setFld RL_MDUTY.DUTY n v.mduty else s
  let s := s.countCurrent n (s.sampleCur n v.isum)
  let de := if old.st = s.rst n ∧ old.fresh then v.e - old.e else 0
  let s := s.modErr n fun y => { y with st := s.rst n }
  ((s.transfer n v).tuneSample n v).respond n v.mode de

/-- A double-bit error in a word of the active set (R69): its owner is a rail or the device. (Log entry: 26 DEDUCED.) -/
def State.wordLost (s : State) (word : Nat) (owner : Option (Fin 12)) : State :=
  let ok := s.slotCopyOk false || s.slotCopyOk true
  let hit := fun (n : Fin 12) => (s.unmove n).live n && (match owner with
    | none => true
    | some k => k == n)
  let s := s.raise RG_EVENT.DBE 0
  let s := s.classify 0x0D (match owner with
    | none => 0xFF
    | some k => k.val) (if ok then clsTrans else clsPerm) owner word 0
  (List.finRange 12).foldl (fun (s : State) (n : Fin 12) =>
    if hit n then
      let s := if ok then s else s.modRig fun x => { x with permRails := n.val :: x.permRails }
      s.toFault n 3
    else s) s

/-- A read of the configuration cells by the logic of a rail (R67, R69): a single-bit error is corrected in the value used, and a
double-bit error is found at that read, also while the scrub is off (R68). (Log entry: 26 DEDUCED.) -/
def State.cellRead (s : State) (n : Fin 12) : CellRead → State
  | .clean => s
  | .corrected => s.raise RG_EVENT.CORR 0
  | .lost word device => s.wordLost word (if device then none else some n)

/-- The detector's comparison of D and L, in nV (R81). -/
def openDiffers (d l : Int) : Bool := decide (l < (((d - l).natAbs : Nat) : Int) * 8)

/-- The detector of a rail is armed (R81). -/
def State.lineArmed (s : State) (n : Fin 12) (l : Int) : Bool :=
  let st := s.rst n
  s.active.sense[n].bias && (st == stRamp || st == stRegulate || st == stRampdown) && !s.flag CV_SNS.FBK n
    && (s.rail n).sense.fbkAt.isNone && decide (250000000 ≤ l)

/-- D and L of a rail compared, in nV: since when the condition of R83 has held, whatever FBK is, and since when the armed detector has
seen the contrary without a break (R81). (Log entry: 37 DEDUCED.) -/
def State.compareLine (s : State) (n : Fin 12) (d l : Int) : State :=
  let armed := s.lineArmed n l
  s.modSense n fun x =>
    { x with goodSince := if openDiffers d l then none else some (x.goodSince.getD s.now)
             badSince := if armed && openDiffers d l then some (x.badSince.getD s.now) else none }

/-- RAIL_SAMPLE: the next sample instant of a rail (R22, R105). `vr` is VSPn − VSNn and `vl` is VLSn − AGND, in nV; the converter takes
the one that Table 3-1 selects. `cell` is what the corrector finds in the words that the sample uses (R67). (Log entries: 26 DEDUCED, 29
DEDUCED.) -/
def execRailSample (n : Fin 12) (x : SampleIn) (s : State) : Host.Outcome State Fault Refusal :=
  clocked s (
    if !s.live n then s
    else
      let from_ := match (s.rail n).loop.lastAt with
        | some t => max s.now (t + 1)
        | none => s.now
      let t := s.nextGrid from_ (s.period n) (s.fld TB_RSMP.OFFSET n % s.period n)
      (((((s.respTo n t).seenTo t).advance t).cellRead n x.cell).compareLine n x.vr x.vl).takeSample n x.vr x.vl)

/-- MODEL_DISAGREEMENT: the count of exceeding samples reaches MCNT64 × 64 (R260). (Log entry: 53 DESIGN CHOICE.) -/
def execModelDisagreement (n : Fin 12) (s : State) : Host.Outcome State Fault Refusal :=
  clocked s (
    if atLeast1 (s.fld MS_LIM.MCNT64 n) * 64 ≤ s.fld MS_STAT.COUNT n then
      let res := s.fld MS_STAT.LASTRES n
      let cnt := s.fld MS_STAT.COUNT n
      let s := s.setFlds n [(MS_STAT.DISF, 1), (MS_STAT.COUNT, 0)]
      let s := s.classify 0x0B n clsTrans (some n) res cnt
      let s := s.trigger n trgModel false
      if s.flag MS_LIM.FBKACT n && s.active.sense[n].fallback && !s.flag CV_SNS.FBK n then
        s.modSense n fun x => { x with fbkAt := some (s.now + 2, true) }
      else s
    else s)

/-- AUTOTUNE_NO_OSCILLATION: 4096 samples without a relay switch (R157). -/
def execAutotuneNoOscillation (n : Fin 12) (s : State) : Host.Outcome State Fault Refusal :=
  clocked s (match (s.rail n).mode.tune with
    | some u => if 4096 ≤ u.idle then s.tuneEnd n 5 true else s
    | none => s)

end Sys2Proof.Machine
end

