-- ==== Sys2Proof/Machine/Reads.lean ====
section
/-! DEFINITION. Machine/Reads.lean: the word that a read of each register returns (§11.2, R8, R412, R419): most registers are
held in the register file, and the rest follow from other state. -/
namespace Sys2Proof.Machine

/-- The element that a register's key names: registers behind a select field stand once for each of its values (R423). -/
def State.keyOf (s : State) (r : Reg) (n : Nat) : Nat :=
  match r with
  | .CV_CALDATA => s.fld CV_CALSEL.CHAN 0
  | .CMP_THR => s.fld CMP_SEL.WIN 0
  | .TH_CFG => s.fld TH_SEL.INPUT 0
  | .TH_PAR1 => s.fld TH_SEL.INPUT 0
  | .TH_PAR2 => s.fld TH_SEL.INPUT 0
  | .TH_PAR3 => s.fld TH_SEL.INPUT 0
  | .TM_CHCFG => chanKey (s.fld TM_CHSEL.TIMER 0) (s.fld TM_CHSEL.CHAN 0)
  | .TM_CHVAL => chanKey (s.fld TM_CHSEL.TIMER 0) (s.fld TM_CHSEL.CHAN 0)
  | .MS_CFG => s.fld MS_SEL.RAIL 0
  | .MS_LIM => s.fld MS_SEL.RAIL 0
  | .MS_STAT => s.fld MS_SEL.RAIL 0
  | _ => n

/-- A register of an absent element: `k` is its key (R8, R422, R423, Table 15-20). -/
def State.absentReg (s : State) (r : Reg) (k : Nat) : Bool :=
  s.small &&
    (let b := r.row.base
     if 0x400 ≤ b ∧ b < 0x1000 then decide (6 ≤ k)
     else if 0x1000 ≤ b ∧ b < 0x1C00 then decide (24 ≤ k)
     else if 0x1C00 ≤ b ∧ b < 0x1E00 then decide (16 ≤ k)
     else match r with
       | .TB_RSMP => decide (6 ≤ k)
       | .TB_RSLK => decide (6 ≤ k)
       | .CV_SNS => decide (6 ≤ k)
       | .CV_TRIM => decide (6 ≤ k)
       | .CV_PKMAX => decide (6 ≤ k)
       | .CV_PKMIN => decide (6 ≤ k)
       | .MS_CFG => decide (6 ≤ k)
       | .MS_LIM => decide (6 ≤ k)
       | .MS_STAT => decide (6 ≤ k)
       | .BR_STAT => decide (8 ≤ k)
       | .CMP_THR => absentWin k
       | .CV_CALDATA => absentChan k
       | _ => false)

/-- Rails and phases with an alert flag, and strands (Table 15-18). -/
def State.railAlert (s : State) (n : Nat) : Bool :=
  [RL_PMSTAT.REVBLK, RL_PMSTAT.RESPLICE, RL_TRSTAT.ONF, RL_TRSTAT.OFFF, RL_STATUS.FLTF, LK_EVENT.NOTFAIL, LK_EVENT.WDX,
    LK_EVENT.REBIND, LK_EVENT.GONE, LK_EVENT.BOUND, MS_STAT.DISF].any (fun f => s.flag f n)
    || bitAt (s.fld ALR_EVT.AT 0) n || bitAt (s.fld ALR_EVT.SPD 0) n
def State.phaseAlert (s : State) (p : Nat) : Bool :=
  [PH_PEVT.GFIT, PH_MSTAT.RETF, PH_MSTAT.HOLDF, PH_BTRIM.TLIM].any fun f => s.flag f p
def State.strandAlert (s : State) (k : Nat) : Bool := s.flag ST_FLAG.MISS k || s.flag ST_TEST.FAIL k

/-- A mask of the numbers below `k` that satisfy a test. -/
def maskOf (k : Nat) (f : Nat → Bool) : Nat := (List.range k).foldl (fun a i => a + bit (f i) * 2 ^ i) 0

/-- The record that LB_SEL names (R266). -/
def State.logSel (s : State) : Option (List Byte) :=
  ((s.flash.valid .logbook).find? fun e => Region.logbook.seqOf e.2 == s.fld LB_SEL.SEQ 0).map (·.2)

/-- The code of a key slot (Table 14-20). -/
def KeyState.code (k : KeyState) : Nat :=
  match k with
  | .empty => 0
  | .loaded => 1
  | .revoked => 2

/-- The state of a rigging slot (Table 14-17). -/
def State.rigCode (s : State) (b : Bool) : Nat :=
  if (s.rigSlot b).refused ∨ s.rigHalf b then 6 else if (s.rigSlot b).bytes = [] then 0 else 1

/-- FU_INFO0, FU_INFO1 and FU_INFO2 (Table 14-17). A slot without an image, or whose first sector is half-erased (R388), shows 0 beside
its state. (Log entry: 19 DEDUCED.) -/
def State.fuInfo (s : State) : Nat × Nat × Nat :=
  let slot := fun (b : Bool) =>
    let f := s.fw b
    if f.st = .empty ∨ f.st = .opened ∨ s.flash.half.contains (fwSector b) then (f.st.code * 2 ^ 24, 0, 0)
    else (f.st.code * 2 ^ 24 + f.clvl * 65536 + f.cmin * 256 + f.setfmt, f.ver, f.seq)
  let rig := fun (x : Bool) (v : Nat) =>
    let r := s.rigSlot x
    (s.rigCode x * 2 ^ 24, v, if r.bytes = [] ∨ s.flash.half.contains (rigSector x) then 0 else beNat (memBytes erased r.bytes 0x18 4))
  let b := s.flash.boot
  match s.fld FU_ISEL.SEL 0 with
  | 0 => slot false
  | 1 => slot true
  | 2 => rig false b.vrigA
  | 3 => rig true b.vrigB
  | 4 => (bit b.prefRig * 2 ^ 24 + b.fallbacks % 65536, b.fwFloor, b.rigFloor)
  | _ => (0, 0, 0)

/-- KEY_STAT (Table 14-20). (Log entry: 3 DESIGN CHOICE.) -/
def State.keyStat (s : State) : Nat :=
  let ks := fun (v : Vector KeySlot 4) => (List.range 4).foldl (fun a i => a + (vget v i).st.code * 4 ^ i) 0
  let fk := fun (b : Bool) => if b then 1 else 2
  bit s.flash.lockPec * 2 ^ 25 + bit s.flash.lockSig * 2 ^ 24 + (fk s.flash.fkey0 + 4 * fk s.flash.fkey1) * 2 ^ 16
    + ks s.flash.debugKeys * 256 + ks s.flash.imageKeys

/-- SJ_STATUS (Table 14-18). -/
def State.sjStatus (s : State) : Nat :=
  s.setFmt * 2 ^ 24 + s.freeSettings % 256 * 65536
    + (liveRecs s.flash.journal).length % 65536

/-- The group record that LY_GSEL names (Table 12-15). -/
def State.selGroup (s : State) : Option GroupE := s.active.lanyard.groups[s.fld LY_GSEL.REC 0]?

/-- LY_GSTAT, LY_GCMD, LY_GTOT and LY_GPWR (Tables 12-15 and 12-16). -/
def State.groupWords (s : State) : Nat × Nat × Int × Int :=
  match s.selGroup with
  | none => (0, 0, 0, 0)
  | some g =>
    let x := s.group g.rail
    let lead := decide (g.role = 1)
    let att := if lead then (s.attached g.rail).foldl (fun a r => a ||| 2 ^ r.1) 0 else 0
    let nspl := if lead then s.nsplGroup g.rail else s.nspl g.rail
    (g.group * 2 ^ 22 + g.rail.val * 2 ^ 18 + g.role * 2 ^ 16 + g.idx * 2 ^ 13 + g.nmem * 2 ^ 9
        + bit (s.groupActive g.rail) * 256 + att % 256,
      nspl * 2 ^ 23 + min 127 x.age * 65536 + unsignedOf 16 x.icmd, if lead then x.tot else 0, if lead then x.pwr else 0)

/-- PH_PPER.PCUR (Table 6-11): the period of the carrier in which the present tick lies; 0 while it is stopped. -/
def State.pcur (s : State) (p : Fin 48) : Nat :=
  match s.phRail p with
  | none => 0
  | some n =>
    let c := (s.rail n).carrier
    if !c.running then 0 else if c.ck ≤ s.now * 64 then c.pk else c.pprev

/-- PH_PPER.SLEW (R175): the carrier period running differs from the target in force. -/
def State.slewing (s : State) (p : Fin 48) : Bool :=
  match s.phRail p with
  | none => false
  | some n => (s.rail n).carrier.running && s.pcur p != targetPeriod (s.rail n).carrier.fsw

/-- The window bits of one word of CMP_ABOVE or CMP_BELOW (R229, R424). -/
def State.levels (s : State) (i : Nat) (l : Level) : Nat :=
  maskOf 32 fun b => decide (32 * i + b < 72) && !(s.small && absentWin (32 * i + b)) && (s.win (winOf (32 * i + b))).live == l

/-- The word that a read returns of a register's own fields, `n` the element of its address and `k` its key. -/
def State.shown (s : State) (r : Reg) (n k : Nat) : Nat :=
  let w := (s.reg r k).toNat
  match r with
  | .GLB_ID => if s.small then 0x5C2406B0 else w
  | .GLB_STATUS => w + ((List.range 12).countP fun i => s.live i) * 256
  | .ALR_SUM => bit s.alertPending * 2 ^ 31 + s.alertSources
  | .ALR_RAIL => maskOf 12 s.railAlert
  | .ALR_PHLO => maskOf 32 s.phaseAlert
  | .ALR_PHHI => maskOf 16 fun p => s.phaseAlert (32 + p)
  | .ALR_ST => maskOf 32 s.strandAlert
  | .TB_EPOCH_HI => s.K * 65536 + s.E / 2 ^ 32 % 65536
  | .TB_EPOCH_LO => s.E % 2 ^ 32
  | .LY_STATUS =>
    let off := fun (f : Fld) => f.of (s.reg r k) * 2 ^ f.lo
    w - off LY_STATUS.TALIGN - off LY_STATUS.TSTEER + bit s.talign * 2 ^ LY_STATUS.TALIGN.lo + bit s.tsteer * 2 ^ LY_STATUS.TSTEER.lo
  | .LY_GSTAT => s.groupWords.1
  | .LY_GCMD => s.groupWords.2.1
  | .LY_GTOT => unsignedOf 32 s.groupWords.2.2.1
  | .LY_GPWR => unsignedOf 32 s.groupWords.2.2.2
  | .CV_CHDATA =>
    let c := s.fld CV_CHSEL.CHAN 0
    if 96 ≤ c ∨ (s.small ∧ absentChan c) then 0 else vget s.tele.corr c * 65536 + vget s.tele.raw c
  | .FM_STATUS =>
    let u := (List.finRange 12).any fun (n : Fin 12) => (s.rail n).loop.unbraided && s.live n && (s.railStrands n).length == 1
    w - FM_STATUS.UNBRAID.of (s.reg r k) * 2 ^ FM_STATUS.UNBRAID.lo + bit u * 2 ^ FM_STATUS.UNBRAID.lo
  | .CV_SNS => w - bit (bitAt w 24) * 2 ^ 24 + bit (s.inLocal n) * 2 ^ 24
  | .CV_TRIM => w - bit (bitAt w CV_TRIM.FROZEN.lo) * 2 ^ CV_TRIM.FROZEN.lo + bit (s.trimFrozen (railOf n)) * 2 ^ CV_TRIM.FROZEN.lo
  | .CMP_CONS =>
    let x := s.fld CMP_SEL.WIN 0
    if s.small ∧ absentWin x then 0 else (vget s.active.comp x).cons % 16
  | .CMP_ABOVE => s.levels n .above
  | .CMP_BELOW => s.levels n .below
  | .RL_STATUS =>
    let s := s.respTo (railOf n) s.now
    let w := (s.reg r k).toNat
    w - bit (bitAt w RL_STATUS.CONT.lo) * 2 ^ RL_STATUS.CONT.lo + bit (s.contOut (railOf n)) * 2 ^ RL_STATUS.CONT.lo
  | .TR_CTRL => if s.small then w - bitsOf w (TR_CTRL.EN.lo + 6) 6 * 2 ^ (TR_CTRL.EN.lo + 6) else w
  | .PR_QSTAT => w + s.queuedRails.length * 2 ^ 24 + s.slotRails.length * 2 ^ 20 + bit s.budgetWait * 2 ^ PR_QSTAT.BWAIT.lo
  | .TIO_IN => maskOf 8 fun i => s.tioLevel ⟨i % 8, Nat.mod_lt _ (by decide)⟩
  | .RL_MDUTY => match (s.rail (railOf n)).mode.tune with
    | some u => if u.fromTick ≤ s.now then s.sampleDuty (railOf n) s.now else w
    | none => w
  | .PH_OVR => if n % 2 = 1 then w - bit (bitAt w 1) * 2 + s.fld PH_OVR.SWAP (n - 1) * 2 else w
  | .PH_PPER => bit (s.slewing (phaseOf n)) * 2 ^ 31 + s.pcur (phaseOf n) % 2 ^ 18
  | .PH_PSTAT =>
    let x := s.phase (phaseOf n)
    let j := if s.now * 64 < x.start then x.dixWas else x.dix
    w - PH_PSTAT.DIDX.of (s.reg r k) * 2 ^ PH_PSTAT.DIDX.lo + j * 2 ^ PH_PSTAT.DIDX.lo
  | .PH_IRAW => (s.irawNow (phaseOf n)).toNat
  | .PH_MSTAT =>
    let x := s.phase (phaseOf n)
    let st := if (s.phRail (phaseOf n)).isNone then phNone else s.phState (phaseOf n)
    let ev := x.events.countP fun b => decide (s.now / 4096 < b + 488282)
    w / 2 ^ 27 * 2 ^ 27 + min 7 ev * 2 ^ PH_MSTAT.NRETRY.lo + s.fld PH_MSTAT.FCAUSE k * 2 ^ PH_MSTAT.FCAUSE.lo + st
  | .PH_BTRIM =>
    w - PH_BTRIM.TR.of (s.reg r k) * 2 ^ PH_BTRIM.TR.lo + unsignedOf 10 (s.trimAt (phaseOf n) s.now) * 2 ^ PH_BTRIM.TR.lo
  | .RL_PMSTAT => w / 2 ^ 24 * 2 ^ 24 + s.phCounts (railOf n)
  | .RL_TRSTAT => ((s.respTo (railOf n) s.now).reg r k).toNat
  | .PH_WEAR => (s.phase (phaseOf n)).wear / 4096 % 2 ^ 32
  | .FAN_STAT => w - FAN_STAT.DOUT.of (s.reg r k) * 2 ^ FAN_STAT.DOUT.lo + s.fanDuty (chanOf n) % 1024 * 2 ^ FAN_STAT.DOUT.lo
  | .LB_STATUS => w % 2 ^ 31 + bit s.logSel.isNone * 2 ^ 31
  | .LB_DATA => match s.logSel with
    | none => 0
    | some e => recField e (4 * n) 4
  | .FU_INFO0 => s.fuInfo.1
  | .FU_INFO1 => s.fuInfo.2.1
  | .FU_INFO2 => s.fuInfo.2.2
  | .SJ_STATUS => s.sjStatus
  | .KEY_STAT => s.keyStat
  | _ => w

/-- The word that a read returns of the register `r` at the address of element `n`; a register of an absent element reads 0
(R8, R422, R423). -/
def State.readWord (s : State) (r : Reg) (n : Nat) : Word :=
  let k := s.keyOf r n
  if s.absentReg r k then 0 else BitVec.ofNat 32 (s.shown r n k)

/-- What was due by now has taken place: the requests of the responder and of row 7 (R198), and the edges that are seen at the TIO pins
(R364). (Log entry: 36 DEDUCED.) -/
def State.dueAll (s : State) : State := s.respAll.seenAll

/-- The register at an address as it stands; 0 where the map lists none (R412). -/
def State.wordAt (s : State) (a : Nat) : Word :=
  match regAtAddr a with
  | none => 0
  | some (r, n) => s.readWord r n

/-- The word that a read of an address returns: the trace window (R270), the staging window (R55), a register as what was due by now has
left it, or 0 where the map lists none (R412). -/
def State.hostRead (s : State) (a : Nat) : Word :=
  if 0x8000 ≤ a then BitVec.ofNat 32 (s.traceWord a)
  else if 0x4000 ≤ a then
    BitVec.ofNat 32 (beNat (memBytes 0 s.flash.staging (s.fld RG_PAGE.PAGE 0 * 16384 + (a - 0x4000)) 4))
  else s.dueAll.wordAt a

end Sys2Proof.Machine
end

