-- ==== Sys2Proof/Machine/TimeBase.lean ====
section
/-! DEFINITION. Machine/TimeBase.lean: SYNCIN tracking, holdover and the loss of a synthesiser path (§1.5). -/
namespace Sys2Proof.Machine

/-- M in ticks and in taps, and the half-width W of the acceptance window in taps (R29, R32). -/
def State.tbM (s : State) : Nat := s.fld TB_SYNC.MULT 0
def State.tbMTaps (s : State) : Nat := s.tbM * 64
def State.tbW (s : State) : Nat := s.tbM * 123 / 64

/-- The time base enters holdover (R34, R36, R37): HOLD, HOLDIN and a TBHOLD record. -/
def State.enterHoldover (s : State) : State :=
  let s := s.setFlds 0 [(TB_STATUS.HOLD, 1), (TB_STATUS.HOLDIN, 1), (TB_STATUS.LOCK, 0)]
  let s := s.modTime fun t =>
    { t with edge := none, raw := none, drift := 0, onRef := 0, misses := 0, relock := 0, acquiring := false }
  s.driftCheck.classify 0x0F 0xFF clsTrans none (s.fld TB_MCNT.COUNT 0) 0

/-- Acquisition starts: the next SYNCIN edge sets the flywheel (R31, R35, R36). -/
def State.startAcquire (s : State) : State :=
  s.modTime fun t => { t with acquiring := true, edge := none, drift := 0, onRef := 0, misses := 0, relock := 0 }

/-- A switch of TB_CTRL.SRC (R36). (Log entry: 39 DEDUCED.) -/
def State.tbSource (s : State) (old new : Bool) : State :=
  if old && !new then s.enterHoldover
  else if !old && new then s.startAcquire
  else s

/-- TB_CTRL.ACQ in holdover with RELOCK 1 starts acquisition (R35). -/
def State.tbAcquire (s : State) : State :=
  if s.flag TB_CTRL.RELOCK 0 && s.flag TB_CTRL.SRC 0 && s.flag TB_STATUS.HOLD 0 then s.startAcquire else s

/-- Whether the acceptance windows run: SYNCIN is tracked or being acquired (R32, R35). -/
def State.tbTracking (s : State) : Bool := s.flag TB_CTRL.SRC 0 && (!s.flag TB_STATUS.HOLD 0 || s.time.acquiring)

/-- Whether the sync reference point of an edge, `e` taps of absolute time, lies within a tick of T mod M = 0 (R31). -/
def State.onReference (s : State) (e : Nat) : Bool :=
  let m := max 1 s.tbMTaps
  let r := (e + min (s.fld TB_SPHASE.PHASE 0) (m - 1)) % m
  decide (r ≤ 64 ∨ m ≤ r + 64)

/-- How far SYNCIN has run off once an edge comes `dev` taps after the flywheel expects it (R30), in 1/25 tap: TBCLK follows within 0.5 %
of M, which is 8 M of these units, what an interval runs beyond that adds up, and one that runs less lets TBCLK catch up. (Log entry: 50
DESIGN CHOICE.) -/
def State.tbDrift (s : State) (dev : Int) : Int :=
  let lim : Int := (8 * s.tbM : Nat)
  let v := s.time.drift + 25 * dev
  if lim < v then v - lim else if v < -lim then v + lim else 0

/-- An accepted edge at `e` taps (R31, R34, R35): the run towards LOCK, with SPDRIFT as LOCK leaves it (R17). (Log entry: 39 DEDUCED.) -/
def State.acceptEdge (s : State) (e abs : Nat) (drift : Int) : State :=
  let run := if s.onReference abs then s.time.onRef + 1 else 0
  let s := s.modTime fun t => { t with edge := some e, drift := drift, misses := 0, onRef := run }
  if 4 ≤ run then
    ((s.setFlds 0 [(TB_STATUS.LOCK, 1), (TB_STATUS.HOLD, 0)]).modTime fun t => { t with acquiring := false }).driftCheck
  else if run = 0 then (s.setFld TB_STATUS.LOCK 0 0).driftCheck
  else s

/-- An edge that arrives in holdover: the run of intervals within W of M (R35). (Log entry: 39 DEDUCED.) -/
def State.holdEdge (s : State) (e : Nat) : State :=
  let m := s.tbMTaps
  let good := match s.time.raw with
    | some r => decide (m ≤ (e - r) + s.tbW ∧ e - r ≤ m + s.tbW)
    | none => false
  let run := if good then s.time.relock + 1 else 0
  let s := s.modTime fun t => { t with relock := run }
  if 16 ≤ run ∧ !s.flag TB_CTRL.RELOCK 0 then s.startAcquire else s

/-- SYNCIN_EDGE: a rising edge at SYNCIN, `tap` taps after the present tick (R32, R33, R35). With SRC 0 SYNCIN has no effect. A SYNCIN
further than 0.5 % off runs out of the acceptance window (R30), though the flywheel paragraph of §1.5 counts every period from the edge
last accepted: its drift is held against W beside the edge's own distance. (Log entry: 50 DESIGN CHOICE.) -/
def execSyncinEdge (tap : Fin 64) (s : State) : Host.Outcome State Fault Refusal :=
  clocked s (
    let e := s.now * 64 + tap.val
    let abs := s.T * 64 + tap.val
    if !s.flag TB_CTRL.SRC 0 then s
    else
      let s := if s.tbTracking then
          match s.time.edge with
          | none => s.acceptEdge e abs 0
          | some p =>
            let dev : Int := (e : Int) - (p + s.tbMTaps : Nat)
            let drift := s.tbDrift dev
            if dev.natAbs ≤ s.tbW ∧ drift.natAbs ≤ 25 * s.tbW then s.acceptEdge e abs drift
            else s.bump TB_XCNT.COUNT 0
        else s.holdEdge e
      s.modTime fun t => { t with raw := some e })

/-- SYNC_WINDOW_CLOSE: an acceptance window closes with no accepted edge, and the edge is bridged (R34). (Log entry: 39 DEDUCED.) -/
def execSyncWindowClose (s : State) : Host.Outcome State Fault Refusal :=
  clocked s (
    match s.time.edge with
    | none => s
    | some p =>
      if !s.tbTracking then s
      else
        let e := p + s.tbMTaps
        let s := s.advance ((e + s.tbW) / 64 + 1)
        let s := (s.bump TB_MCNT.COUNT 0).raise TB_STATUS.MISS 0
        let s := s.modTime fun t => { t with edge := some e, misses := t.misses + 1 }
        if s.time.misses < 8 then s
        else if s.flag TB_STATUS.HOLD 0 then
          s.modTime fun t => { t with acquiring := false, edge := none, drift := 0, onRef := 0, misses := 0, relock := 0 }
        else s.enterHoldover)

end Sys2Proof.Machine
end

