-- ==== Sys2Proof/Machine/Writes.lean ====
section
/-! DEFINITION. Machine/Writes.lean: what a host write does: which words a register discards (R8, R158, R210, R243, R303, R420),
the repeat tags (§11.7), the access rules (R11 to R13, R415), the effect of each register's write, and the commands it carries. -/
namespace Sys2Proof.Machine

/-- A number within limits, both included. -/
def within (lo hi v : Nat) : Bool := decide (lo ≤ v ∧ v ≤ hi)

/-- Fields of a word read in two's complement. -/
def Fld.ofS (f : Fld) (w : Word) : Int := signedOf f.width (f.of w)

/-- A rail whose RWL fields the host may write (R11, R414). -/
def State.isOff (s : State) (n : Nat) : Bool := s.rst n == stOff

/-- The pair of a phase is idle (R180). -/
def State.pairIdle (s : State) (p : Nat) : Bool :=
  [phaseOf (p / 2 * 2), phaseOf (p / 2 * 2 + 1)].all fun (q : Fin 48) =>
    s.phRet q || (match s.phRail q with
      | none => true
      | some n => !s.live n)

/-- A limit of a profile path (Tables 5-10 and 5-11) and a temperature window (R241) that a register accepts. -/
def profileBad (w : Word) : Bool := !within 1 1000000 (bitsOf w.toNat 0 20)
def windowBad (w : Word) (lo hi : Int) : Bool :=
  let a := signedOf 16 (bitsOf w.toNat 0 16)
  let b := signedOf 16 (bitsOf w.toNat 16 16)
  !decide (lo ≤ a ∧ a < b ∧ b ≤ hi)

/-- A partner that RL_REVS does not accept while SHEN is 1 (Table 7-13, R425). -/
def State.partnerBad (s : State) (n : Nat) (w : Word) : Bool :=
  RL_REVS.SHEN.of w == 1 &&
    (RL_REVS.PARTNER.of w == n || decide (12 ≤ RL_REVS.PARTNER.of w) || s.absentRail (RL_REVS.PARTNER.of w))

/-- A word that its register discards as a whole, with the flags this sets; none where the word is taken (R415). (Log entry: 43 DEDUCED.)
-/
def State.refuses (s : State) (r : Reg) (k : Nat) (w : Word) : Option (List (Fld × Nat)) :=
  let no := fun (bad : Bool) (f : Fld) (n : Nat) => if bad then some [(f, n)] else none
  let mcfg := fun (bad : Bool) => no bad RL_MCTL.CFGERR k
  let prot := fun (bad : Bool) => no bad RL_PSTAT.PCFGERR k
  let target := fun (_ : Unit) =>
    match (if s.flag RL_MCTL.TSRC k then [(RL_MCTL.TWERR, k)] else []) ++ (if s.tuning k then [(RL_MCTL.CFGERR, k)] else []) with
    | [] => none
    | fs => some fs
  match r with
  | .TB_SYNC => no (!within 50 2000 (TB_SYNC.MULT.of w)) TB_STATUS.CFGERR 0
  | .TB_RSMP => no (s.isOff k && (!within 8 200 (TB_RSMP.PERIOD.of w) || decide (TB_RSMP.PERIOD.of w ≤ TB_RSMP.OFFSET.of w)))
      TB_STATUS.CFGERR 0
  | .LY_CTRL => no (LY_CTRL.EN.of w == 0 && s.flag LY_CTRL.EN 0 && s.lanBusy) LY_EVENT.CFGERR 0
  | .CV_VBDIV => no (!within 0x10000 0x4000000 w.toNat) CV_STATUS.CFGERR 0
  | .CV_CALSEL => no (decide (96 ≤ CV_CALSEL.CHAN.of w)) CV_STATUS.CFGERR 0
  | .CV_CALDATA => no (!within 0x7000 0x9000 (CV_CALDATA.GAIN.of w)) CV_STATUS.CFGERR 0
  | .CV_TRIG => no (decide (96 ≤ CV_TRIG.CH0.of w ∨ 96 ≤ CV_TRIG.CH1.of w)) CV_STATUS.CFGERR 0
  | .PH_ICAL => no (!within 0x7000 0x9000 (PH_ICAL.GAIN.of w)) CV_STATUS.CFGERR 0
  | .RL_DLIM => no (decide (RL_DLIM.DMAX.of w ≤ RL_DLIM.DMIN.of w)) RL_LSTAT.LCFGERR k
  | .RL_VSLEW => mcfg (profileBad w)
  | .RL_VACC => mcfg (profileBad w)
  | .RL_VJERK => mcfg (profileBad w)
  | .RL_ISLEW => mcfg (profileBad w)
  | .RL_IACC => mcfg (profileBad w)
  | .RL_IJERK => mcfg (profileBad w)
  | .RL_ATCTL => mcfg (!within 2 15 (RL_ATCTL.NCYC.of w) || !within 1 0x0CCC (RL_ATCTL.AMP.of w))
  | .RL_MCTL => mcfg (RL_MCTL.REQ.of w == 3)
  | .RL_MDUTY => mcfg (s.tuning k)
  | .RL_VTGT => target ()
  | .RL_ITGT => target ()
  | .RL_VOC => no (s.flag RL_MCTL.TSRC k) RL_MCTL.TWERR k
  | .RL_FCTL => no (RL_FCTL.FORCE.of w == 1 && !s.active.facets[railOf k][facetOf (RL_FCTL.FSEL.of w)].valid) RL_FCTL.FERR k
  | .RL_REVS => no (s.partnerBad k w) RL_PMSTAT.PMCFGERR k
  | .RL_OV => prot (decide (RL_OV.MV.of w ≤ s.fld RL_UV.MV k))
  | .RL_UV => prot (decide (s.fld RL_OV.MV k ≤ RL_UV.MV.of w))
  | .RL_IBUD => prot (decide (RL_IBUD.IBUDGET.of w < RL_IBUD.IFLOOR.of w))
  | .RL_PRIO => prot (s.isOff k && !(decide (RL_PRIO.TSENS.of w < 16) || RL_PRIO.TSENS.of w == 0xFF))
  | .RL_OVL => prot (!within 1 10000 (RL_OVL.TOVL.of w))
  | .RL_TWF => prot (windowBad w (-160) 480)
  | .RL_TWR => prot (windowBad w (-320) 600)
  | .PR_VBOV => if PR_VBOV.MV.of w ≤ s.fld PR_VBUV.MV 0 then some [] else none
  | .PR_VBUV => if s.fld PR_VBOV.MV 0 ≤ PR_VBUV.MV.of w then some [] else none
  | .CMP_SEL => no (decide (72 ≤ CMP_SEL.WIN.of w)) CMP_STATUS.CFGERR 0
  | .CMP_THR => no (decide (CMP_THR.UPPER.of w < CMP_THR.LOWER.of w)) CMP_STATUS.CFGERR 0
  | .MS_SEL => if 12 ≤ MS_SEL.RAIL.of w then some [] else none
  | .LK_CTRL => no (!within 50 5000 (LK_CTRL.WDOG.of w)) LK_EVENT.CFGERR k
  | .TM_CHSEL => no (decide (12 ≤ TM_CHSEL.TIMER.of w)) TM_CHSEL.CFGERR 0
  | .FAN_IBAND => if FAN_IBAND.IHI.of w ≤ FAN_IBAND.ILO.of w then some [] else none
  | _ => none

/-- The bits of a register that a host write may set now (R11, R180, R315, R368, R424). (Log entry: 32 DEDUCED.) -/
def State.writable (s : State) (r : Reg) (k : Nat) : Nat :=
  let x := r.row
  let m := if x.rwl ≠ 0 ∧ s.isOff k then x.rw ||| x.rwl else x.rw
  match r with
  | .HB_CTRL => if s.flag HB_CTRL.PECLOCK 0 then m &&& 0x7FFFFCFF else m
  | .RG_CTRL => if s.flag RG_CTRL.SIGREQ 0 then m &&& 0xFFFFFFFD else m
  | .PH_OVR => if !s.pairIdle k then 0 else if k % 2 = 1 then m &&& 0xFFFFFFFD else m
  | .RL_MCTL => if s.tuning k then m &&& 0xFFFFFCFF else m
  | .TM_CTRL => if 2 ≤ k then m &&& 0xFFF8FFFF else m
  | .TR_CTRL => if s.small then m &&& 0xFFFFF03F else m
  | _ => m

/-- The W1C bits of a register that a write of 1 clears now: a drift flag stays while its condition stands (R99). -/
def State.clearable (s : State) (r : Reg) : Nat :=
  match r with
  | .CV_STATUS => r.row.w1c &&& 0xFFFFFFE7 ||| (if s.tele.xref0 < 2 then 8 else 0) ||| (if s.tele.xref1 < 2 then 16 else 0)
  | _ => r.row.w1c

/-- The word a register holds after a write by the access rules (R11 to R13). A flag that hardware has set at this tick stays set, and a
count that hardware has counted up at this tick is left at 1. (Log entry: 1 DESIGN CHOICE.) -/
def State.written (s : State) (r : Reg) (k : Nat) (w : Word) : Word :=
  let h := BitVec.ofNat 32 (s.hotBits r k)
  if r.counter then (if r = .PR_QSTAT then s.reg r k &&& 0xFFF00000#32 else 0) ||| h
  else
    let m := BitVec.ofNat 32 (s.writable r k)
    let c := BitVec.ofNat 32 (s.clearable r)
    (s.reg r k &&& ~~~m &&& ~~~(c &&& w &&& ~~~h)) ||| (w &&& m)

/-- What a count is left at that a W1C flag beside it clears: 1 where hardware has counted it up at this tick (R13, R415). -/
def State.leftCount (s : State) (f : Fld) (k : Nat) : Nat := bit (bitAt (s.hotBits f.reg k) f.lo)

/-- The flags that a write from `s`, now at `t`, sets in passing: WERR of the owning rail (R11), OVERR of a pair that is not idle
(R180), CFGERR of a change of REQ during an auto-tune (R157). -/
def State.writeFlags (s t : State) (r : Reg) (k : Nat) (w : Word) : State :=
  let t := if r.row.rwl ≠ 0 ∧ !s.isOff k ∧ (s.reg r k ^^^ w).toNat &&& r.row.rwl ≠ 0 then t.raise RL_STATUS.WERR k else t
  match r with
  | .PH_OVR => if !s.pairIdle k ∧ (PH_OVR.INV.of w ≠ s.fld PH_OVR.INV k ∨ (k % 2 = 0 ∧ PH_OVR.SWAP.of w ≠ s.fld PH_OVR.SWAP k))
      then t.raise PH_OVR.OVERR k else t
  | .RL_MCTL => if s.tuning k ∧ RL_MCTL.REQ.of w ≠ s.fld RL_MCTL.REQ k then t.raise RL_MCTL.CFGERR k else t
  | _ => t

/-- A field or a part of the state that a write sets beside the word (R214, R315, R96, R99, R190, Tables 3-27, 6-12, 9-18,
13-8). -/
def State.companions (s : State) (r : Reg) (k : Nat) (w : Word) : State :=
  match r with
  | .RL_VOC => s.setFld RL_VOC.VALID k 1
  | .HB_CTRL => if s.flag HB_CTRL.PECLOCK 0 then s.setFld HB_CTRL.PEC 0 2 else s
  | .PH_PEVT => if PH_PEVT.SKIPF.of w = 1 then s.setFld PH_PEVT.SKIPCNT k (s.leftCount PH_PEVT.SKIPCNT k) else s
  | .PH_ISTAT => if PH_ISTAT.OVRF.of w = 1 then s.setFld PH_ISTAT.OVRCNT k (s.leftCount PH_ISTAT.OVRCNT k) else s
  | .LB_STATUS => if LB_STATUS.LOSTF.of w = 1 then s.setFld LB_STATUS.LOST 0 (s.leftCount LB_STATUS.LOST 0) else s
  | .PH_WEAR => s.modPhase (phaseOf k) fun x => { x with wear := w.toNat * 4096 }
  | .CV_STATUS =>
    s.modTele fun t =>
      { t with driftAt0 := if s.flag CV_STATUS.TC0DRIFT 0 then t.driftAt0 else none
               driftPerm0 := s.flag CV_STATUS.TC0DRIFT 0 && t.driftPerm0
               driftAt1 := if s.flag CV_STATUS.TC1DRIFT 0 then t.driftAt1 else none
               driftPerm1 := s.flag CV_STATUS.TC1DRIFT 0 && t.driftPerm1 }
  | .CV_TRIM =>
    let v := s.fldS CV_TRIM.TRIM k
    s.setFld CV_TRIM.LIMIT k (bit (decide (v = -1024 ∨ v = 1023)))
  | .TM_TOP => s.setFld TM_STAT.TOPPEND k 1
  | _ => s

/-- A number kept under an index; 0 where none is kept. -/
def keptNat (l : List (Nat × Nat)) (i : Nat) : Nat :=
  match l.find? fun e => e.1 == i with
  | some e => e.2
  | none => 0
def keepNat (l : List (Nat × Nat)) (i v : Nat) : List (Nat × Nat) := (i, v) :: l.filter fun e => !(e.1 == i)

/-- An energy accumulator read by the supervisor: its increase counts in units of 1 MJ (R391). -/
def State.readMeter (s : State) (idx acc : Nat) : State :=
  let last := keptNat s.flash.energyRead idx
  let part := keptNat s.flash.energyPart idx + (if acc < last then acc else acc - last)
  let s := s.modFlash fun f =>
    { f with energyRead := keepNat f.energyRead idx acc, energyPart := keepNat f.energyPart idx (part % 1000000000) }
  if part < 1000000000 then s else s.countLife idx (part / 1000000000)

/-- The energy counters of every rail brought up to date. (Log entry: 19 DEDUCED.) -/
def State.readMeters (s : State) : State :=
  s.forRails fun s n =>
    let s := s.readMeter (7 + n) (s.fld RL_EFWD_HI.E n * 2 ^ 32 + s.fld RL_EFWD_LO.E n)
    s.readMeter (19 + n) (s.fld RL_EREV_HI.E n * 2 ^ 32 + s.fld RL_EREV_LO.E n)

/-- LC_SEL latches the selected counter (R392); a counter of an absent rail or of no number latches 0 (Table 15-21). (Log entry: 19
DEDUCED.) -/
def State.latchCounter (s : State) : State :=
  let s := s.readMeters
  let i := s.fld LC_SEL.IDX 0
  let v := if 55 ≤ i ∨ (7 ≤ i ∧ s.absentRail ((i - 7) % 12)) then 0 else keptNat s.flash.counters i
  s.setFlds 0 [(LC_VAL_HI.VALUE, v / 2 ^ 32), (LC_VAL_LO.VALUE, v)]

/-- A write of TMk_CTRL acts (R360, R369): EN set restarts the prescaler, and a timer is never its own slave. (Log entry: 43 DEDUCED.) -/
def State.timerCtrl (s t : State) (k : Fin 12) : State :=
  let t := if t.fld TM_CTRL.SLV k ≠ 0 ∧ t.fld TM_CTRL.MSTR k = k.val
    then (t.setFld TM_CTRL.SLV k 0).raise TM_CHSEL.CFGERR 0 else t
  let t := if !s.flag TM_CTRL.EN k && t.flag TM_CTRL.EN k then t.restartPre k else t
  let t := if t.flag TM_CTRL.EN k then t else t.modTimer k fun x => { x with slaveAt := [] }
  s.retime t

/-- A write of TMk_CNT restarts the prescaler (R360), and the count before it is kept for a capture of the same tick. A step that falls on
the same tick is lost (R361). (Log entry: 46 DEDUCED.) -/
def State.countWrite (s t : State) (k : Fin 12) : State :=
  let old := match (s.timer k).wrote with
    | some e => if e.1 = s.now then e else (s.now, s.fld TM_CNT.COUNT k)
    | none => (s.now, s.fld TM_CNT.COUNT k)
  let clock := t.fld TM_CTRL.SLV k == 3
  (t.restartPre k).modTimer k fun x =>
    { x with wrote := some old, slaveAt := x.slaveAt.filter fun e => !(clock && e == s.now) }

/-- A write of TM_CHCFG sets OUT to OINIT (R362). -/
def State.channelMode (s t : State) (y : Nat) : State :=
  s.retime (t.setOut (railOf (y / 4)) (y % 4) (t.flag TM_CHCFG.OINIT y))

/-- A compare value is used from the first step after its write (R363): a step at this tick still uses the old one. -/
def State.compareValue (s t : State) (y : Nat) : State :=
  t.modTimer (railOf (y / 4)) fun x =>
    let c := vget x.chans (y % 4)
    if c.at_ = some s.now then x
    else { x with chans := x.chans.set (chanOf (y % 4)) { old := s.fld TM_CHVAL.VALUE y, at_ := some s.now } }

/-- Factory calibration of every telemetry channel and phase current converter (R85, R91). (Log entry: 9 DESIGN CHOICE.) -/
def State.factoryCal (s : State) : State :=
  let word := fun (c : Int × Nat) (w : Nat) => BitVec.ofNat 32 (c.2 % 65536 * 65536 + unsignedOf w c.1)
  let s := (List.range 96).foldl (fun (s : State) c => s.setReg .CV_CALDATA c (word (Config.factoryTelemetry c) 12)) s
  s.forPhases fun s p => s.setReg .PH_ICAL p (word (Config.factoryPhase p) 10)

/-- RL_ATCTL 1 (R156). (Log entry: 32 DEDUCED.) -/
def State.tuneStart (s : State) (n : Fin 12) : State :=
  if s.rst n = stRegulate ∧ s.fld RL_MCTL.REQ n = 0 ∧ s.fld RL_MCTL.MODE n = 0 ∧ s.flag RL_PSET.VREST n ∧ !s.flag RL_MCTL.TSRC n
      ∧ !s.follower n ∧ !s.tuning n then
    (s.setFld RL_ATRES.CODE n 1).modMode n fun m => { m with tune := some { d0 := (s.rail n).loop.st.dp, fromTick := s.now + 2 } }
  else s.setFld RL_ATRES.CODE n 3

/-- RL_TCTL commands (R103): a frame that ends in the tick of a clear adds its energy after the clear. -/
def State.clearPeaks (s : State) (n : Fin 12) : State :=
  (s.setFlds n [(CV_PKMAX.I, 0), (CV_PKMIN.I, 0)]).modSense n fun x => { x with peaks := false }
def State.clearEnergy (s : State) (n : Fin 12) : State :=
  let s := (s.setFlds n [(RL_EFWD_HI.E, 0), (RL_EFWD_LO.E, 0), (RL_EREV_HI.E, 0), (RL_EREV_LO.E, 0)]).modSense n
    fun x => { x with resF := 0, resR := 0 }
  if s.tele.frameAt = s.now ∧ s.tele.frameLen ≠ 0 then s.addEnergy n s.tele.frameLen else s

/-- RL_CTRL 2 (R228). -/
def State.clearLock (s : State) (n : Fin 12) : State := s.setFld RL_STATUS.LOCKOUT n 0

/-- RESTORE (R83): taken when the condition has held for 100 ms, discarded otherwise. -/
def State.restoreSense (s : State) (n : Fin 12) : State :=
  match (s.rail n).sense.goodSince with
  | none => s
  | some t =>
    if s.flag CV_SNS.FBK n ∧ t + 100 * ms ≤ s.now then s.modSense n fun x => { x with fbkAt := some (s.now + 2, false) } else s

/-- GLB_CTRL 2 (R418): whether deep standby may be entered. -/
def State.standbyOk (s : State) : Bool :=
  (List.range 12).all (fun n => !s.live n) && s.fld RG_STATUS.STATE 0 != rgPending && !s.flag FU_STATUS.ACTPEND 0

/-- FU_CMD 12 (Table 14-9); `v` is the word that stands at the address. (Log entry: 18 DEDUCED.) -/
def State.fuSetsave (s : State) (arg : Nat) (v : Word) : State :=
  let a := arg % 65536
  if !savable a then s.fuRefuse 0x97
  else if s.journalFull then s.fuRefuse 0x98
  else
    s.fuBusy.journalOp { kind := if bitAt arg 16 then 2 else 1, fmt := s.setFmt, key := a
                         v0 := if bitAt arg 16 then 0 else v.toNat } true

/-- FU_CMD (R405, Table 14-9). The supervisor takes commands while it runs; in RECOVERY the boot ROM takes 1 to 5 (R394). `v` is what
SETSAVE saves. (Log entry: 19 DEDUCED.) -/
def State.fuCmd (s : State) (w v : Word) : State :=
  let c := FU_CMD.CMD.of w
  let arg := FU_CMD.ARG.of w
  if !(s.svRuns || (s.fld SV_STATUS.STATE 0 == 3 && decide (1 ≤ c ∧ c ≤ 5))) || c == 0 || c == 15 then s
  else
    let s := s.setFld FU_STATUS.LASTCMD 0 c
    if s.flag FU_STATUS.BUSY 0 ∧ c ≠ 5 ∧ c ≠ 7 then s.fuRefuse 0x90
    else match c with
      | 1 => s.fuFwopen
      | 2 => s.fuFwwrite arg
      | 3 => s.fuFwclose
      | 4 => s.fuFwact arg
      | 5 => s.fuFwcancel
      | 6 => s.fuCommit
      | 7 => s.fuRollback
      | 8 => s.fuRigsave
      | 9 => s.fuKeyload arg
      | 10 => s.fuKeyrevoke
      | 11 => s.fuLock arg
      | 12 => s.fuSetsave arg v
      | 13 => s.fuModelsave arg
      | _ => s.fuSetdef

/-- What a write of RL_CTRL does beside its fields (R222, R227, R228): command 1 comes before a stop request of the same word. (Log entry:
43 DEDUCED.) -/
def State.railCtrl (s t : State) (n : Fin 12) (w : Word) : State :=
  let t := match RL_CTRL.CMD.of w with
    | 1 => t.toFault n 1
    | 2 => t.clearLock n
    | _ => t
  let t := if !t.flag RL_CTRL.EN n then t.stopRequest n else if s.flag RL_CTRL.EN n then t else t.withdrawStop n
  t.startCheck n

/-- What a write of RL_MCTL does beside its fields (R136, R147, R297). -/
def State.modeCtrl (s t : State) (n : Fin 12) : State :=
  let t := if s.fld RL_MCTL.REQ n ≠ 2 ∧ t.fld RL_MCTL.REQ n = 2
    then t.writeReg .RL_MDUTY n (BitVec.ofNat 32 (t.rail n).loop.st.dp) else t
  if !s.flag RL_MCTL.TSRC n && t.flag RL_MCTL.TSRC n then (t.linkItgt n).startCheck n else t

/-- A change of SWAP or INV from `s` to `t` acts at the next tick, with both outputs of the pair both-off at that moment (R180). -/
def State.pairOff (s t : State) (k : Nat) : State :=
  let new := fun (f : Fld) => s.fld f k != t.fld f k
  if new PH_OVR.INV || new PH_OVR.SWAP then
    let off := fun (u : State) (i : Nat) => u.forceOff (phaseOf (k / 2 * 2 + i)) ((t.now + 1) * 64)
    off (off t 0) 1
  else t

/-- What a write from `s`, whose word stands at `t`, brings about, and the command it carries. (Log entry: 43 DEDUCED.) -/
def State.afterWrite (s t : State) (r : Reg) (k : Nat) (w : Word) : State :=
  let n : Fin 12 := railOf k
  let cmd := bitsOf w.toNat 24 4
  match r with
  | .GLB_CTRL => match cmd with
    | 1 => t.modPower fun p => { p with resetReq := true }
    | 2 => if t.standbyOk then t.modPower fun p => { p with standbyReq := true } else t.raise GLB_STATUS.DSBYERR 0
    | _ => t
  | .TB_CTRL =>
    let t := (t.modTime fun x => { x with soWritten := true }).tbSource (s.flag TB_CTRL.SRC 0) (t.flag TB_CTRL.SRC 0)
    if TB_CTRL.ACQ.of w = 1 then t.tbAcquire else t
  | .PH_OVR => s.pairOff t k
  | .TB_RSLK =>
    if TB_RSLK.CLRW.of w = 1 then
      t.setFld TB_RSLK.WORST k (if bitAt (t.hotBits .TB_RSLK k) TB_RSLK.WORST.lo then t.fld TB_RSLK.LAST k else 0)
    else t
  | .LY_CTRL => if s.flag LY_CTRL.EN 0 = t.flag LY_CTRL.EN 0 then t else t.lanEnable (t.flag LY_CTRL.EN 0)
  | .LY_ACT => t.lyAct w
  | .RL_CTRL => s.railCtrl t n w
  | .RL_VOC => t.startCheck n
  | .RL_OV => t.startCheck n
  | .RL_UV => t.startCheck n
  | .RL_ITGT => t.startCheck n
  | .PR_VBOV => t.startChecks
  | .PR_VBUV => t.startChecks
  | .RL_MCTL => s.modeCtrl t n
  | .RL_ATCTL => match cmd with
    | 1 => t.tuneStart n
    | 2 => t.tuneEnd n 7 true
    | _ => t
  | .RL_TCTL => match cmd with
    | 1 => t.clearPeaks n
    | 2 => t.clearEnergy n
    | 3 => (t.clearPeaks n).clearEnergy n
    | _ => t
  | .LK_CTRL =>
    let t := t.modLink n fun _ => (s.linkBegun n s.now).link n
    let t := if s.flag LK_CTRL.EN n = t.flag LK_CTRL.EN n then t else (t.linkEnable n (t.flag LK_CTRL.EN n)).startCheck n
    let t := t.modLink n fun l => { l with params := none }
    if cmd = 1 then t.linkUnbind n else t
  | .ST_TEST => if cmd = 1 ∧ t.idleSpare (strandOf k) then t.testStart (strandOf k) else t
  | .CV_CTRL => if cmd = 1 then t.factoryCal else t
  | .CV_SNS => if CV_SNS.RESTORE.of w = 1 then t.restoreSense n else t
  | .TM_CTRL => s.timerCtrl t n
  | .TM_CNT => s.countWrite t n
  | .TM_CHCFG => s.channelMode t k
  | .TM_CHVAL => s.compareValue t k
  | .FAN_CTRL => s.fanControl t (chanOf k)
  | .FM_CMD => t.fmCmd w
  | .LB_CTRL => if cmd = 1 then t.lbErase else t
  | .TR_CMD => t.trCmd w
  | .RP_CTRL => t.rpCmd w
  | .DBG_CMD => (t.dbgCmd w).startChecks
  | .RG_CMD => t.rgCmd w
  | .FU_CMD => t.fuCmd w (s.wordAt (FU_CMD.ARG.of w % 65536))
  | .LC_SEL => t.latchCounter
  | _ => t

/-- A word taken by its register, with all that it brings about. (Log entry: 43 DEDUCED.) -/
def State.performWrite (s : State) (r : Reg) (k : Nat) (w : Word) : State :=
  s.afterWrite ((s.writeFlags (s.writeReg r k (s.written r k w)) r k w).companions r k w) r k w

/-- The command part of a word (R320): the CMD field, or the RESTORE bit. -/
def cmdPart (r : Reg) (w : Word) : Nat :=
  match r with
  | .RG_CMD => RG_CMD.CMD.of w
  | .CV_SNS => CV_SNS.RESTORE.of w
  | _ => bitsOf w.toNat 24 4

/-- A tagged command (R320). -/
def isTagged (r : Reg) (w : Word) : Bool := r.tagged && bitsOf w.toNat 28 4 != 0 && cmdPart r w != 0

/-- What the repeat tag says of a word (R321). -/
inductive TagSays where
  | run | duplicate | clash
deriving DecidableEq, Repr

/-- The address of a register. -/
def Reg.addr (r : Reg) (n : Nat) : Nat := r.row.base + r.row.stride * n

/-- The time within which a tag is not taken again: 48 829 bells (R321). -/
def tagSpan : Nat := 48829 * 4096

/-- The remembered command of the same tag decides (R321). -/
def State.tagSays (s : State) (r : Reg) (n : Nat) (w : Word) : TagSays :=
  if !isTagged r w then .run
  else match s.bus.tags.find? fun e => e.addr == r.addr n with
    | none => .run
    | some e =>
      if bitsOf e.word.toNat 28 4 ≠ bitsOf w.toNat 28 4 ∨ e.at_ + tagSpan ≤ s.now then .run
      else if e.word = w then .duplicate else .clash

/-- The tagged command executed last at a register is remembered (R321). -/
def State.remember (s : State) (r : Reg) (n : Nat) (w : Word) : State :=
  if isTagged r w then
    s.modBus fun b => { b with tags := { addr := r.addr n, word := w, at_ := s.now } :: b.tags.filter fun e => e.addr != r.addr n }
  else s

/-- An accepted word at a register that is present, whose element is `k`: discarded whole, found a repeat, or performed (R320, R321). -/
def State.acceptAt (s : State) (r : Reg) (n k : Nat) (w : Word) : State :=
  match s.refuses r k w with
  | some fs => fs.foldl (fun (s : State) f => s.raise f.1 f.2) s
  | none => match s.tagSays r n w with
    | .duplicate => s.bump HB_CNT.DUPCNT 0
    | .clash => s.raise HB_STATUS.TAGERR 0
    | .run => (s.remember r n w).performWrite r k w

/-- An accepted word at a register: its element is the one that a select field names, where it has one. -/
def State.acceptWord (s : State) (r : Reg) (n : Nat) (w : Word) : State := s.acceptAt r n (s.keyOf r n) w

/-- A write of a W1C register or of the alert mask makes an acknowledged alert unacknowledged (R326). (Log entries: 42 DEDUCED, 43
DEDUCED.) -/
def State.unack (s : State) (r : Reg) : State :=
  if r.row.w1c ≠ 0 ∨ r = .ALR_MASK then s.setFld HB_STATUS.ACKD 0 0 else s

/-- Sleep ends (R371, R441): the timers return to TBCLK with their low-power remainder discarded, and the fans are supervised again. -/
def State.sleepEnd (s : State) : State :=
  let t := s.modPower fun p => { p with mode := .running, lpAcc := 0 }
  let t := t.forTimers fun (u : State) (k : Fin 12) =>
    if u.flag TM_CTRL.LPCLK k then u.modTimer k fun x => { x with from_ := u.now, pre := 0, lpAcc := 0 }
    else u.modTimer k fun x => { x with from_ := u.now }
  t.fansRefresh

/-- The own address wakes the block from sleep before the word is taken (R440, R441). (Log entry: 20 DEDUCED.) -/
def State.awaken (s : State) : State := if s.power.mode = .sleep then s.sleepEnd else s

/-- A word that the host writes to a register, accepted at the present tick (R309). A device that is not ready refuses its address
(R316); a register of an absent element discards the word (R8). -/
def State.regWrite (s : State) (r : Reg) (n : Nat) (w : Word) : State :=
  if !s.ready then s
  else
    let s := s.awaken
    if s.absentReg r (s.keyOf r n) then s.raise GLB_STATUS.AWERR 0 else (s.acceptWord r n w).unack r

/-- A word that the host writes to an address (R55, R270, R412). -/
def State.hostWrite (s : State) (a : Nat) (w : Word) : State :=
  if !s.ready then s
  else if 0x8000 ≤ a then s.awaken.traceWindow a w
  else if 0x4000 ≤ a then s.awaken.stagingPut a w
  else match regAtAddr a with
    | none => s
    | some (r, n) => s.regWrite r n w

/-- The bytes of a write that the device answers (Table 11-3): `n` of them, and one for the PEC byte where writes carry one. -/
def State.answers (s : State) (n : Nat) (ok : Bool) : List Bool := List.replicate (n + bit (decide (2 ≤ s.bus.pec))) ok

/-- A register write of one word begins at an address, whose bytes set the pointer (R308); the word, which is acknowledged, advances it
(R309). -/
def State.openWrite (s : State) (a : Nat) : State :=
  s.modBus fun b =>
    { b with ptr := (a + 4) % 65536, snap := [], reading := false, block := true
             inStaging := decide (0x4000 ≤ a ∧ a < 0x8000), past := false, acks := s.answers 7 true }

/-- A register write of one word that the host sends to a register, with what was due before done first: refused at its address while the
device is not ready (R316). (Log entry: 42 DEDUCED.) -/
def State.rowWrite (s : State) (r : Reg) (n : Nat) (w : Word) : State :=
  let s := s.dueAll
  if !s.ready then s.modBus fun b => { b with acks := s.answers 7 false } else (s.openWrite (r.addr n)).regWrite r n w

/-- The same at an address. -/
def State.rowWriteAt (s : State) (a : Nat) (w : Word) : State :=
  let s := s.dueAll
  if !s.ready then s.modBus fun b => { b with acks := s.answers 7 false } else (s.openWrite a).hostWrite a w

/-- A word whose CMD field names a command. -/
def withCmd (w : Word) (c : Nat) : Word := setBits w 24 4 c

end Sys2Proof.Machine
end

