-- ==== Sys2Proof/Machine/Activate.lean ====
section
/-! DEFINITION. Machine/Activate.lean: a set that becomes active (R41, R62, R63, R243, R382): what each section loads, the
presets (R51), the end of a check (R57), the swap boundary (R60, R64) and the scrub of the configuration cells (R68 to R70). -/
namespace Sys2Proof.Machine

/-- What a set puts into a register acts at the boundary tick (R62), whatever delay a host write of it has. (Log entry: 25 DEDUCED.) -/
def State.actNow (s : State) (r : Reg) (n : Nat) : State := { s with wlog := s.wlog.filter fun e => e.1 != ⟨r, n⟩ }

/-- A field set by a section (R62). (Log entry: 13 DEDUCED.) -/
def State.load (s : State) (n : Nat) (f : Fld) (v : Nat) : State := (s.setFld f n v).actNow f.reg n

/-- Fields of one element loaded in turn. -/
def State.loads (s : State) (n : Nat) (fs : List (Fld × Nat)) : State := fs.foldl (fun s e => s.load n e.1 e.2) s

/-- A rail number as registers show it: 0xF for none. -/
def railCode (r : Option (Fin 12)) : Nat :=
  match r with
  | some n => n.val
  | none => 0xF

/-- The SPLICE entry of a phase (R181): a phase of a live rail that joins is shed (R63), and a retired or held phase stays so. (Log entry:
25 DEDUCED.) -/
def State.loadSplice (s : State) (g : RigSet) (p : Fin 48) : State :=
  let e := g.splice[p]
  let old := s.phRail p
  let s := s.setFlds p [(PH_PCFG.RAIL, railCode e.rail), (PH_PCFG.ORDER, e.order), (PH_PCFG.OFFSET, e.offset)]
  let st := s.fld PH_MSTAT.STATE p
  let keeps := decide (st = phRetired ∨ st = phHeld)
  if old = e.rail then s
  else match e.rail with
    | none => if keeps then s else s.setFld PH_MSTAT.STATE p phNone
    | some n =>
      let s := if keeps then s else s.setFld PH_MSTAT.STATE p (if s.live n then phShed else phNone)
      let s := s.modPhase p fun x =>
        { x with due := (s.rail n).carrier.k + 1, since := s.now, shedAt := none, shedding := false, addDue := false }
      if s.live n then s else s.powerDown p

/-- The STRAND entry of a strand: a strand keeps its state where its binding stays; one that is bound leaves test and probation (R251,
R256), and one that is retired is bound and stays idle (R257). (Log entry: 25 DEDUCED.) -/
def State.loadStrand (s : State) (g : RigSet) (k : Fin 32) : State :=
  let e := g.strand[k]
  let was := s.fld ST_CFG.ROLE k
  let same := decide (was = e.role ∧ s.fld ST_CFG.RAIL k = railCode e.rail)
  let s := s.setFlds k [(ST_CFG.RAIL, railCode e.rail), (ST_CFG.ROLE, e.role)]
  if same then s
  else if e.rail.isSome then
    let s := (s.setFlds k [(ST_CFG.STATE, bit (!s.flag ST_CFG.RETIRED k)), (ST_TEST.BUSY, 0)]).modStrand k
      fun x => { x with probation := false }
    s.modLoop (railOf (railCode e.rail)) fun l => { l with unbraided := false }
  else if was = 0 then s
  else s.setFld ST_CFG.STATE k 0

/-- The sections of a rail: LOOP into the sample and profile registers where the rail is in use (Table 2-8), PROTECT (R243), and
LINK (Table 2-13, R286). -/
def State.loadRail (s : State) (g : RigSet) (n : Fin 12) : State :=
  let l := g.loop[n]
  let p := g.prot.rails[n]
  let k := g.link[n]
  let s := if g.railInUse n then
      s.loads n [(TB_RSMP.PERIOD, l.period), (TB_RSMP.OFFSET, l.offset), (TB_RSMP.DETLATCH, bit l.detlatch),
        (RL_VSLEW.LIMIT, l.slew), (RL_VACC.LIMIT, l.acc), (RL_VJERK.LIMIT, l.jerk)]
    else s
  let s := if g.loaded then
      let ov := s.field20 p.ov
      let uv := ov.2.field20 p.uv
      uv.2.setFlds n [(RL_OV.MV, ov.1), (RL_UV.MV, uv.1), (RL_IBUD.IBUDGET, p.ibudget), (RL_IBUD.IFLOOR, p.ifloor),
        (RL_PRIO.PRIO, p.prio), (RL_PRIO.TSENS, p.tsens), (RL_OVL.IOVL, p.iovl), (RL_OVL.TOVL, p.tovl),
        (RL_TWF.LO, unsignedOf 16 p.tfLo), (RL_TWF.HI, unsignedOf 16 p.tfHi),
        (RL_TWR.LO, unsignedOf 16 p.trLo), (RL_TWR.HI, unsignedOf 16 p.trHi)]
    else s
  s.loadLink n k

/-- The PINS entry of a temperature input: a change of TYPE sets the parameters to the reset values of the new type (Tables 13-21 and
13-22). (Log entry: 25 DEDUCED.) -/
def State.loadTemp (s : State) (g : RigSet) (i : Fin 16) : State :=
  let e := g.tin[i]
  let s := s.setFlds i [(TH_CFG.TYPE, e.type), (TH_CFG.RAIL, railCode e.rail)]
  if (s.temp i).type = e.type then s
  else
    let s := s.setFlds i [(TH_PAR1.P1, if e.type = 3 then 1000000 else 10000), (TH_PAR2.P2, 10000),
      (TH_PAR3.BN, if e.type = 2 then 16515 else 3435), (TH_PAR3.OFS, 0)]
    s.modTemp i fun x => { x with type := e.type, low := none, high := none }

/-- The sections of the device: COMPARATOR thresholds (R232, R455), the device part of PROTECT (R243), PINS (R382) and LANYARD (R340).
(Log entry: 25 DEDUCED.) -/
def State.loadDevice (s : State) (g : RigSet) : State :=
  let s := s.forWins fun s x => s.setFlds x [(CMP_THR.UPPER, g.comp[x].upper), (CMP_THR.LOWER, g.comp[x].lower)]
  let s := if g.loaded then s else s.forWins fun s x => s.modWin x fun w => { failed := w.failed }
  let s := if g.loaded then
      let ov := s.field20 g.prot.vbusOv
      let uv := ov.2.field20 g.prot.vbusUv
      uv.2.setFlds 0 [(PR_PBUDGET.PBUDGET, g.prot.pbudget), (PR_VBOV.MV, ov.1), (PR_VBUV.MV, uv.1),
        (PR_START.NSTART, g.prot.nstart)]
    else s
  let s := (List.finRange 8).foldl (fun (s : State) (i : Fin 8) =>
    s.setFlds i [(TIO_AUX.FUNC, g.tio[i].func), (TIO_AUX.SEL, g.tio[i].sel), (TIO_AUX.POL, g.tio[i].pol)]) s
  let s := (List.finRange 16).foldl (fun (s : State) (i : Fin 16) => s.loadTemp g i) s
  let s := if g.optLanyard ∧ g.lanyard.ring ≠ s.flag LY_CTRL.EN 0 then
      (s.setFld LY_CTRL.EN 0 (bit g.lanyard.ring)).lanEnable g.lanyard.ring
    else s
  s.memCheck.fansRefresh

/-- The PRESET entries in order (R51): each value is written to its register's RW and RWL fields, and acts at the boundary tick (R62).
(Log entry: 25 DEDUCED.) -/
def State.loadPresets (s : State) (g : RigSet) : State :=
  g.presets.foldl (fun (s : State) e => match regAtAddr e.1 with
    | none => s
    | some (r, n) => (s.performWrite r (s.keyOf r n) e.2).actNow r (s.keyOf r n)) s

/-- The sections of a set that becomes active (R41). A rail whose group record changes knows nothing of its new group (R344). (Log
entries: 3 DESIGN CHOICE, 11 DESIGN CHOICE, 25 DEDUCED.) -/
def State.loadSections (s : State) (g : RigSet) : State :=
  let was := s
  let s := { s with active := g }
  let s := s.forRails fun s n => if s.groupOf n = was.groupOf n then s else s.modGroup n fun _ => {}
  let s := s.forPhases fun s p => s.loadSplice g p
  let s := s.forStrands fun s k => s.loadStrand g k
  let s := s.forRails fun s n => s.loadRail g n
  let s := s.loadDevice g
  let s := s.forRails fun s n => s.showBinding n
  let s := s.forPhases fun s p => s.showCause p
  s.setFlds 0 [(RG_AID.ID, g.imageId), (RG_ASEQ.VALUE, g.imgSeq), (RG_STATUS.NOACT, bit (!g.loaded)),
    (RG_ACRC.VALUE, if g.loaded then (Config.cellCrc { g with imgSeq := 0, signed := false, keyIdx := 0 }).toNat else 0)]

/-- A set becomes active: its sections, then its presets (R41, R51). (Log entry: 25 DEDUCED.) -/
def State.loadSet (s : State) (g : RigSet) : State := ((s.loadSections g).loadPresets g).startChecks

/-- The PRESET entries in order, each accepted by its register as it then stands (R51). (Log entry: 23 DEDUCED.) -/
def State.presetsTaken (s : State) : List (Nat × Word) → Bool
  | [] => true
  | e :: es =>
    match regAtAddr e.1 with
    | none => false
    | some (r, n) =>
      let k := s.keyOf r n
      (s.refuses r k e.2).isNone && (s.performWrite r k e.2).presetsTaken es

/-- Whether the registers accept the presets of a set (R51): each is judged after the sections of the set and the presets before it, on a
device whose rails are OFF, as the rails that are not have a rule of their own (PRESETRWL). (Log entry: 23 DEDUCED.) -/
def State.presetOk (s : State) (g : RigSet) : Bool :=
  let s := s.forRails fun s n => (s.setFld RL_STATUS.STATE n stOff).modMode n fun m => { m with tune := none }
  (s.loadSections g).presetsTaken g.presets

/-- CHECK_DONE: the check in progress ends (R57). (Log entry: 48 DESIGN CHOICE.) -/
def execCheckDone (s : State) : Host.Outcome State Fault Refusal :=
  clocked s (
    if s.fld RG_STATUS.STATE 0 ≠ rgChecking ∨ !s.svRuns then s
    else
      let len := s.fld RG_SLEN.SLEN 0
      let i : Img := memBytes 0 s.flash.staging 0 len
      match s.checkImage i len i.signed (s.sigOk i) s.presetOk with
      | .ok g =>
        { (s.setFlds 0 [(RG_STATUS.STATE, rgReady), (RG_SID.ID, g.imageId), (RG_EVENT.DONE, 1)]) with shadow := g }
      | .refused c d => (s.emptyShadow.setFld RG_STATUS.STATE 0 rgStaging).rgRefuse c d)

/-- The boot record after a swap names the slot that holds the new active image (R395). (Log entry: 25 DEDUCED.) -/
def State.preferSlot (s : State) : State :=
  let holds := fun b => s.rigHolds b s.active.imageId s.active.imgSeq s.active.signed
  if !s.active.loaded then s.bootSave
  else (s.modFlash fun f =>
    { f with boot := { f.boot with prefRig := if holds false then false else holds true || f.boot.prefRig } }).bootSave

/-- The outcome of a swap that a lanyard activation asked for (R358). -/
def State.swapResult (s : State) (r : SwapReq) (code : Nat) : State :=
  match r.act with
  | none => s
  | some a => s.sendActRes a.src a.actid 1 code

/-- A facet change that the old set's scheduler decided for the first new-set sample or before is dropped: only the new set's evaluation
counts for that sample (R65). (Log entry: 25 DEDUCED.) -/
def State.dropFacet (s : State) (n : Fin 12) : State :=
  match (s.rail n).mode.facetNext with
  | none => s
  | some e =>
    if e.1 ≤ s.nextGrid s.now (s.period n) (s.fld TB_RSMP.OFFSET n % s.period n) then
      (s.modMode n fun m => { m with facetNext := none }).setFld RL_FCTL.PEND n 0
    else s

/-- The sets exchange places (R60, R62 to R64). (Log entry: 25 DEDUCED.) -/
def State.exchange (s : State) : State :=
  let old := s.active
  let oldId := s.fld RG_AID.ID 0
  let s := s.loadSet s.shadow
  let s := { s with shadow := old }
  let s := s.setFlds 0 [(RG_SID.ID, oldId), (RG_STATUS.STATE, rgReady), (RG_EVENT.SWAPPED, 1),
    (RG_LASTE_HI.EPOCH_H, s.E / 2 ^ 32), (RG_LASTE_LO.EPOCH_L, s.E)]
  let s := s.modRig fun _ => { swap := none, permRails := [] }
  let s := s.forRails fun s n =>
    if s.live n then ((s.modLoop n fun l => { l with swapped := true }).modMode n fun m => { m with exits := 0 }).dropFacet n else s
  (s.countLife 4 1).preferSlot

/-- SWAP_BOUNDARY: the boundary of the pending swap (R60). -/
def execSwapBoundary (s : State) : Host.Outcome State Fault Refusal :=
  clocked s (match s.rig.swap with
    | none => s
    | some r =>
      let s := s.advance (s.now + (s.ticksTo r.epoch).toNat)
      match s.swapBroken with
      | some e =>
        let s := (s.setFld RG_STATUS.STATE 0 rgReady).modRig fun x => { x with swap := none }
        (s.rgRefuse e.1 e.2).swapResult r e.1
      | none => s.exchange.swapResult r 1)

/-- A double-bit error in the shadow set (R70). (Log entry: 26 DEDUCED.) -/
def State.shadowLost (s : State) : State :=
  let s := (s.raise RG_EVENT.SHDBE 0).rgLost
  match s.rig.swap with
  | none => s
  | some r => ((s.modRig fun x => { x with swap := none }).rgRefuse 0x2D 0).swapResult r 0x2D

/-- SCRUB_PASS: a pass over both sets ends (R68). `single` counts the single-bit errors it corrected, `active` names the active-set words
it found lost, with the rail that owns each or none for a device word (a CRC mismatch is one of these), and `shadow` says that it found a
shadow-set word lost. While the scrub is off there is no pass, and the operands say what the reads of cells by the logic have found: the
errors are corrected in the values used and detected all the same, and nothing is written back or counted (R67, R68). (Log entry: 26
DEDUCED.) -/
def execScrubPass (single : Nat) (active : List (Nat × Option (Fin 12))) (shadow : Bool) (s : State) :
    Host.Outcome State Fault Refusal :=
  done s (
    if s.power.mode ≠ .running then s
    else
      let on := s.flag RG_CTRL.SCRUBEN 0
      let s := if single = 0 then s
        else
          let s := s.raise RG_EVENT.CORR 0
          if on then (s.setFld RG_SCRUB.CORR 0 (min 0xFFFF (s.fld RG_SCRUB.CORR 0 + single))).classify 0x0C 0xFF clsInfo none single 0 else s
      let s := active.foldl (fun (s : State) e => s.wordLost e.1 e.2) s
      let s := if shadow then s.shadowLost else s
      if on then s.setFld RG_SCRUB.PASS 0 (s.fld RG_SCRUB.PASS 0 + 1) else s)

end Sys2Proof.Machine
end

