-- ==== Sys2Proof/Machine/Bell.lean ====
section
/-! DEFINITION. Machine/Bell.lean: the bell boundary (R19) and what falls on it: the epoch step of the ring, carrier starts, wear,
rotation and the lifetime counters. -/
namespace Sys2Proof.Machine

/-- A step of T is permitted (R342): every rail OFF or RETIRED, no swap and no activation pending. -/
def State.stepAllowed (s : State) : Bool :=
  (List.finRange 12).all (fun (n : Fin 12) => !s.live n) && s.rig.swap.isNone && s.flash.pendAct.isNone

/-- The step of T that the ring time asks of this member (R342). -/
def State.epochStep (s : State) : State :=
  if s.flag LY_STATUS.HEAD 0 || !s.lan.stamped || !s.lyUp then s
  else
    let q := s.ringStep
    if q.2 then s.raise LY_EVENT.SYNCERR 0
    else if q.1 = 0 then s
    else if s.stepAllowed then
      { s with skew := s.skew + q.1 }.modLan fun l => { l with ofs := l.ofs - 64 * q.1 }
    else s.raise LY_EVENT.TMIS 0

/-- The wear of the phases that are active on a running carrier (R190). (Log entry: 52 DESIGN CHOICE.) -/
def State.countWear (s : State) : State :=
  s.forPhases fun s p =>
    if s.phState p = phActive then
      match s.phRail p with
      | none => s
      | some n =>
        if (s.rail n).carrier.running then s.modPhase p fun x => { x with wear := satNat (2 ^ 44 - 1) (x.wear + 1) } else s
    else s

/-- What a bell boundary does for one rail: the rotation timer runs in REGULATE while RPER is not 0 (R189), and a carrier that waits
starts (R161). (Log entry: 35 DEDUCED.) -/
def State.railBell (s : State) (n : Fin 12) : State :=
  let s := s.modMan n fun m => { m with rotBell := if s.rst n = stRegulate ∧ s.fld RL_PMROT.RPER n ≠ 0 then m.rotBell + 1 else m.rotBell }
  match (s.rail n).carrier.waiting with
  | none => s
  | some w => if w ≤ s.now then s.carrierStart n else s

/-- The time out of deep standby, with the bells that passed in sleep, counts every 16 777 216 bells, and the energy meters are read
(R391). -/
def State.countBell (s : State) : State :=
  let k := s.flash.upBells + 1
  let s := s.modFlash fun f => { f with upBells := k % 16777216 }
  (if k < 16777216 then s else s.countLife 2 (k / 16777216)).readMeters

/-- BELL_BOUNDARY: a bell of 4096 ticks ends and the epoch counts up (R19). -/
def execBellBoundary (s : State) : Host.Outcome State Fault Refusal :=
  done s (
    if s.power.mode ≠ .running then s
    else
      let from_ := match s.time.lastBell with
        | some t => max s.now (t + 1)
        | none => max s.now 1
      let s := s.advance (s.nextGrid from_ 4096 0)
      let s := (s.modTime fun x => { x with lastBell := some s.now }).epochStep
      let s := s.respAll.countWear.forRails fun s n => s.railBell n
      s.driftCheck.countBell)

end Sys2Proof.Machine
end

