-- ==== Sys2Proof/Machine/Boot.lean ====
section
/-! DEFINITION. Machine/Boot.lean: reset and what outlives it (R246, R247), the boot sequence (§14.5), the choice of the rigging
slot (R395) and the start of the supervisor with its host settings (§14.6). -/
namespace Sys2Proof.Machine

/-- A byte whose programming is cut off: bits that the program clears may still be set (R386). (Log entry: 17 DEDUCED.) -/
def halfProgram (data : List Byte) (free : BitVec 1024) : List Byte :=
  data.zipIdx.map fun e => e.1 ||| free.extractLsb' (8 * e.2) 8

/-- A sector whose erase is cut off (R387, R388): in the begin marker, which leaves the sector as it was; in the erase, which leaves it
half-erased; or in the done marker, which leaves it blank without one. (Log entries: 7 DESIGN CHOICE, 17 DEDUCED.) -/
def State.cutErase (s : State) (x : Nat) : State :=
  let q := s.takeFree 2
  let d := q.2.takeFree 1024
  let n := d.2.flash.erases.seq + 1
  let cut := fun (s : State) (ty : Nat) => s.ringAdd .erases (halfProgram (markBytes ty x n) d.1)
  if q.1 = 0 then cut d.2 1
  else
    let t := (d.2.ringAdd .erases (markBytes 1 x n)).eraseContent x
    if q.1 = 1 then cut t 2 else t.modFlash fun f => { f with half := x :: f.half.filter fun y => !(y == x) }

/-- A record whose programming is cut off (R389). (Log entry: 7 DESIGN CHOICE.) -/
def State.cutRecord (s : State) (g : Region) (b : List Byte) : State :=
  let q := s.takeFree 1024
  q.2.ringAdd g (halfProgram b q.1)

/-- The flash operations waiting are dropped, and the one in progress is cut off (R387 to R389, R437). The provisioning sector then holds
what it held or what was to be programmed. (Log entries: 7 DESIGN CHOICE, 17 DEDUCED.) -/
def State.cutFlash (s : State) : State :=
  let t := s.modFlash fun f => { f with ops := [] }
  match s.flash.ops with
  | [] => t
  | .erase [] _ :: _ => t
  | .erase (x :: _) _ :: _ => t.cutErase x
  | .program b ofs d :: _ =>
    let q := t.takeFree 1024
    q.2.modFw b fun f => { f with bytes := programBytes f.bytes ofs (halfProgram d q.1) }
  | .rigsave b k d _ _ :: _ =>
    if k < rigSectors then t.cutErase (rigSector b + k)
    else
      let q := t.takeFree 1024
      let at_ := (k - rigSectors) * 128
      q.2.modRigSlot b fun r => { r with bytes := programBytes r.bytes at_ (halfProgram ((d.drop at_).take 128) q.1) }
  | .record r _ :: _ =>
    if t.headUsed r.region then t.cutErase (r.region.sectorOf (t.flash.ring r.region).head) else t.cutRecord r.region r.bytes
  | .provision p _ :: _ =>
    let q := t.takeFree 1
    if q.1 = 1 then q.2.provision p else q.2
  | .clearLog seq r k x :: _ =>
    if k = 0 then t.cutErase (768 + (t.flash.logbook.head + 63) / 64 % 64)
    else if k = 1 then t.cutRecord .logbook (FlashRec.log seq r).bytes
    else t.cutErase (768 + (x + k - 1) % 64)

/-- The sectors that the erase journal shows as half-erased: the latest intact begin marker of each has no done marker of its SEQ (R388). -/
def FlashX.openMarks (f : FlashX) : List Nat :=
  let es := (f.valid .erases).map fun e => (recField e.2 2 1, recField e.2 4 2, recField e.2 8 4)
  (es.filter fun e => e.1 == 1 && !es.any fun d =>
    d.2.1 == e.2.1 && ((d.1 == 2 && d.2.2 == e.2.2) || (d.1 == 1 && decide (e.2.2 < d.2.2)))).map (·.2.1)

/-- The sectors of a region that hold bytes and no record: free space that fails a blank-check (R388). -/
def FlashX.foulSectors (f : FlashX) (g : Region) : List Nat :=
  ((List.range g.sectors).map fun k => g.first + k).filter fun x =>
    ((f.ring g).recs.any fun e => g.sectorOf e.1 == x) && !(f.valid g).any fun e => g.sectorOf e.1 == x

/-- The place at which the writing of a ring goes on: the first blank one behind a place. A ring whose next sector is to be erased stops at
that sector. -/
def nextPlace (g : Region) (recs : List (Nat × List Byte)) (stop : Bool) : Nat → Nat → Nat
  | 0, p => p
  | n + 1, p =>
    let p := p % g.places
    if (stop && p % g.per == 0) || !recs.any (fun e => e.1 == p) then p else nextPlace g recs stop n (p + 1)

/-- A ring as the boot finds it (R389): its highest SEQ, and the place behind that record. -/
def FlashX.scanRing (f : FlashX) (g : Region) : Ring :=
  let r := f.ring g
  let v := f.valid g
  let top := v.foldl (fun a e => max a (g.seqOf e.2)) 0
  let last := v.foldl (fun (a : Option Nat) e => if g.seqOf e.2 = top then some e.1 else a) none
  { r with seq := top
           head := match last with
             | none => 0
             | some p => nextPlace g r.recs (g != .settings) g.places (p + 1) }

/-- What the boot reads of the flash (R387 to R391, R393): the half-erased sectors, where each ring goes on, the boot record in force, the
largest value of each lifetime counter, and the next SEQ of the logbook. (Log entries: 5 DESIGN CHOICE, 17 DEDUCED.) -/
def State.scanFlash (s : State) : State :=
  let f := s.flash
  let foul := [Region.settings, .logbook, .counters, .boots].flatMap f.foulSectors
  let half := (f.openMarks ++ foul ++ f.half).foldr (fun x a => if a.contains x then a else x :: a) []
  let s := s.modFlash fun f => { f with half := half }
  let s := [Region.settings, .logbook, .erases, .counters, .boots].foldl (fun (s : State) g => s.modRing g fun _ => f.scanRing g) s
  let best := (f.valid .boots).find? fun e => Region.boots.seqOf e.2 == (f.scanRing .boots).seq
  let s := match best.map fun e => Region.boots.again e.2 0 with
    | some (.boot _ b fa fb) => s.modFlash fun x => { x with boot := b, fwA := { x.fwA with st := fa }, fwB := { x.fwB with st := fb } }
    | _ => s.modFlash fun x => { x with boot := {}, fwA := { x.fwA with st := .active }, fwB := { x.fwB with st := .empty } }
  let values := (f.valid .counters).map fun e => (recField e.2 3 1, recField e.2 8 8)
  let s := s.modFlash fun x =>
    { x with counters := ((List.range 55).map fun i =>
        (i, values.foldl (fun a e => if e.1 = i then max a e.2 else a) 0)).filter fun e => e.2 != 0 }
  let s := s.modLog fun l => { l with nextSeq := if f.valid .logbook = [] then 0 else (f.scanRing .logbook).seq + 1 }
  let ahead := fun (s : State) (g : Region) =>
    let h := (s.flash.ring g).head
    if (s.flash.valid g) = [] ∨ h % g.per = 0 then s else s.ringAhead g h
  ahead (ahead s .counters) .boots

/-- What outlives a reset: the flash, the variant fuse, the test port, the levels at the pins, and the model's queue and count of free
values. Everything else is as at reset. `m` is the power state entered. (Log entry: 14 DEDUCED.) -/
def State.wipe (s : State) (m : PowerMode) : State :=
  let s := s.cutFlash
  { State.reset with
    small := s.small, frees := s.frees, pending := s.pending
    flash := { s.flash with energyRead := [], energyPart := [], upBells := 0, pendAct := none, trial := none, staging := [] }
    log := { nextSeq := s.log.nextSeq }
    pins := { tioIn := s.pins.tioIn, tioSeen := s.pins.tioIn }
    power := { s.power with mode := m, ready := false, resetReq := false, standbyReq := false, lpAcc := 0, halted := false } }

/-- The causes of FM_RSTC that a pin-level both-off shows (Table 9-13). (Log entry: 16 DEDUCED.) -/
def causeBits (vin v5 vcore clk pin : Bool) : Nat := bit vin * 2 + bit v5 * 4 + bit vcore * 8 + bit clk * 16 + bit pin * 32

/-- A pin-level both-off (R246, R247): every PWM pin goes to both-off and every contactor output is released, and the device stays in
reset. The causes present are gathered. The test port starts again when its supply fails. (Log entries: 16 DEDUCED, 22 DEDUCED.) -/
def State.bothOff (s : State) (causes : Nat) : State :=
  let s := if s.power.mode = .held then s else (s.wipe .held).modPower fun p => { p with causes := 0 }
  s.modPower fun p =>
    { p with causes := p.causes ||| causes, tapLeft := none, waking := none, retained := none
             vinLow := p.vinLow || bitAt causes 1, v5Low := p.v5Low || bitAt causes 2
             vcoreLow := p.vcoreLow || bitAt causes 3, pllOff := p.pllOff || bitAt causes 4, pinLow := p.pinLow || bitAt causes 5
             tap := if causes &&& 0xE ≠ 0 then .idcode
               else if p.tap.drives then .bypass else p.tap }

/-- A rigging slot checked for a load (R42, R395, R396). (Log entry: 21 DEDUCED.) -/
def State.checkSlot (s : State) (b wake : Bool) : ImgResult :=
  let r := s.rigSlot b
  let boot := s.flash.boot
  if s.rigHalf b ∨ r.bytes = [] then .refused 1 0
  else
    let i : Img := memBytes erased r.bytes 0 262144
    let vrig := if b then boot.vrigB else boot.vrigA
    let flag := if wake then (if b then boot.signedB else boot.signedA) else i.signed
    match s.checkImage i 262144 flag (if wake then i.at_ 0x14 4 == vrig else s.sigOk i) s.presetOk with
    | .ok g => if g.imgSeq < boot.rigFloor then .refused 0x15 0 else .ok g
    | .refused c d => .refused c d

/-- A slot that a load refuses is INVALID and its refusal shows; one that passes is recorded (R395). -/
def State.slotRefused (s : State) (b : Bool) (code detail : Nat) : State :=
  (s.modRigSlot b fun r => { r with refused := true }).setFlds 0 [(RG_STATUS.CODE, code), (RG_STATUS.DETAIL, detail)]
def State.slotTaken (s : State) (b : Bool) (g : RigSet) : State :=
  (s.keepBoot (s.modFlash fun f =>
    { f with boot := if b then { f.boot with vrigB := g.imageId, signedB := g.signed }
               else { f.boot with vrigA := g.imageId, signedA := g.signed } })).loadSet g

/-- The active set is loaded from the preferred slot, else from the other one, else it is empty (R42, R395). (Log entry: 14 DEDUCED.) -/
def State.loadRigging (s : State) (wake : Bool) : State :=
  let a := s.flash.boot.prefRig
  let s := (s.modRigSlot false fun r => { r with refused := false }).modRigSlot true fun r => { r with refused := false }
  match s.checkSlot a wake with
  | .ok g => s.slotTaken a g
  | .refused c d =>
    let s := s.slotRefused a c d
    match s.checkSlot (!a) wake with
    | .ok g => s.slotTaken (!a) g
    | .refused c d => (s.slotRefused (!a) c d).loadSet RigSet.empty

/-- The latest device record of a kind and key (R397). -/
def State.deviceRec (s : State) (kind key : Nat) : Option SetRec :=
  ((liveRecs s.flash.journal).find? fun e => e.2.kind == kind && e.2.key == key).map (·.2)

/-- Retirements and wear counts restored from the device records (R190, R257). -/
def State.restoreRecords (s : State) : State :=
  let s := match s.deviceRec 0x81 0 with
    | none => s
    | some r => s.setFlds 0 [(FM_RETP_LO.RET, r.v0), (FM_RETP_HI.RET, r.v1), (FM_RETS.RET, r.v2)]
  let ret := s.fld FM_RETP_LO.RET 0 + s.fld FM_RETP_HI.RET 0 * 2 ^ 32
  let s := s.forPhases fun s p =>
    let s := if bitAt ret p then s.setFlds p [(PH_MSTAT.STATE, phRetired), (PH_PSTAT.CAUSE, 4)] else s
    match s.deviceRec 0x82 p with
    | none => s
    | some r => (s.modPhase p fun x => { x with wear := r.v0 * 4096 }).modFlash fun f =>
        { f with wearSaved := (p.val, r.v0) :: f.wearSaved.filter fun e => !(e.1 == p.val) }
  s.forStrands fun s k => if bitAt (s.fld FM_RETS.RET 0) k then s.setFld ST_CFG.RETIRED k 1 else s

/-- Step 1 of the boot: half-erased sectors (R388) and the locks (R403). -/
def State.bootStart (s : State) : State :=
  let f := s.flash
  let s := s.setFlds 0 [(SV_STATUS.HALFCNT, min 255 f.half.length), (SV_EVENT.HALFERASE, bit (f.half != []))]
  let s := if f.lockSig then s.setFld RG_CTRL.SIGREQ 0 1 else s
  if f.lockPec then (s.setFlds 0 [(HB_CTRL.PECLOCK, 1), (HB_CTRL.PEC, 2)]).modBus fun b => { b with pec := 2 } else s

/-- A trial ends at a reset with code TRIALRST, and an open slot or one with a half-erased sector becomes INVALID (R388, R394,
R406). -/
def State.bootSlots (s : State) : State :=
  let fix := fun (b : Bool) (f : FwSlot) =>
    if s.fwHalf b ∨ f.st = .opened then { f with st := .invalid } else if f.st = .trial then { f with st := .staged } else f
  let trial := s.flash.fwA.st == .trial || s.flash.fwB.st == .trial
  let s := s.keepBoot (s.modFlash fun f => { f with fwA := fix false f.fwA, fwB := fix true f.fwB })
  if trial then s.setFld FU_STATUS.CODE 0 0x8C else s

/-- The firmware slot checked at reset (R394): the ACTIVE one, else the other where it is STANDBY or STAGED, else RECOVERY. -/
def State.bootFirmware (s : State) : State :=
  let a := !s.inactive
  let run := fun (s : State) (b : Bool) => (s.modFlash fun f => { f with runSlot := b }).setFld SV_STATUS.SLOT 0 (bit b)
  let c := s.fwCheck a
  if c = 0 then run s a
  else
    let s := s.setFld SV_STATUS.BOOTCODE 0 c
    let other := (s.fw (!a)).st
    if other = .standby ∨ other = .staged then
      let d := s.fwCheck (!a)
      if d = 0 then
        let s := (s.modFw a fun f => { f with st := .invalid }).modFw (!a) fun f => { f with st := .active }
        let s := s.modFlash fun f => { f with boot := { f.boot with fallbacks := satNat 0xFFFF (f.boot.fallbacks + 1) } }
        run ((s.bootSave.raise SV_EVENT.FALLBACK 0).countLife 6 1) (!a)
      else s.setFlds 0 [(SV_STATUS.BOOTCODE, d), (SV_STATUS.STATE, 3)]
    else s.setFld SV_STATUS.STATE 0 3

/-- At a wake the rings go on where the retained pointers say (R443, R444). (Log entry: 21 DEDUCED.) -/
def State.useRetained (s : State) : State :=
  match s.power.retained with
  | none => s
  | some r =>
    let at_ := fun (s : State) (g : Region) (o : Nat) => s.modRing g fun x => { x with head := (o - g.first * 4096) / g.size % g.places }
    at_ (at_ (at_ s .settings r.settings) .counters r.counters) .boots r.boots

/-- The boot sequence from a reset release, or from a wake (R19, R393, R396), up to the point at which the supervisor may start. The host
interface is ready at a free tick within the bounds of Table 14-6 and of R444. (Log entries: 3 DESIGN CHOICE, 7 DESIGN CHOICE, 14
DEDUCED.) -/
def State.boot (s : State) (wake : Bool) : State :=
  let causes := if wake then 64 else s.power.causes
  let q := s.takeFree 24
  let s := { q.2 with now := 0, skew := 0 }
  let s := s.modPower fun p =>
    { p with mode := .running, ready := true, readyAt := q.1.toNat % ((if wake then 102 else 60500) * us + 1), causes := causes
             vinLow := false, v5Low := false, vcoreLow := false, pllOff := false, pinLow := false }
  let s := s.setReg .FM_RSTC 0 (BitVec.ofNat 32 causes)
  let s := if wake then s.scanFlash.useRetained else s.scanFlash
  let s := (s.bootStart.bootSlots.restoreRecords.factoryCal).loadRigging wake
  let s := if wake then (s.modFlash fun f => { f with runSlot := !s.inactive }).setFld SV_STATUS.SLOT 0 (bit (!s.inactive))
    else s.bootFirmware
  (s.countLife (bit wake) 1).showLog

/-- One path alone has locked at a release: the other counts as failed (R37, R435). (Log entry: 15 DEDUCED.) -/
def State.onePath (s : State) : State :=
  if s.time.okA && s.time.okB then s
  else
    let s := s.setFlds 0 [(TB_STATUS.PATH, bit (!s.time.okA)), (TB_STATUS.TBLOSS, 1), (TB_STATUS.PATHFAIL, 1)]
    s.classify 0x0E (bit s.time.okA) clsPerm none 0 0

/-- RESET_RELEASE: reset is released, the straps are taken and the boot sequence runs (R305, R433, R436). A path that did not lock counts
as failed (R37, R435). (Log entries: 14 DEDUCED, 15 DEDUCED.) -/
def execResetRelease (l0 l1 l2 : Fin 4) (s : State) : Host.Outcome State Fault Refusal :=
  done s (
    if s.power.mode ≠ .held then s
    else
      let s := s.boot false
      let s := s.setFlds 0 [(HB_ADDR.L0, l0), (HB_ADDR.L1, l1), (HB_ADDR.L2, l2),
        (HB_ADDR.ADDR, 0x10 + 16 * l2.val + 4 * l1.val + l0.val)]
      s.onePath)

/-- PIN_BOTH_OFF: a condition of R246 acts. In deep standby the supplies are off, and only a loss of VIN counts (R443). (Log entry: 16
DEDUCED.) -/
def execPinBothOff (pin vin v5 vcore clk : Bool) (s : State) : Host.Outcome State Fault Refusal :=
  done s (
    let c := causeBits vin v5 vcore clk pin
    if s.power.mode = .standby then (if vin then s.bothOff 2 else s)
    else if c = 0 then s
    else s.bothOff c)

/-- The live host-settings records that are in force: above the latest DEFAULTS, with no later delete (R398). (Log entry: 18 DEDUCED.) -/
def State.settings (s : State) (fmt : Nat) : List SetRec :=
  let live := (liveRecs s.flash.journal).filter fun e => decide (e.2.kind < 0x80) && e.2.fmt == fmt
  let base : Nat := live.foldl (fun (a : Nat) e => if e.2.kind = 4 then max a e.1 else a) 0
  (live.filter fun e => decide (base < e.1) && (e.2.kind == 1 || e.2.kind == 3)
    && !live.any fun d => d.2.kind == 2 && e.2.kind == 1 && d.2.key == e.2.key && decide (e.1 < d.1)).map (·.2)

/-- A word of a MODEL record written as the host writes it with MS_SEL naming the record's rail (R8, R398). (Log entry: 18 DEDUCED.) -/
def State.railWrite (s : State) (r : Reg) (n : Nat) (w : Word) : State :=
  if s.absentReg r n then s.raise GLB_STATUS.AWERR 0 else (s.acceptAt r n n w).unack r

/-- A host-settings record applied as a host write (R398). (Log entry: 18 DEDUCED.) -/
def State.applySetting (s : State) (r : SetRec) : State :=
  if r.kind = 3 then
    (s.railWrite .MS_CFG r.key (BitVec.ofNat 32 r.v0)).railWrite .MS_LIM r.key (BitVec.ofNat 32 r.v1)
  else
    let lock := match regAtAddr r.key with
      | some (.HB_CTRL, _) => true
      | _ => false
    s.dueAll.hostWrite r.key (BitVec.ofNat 32 (if lock then r.v0 % 2 ^ 31 else r.v0))

/-- The host settings applied at the supervisor's first start (R398, R399). (Log entry: 18 DEDUCED.) -/
def State.applySettings (s : State) : State :=
  let fmt := s.setFmt
  let other := (liveRecs s.flash.journal).any fun e => decide (e.2.kind < 0x80) && e.2.fmt != fmt
  let s := if other then s.raise SV_EVENT.SETDISC 0 else s
  let s := (s.settings fmt).foldl (fun (s : State) r => s.applySetting r) s
  s.setFld SV_STATUS.SETAPPL 0 1

/-- The first start of the firmware after a reset or a wake (R247, R398): the host settings are applied, and after a pin-level both-off a
POWERFAIL record is written. (Log entries: 14 DEDUCED, 16 DEDUCED.) -/
def State.firstStart (s : State) : State :=
  let c := s.fld FM_RSTC.VIN 0 + s.fld FM_RSTC.V5 0 + s.fld FM_RSTC.VCORE 0 + s.fld FM_RSTC.CLK 0 + s.fld FM_RSTC.PIN 0
  let s := if c = 0 then s
    else s.logRec { s.record 0x16 0xFF clsInfo none (s.reg .FM_RSTC 0).toNat 0 with epoch := 0 }
  s.applySettings

/-- SUPERVISOR_START: the supervisor core starts running (R393), after the host interface has become ready; a restart takes the firmware
whose slot still passes, else RECOVERY (R394, R408). (Log entries: 14 DEDUCED, 16 DEDUCED.) -/
def execSupervisorStart (s : State) : Host.Outcome State Fault Refusal :=
  done s (
    let st := s.fld SV_STATUS.STATE 0
    if s.power.mode ≠ .running ∨ s.power.halted ∨ (st ≠ 0 ∧ st ≠ 2) then s
    else
      let s := s.modPower fun p => { p with readyAt := min p.readyAt s.now }
      if st = 2 ∧ s.fwCheck s.flash.runSlot ≠ 0 then s.setFld SV_STATUS.STATE 0 3
      else
        let s := (s.setFld SV_STATUS.STATE 0 1).modFault fun f => { f with wdogAt := s.now }
        let s := s.modFlash fun f => { f with trial := f.trial.map fun t => { t with began := some (t.began.getD s.now) } }
        if s.flag SV_STATUS.SETAPPL 0 then s else s.firstStart)

/-- The device wakes from deep standby (R319, R444): the boot runs with the stored address. (Log entry: 21 DEDUCED.) -/
def State.wakeUp (s : State) (byAddress : Bool) : State :=
  let addr := s.reg .HB_ADDR 0
  let t := ((s.wipe .standby).modTime fun t => { t with okA := s.time.okA, okB := s.time.okB }).modPower fun p => { p with waking := none }
  (((t.boot true).setReg .HB_ADDR 0 addr).setFld HB_STATUS.WAKEA 0 (bit byAddress)).onePath

/-- A wake starts (R444): it goes on once a path has locked (R435). (Log entry: 15 DEDUCED.) -/
def State.wakeStart (s : State) (byAddress : Bool) : State :=
  if s.power.pllOff then s.modPower fun p => { p with waking := some byAddress } else s.wakeUp byAddress

/-- PLL_LOCK_TIMEOUT: 200 µs after VCORE is up; `a` and `b` say whether path A and path B have locked (R435). With neither, the device
stays in reset and tries again. In deep standby it speaks of the wake that comes or waits (Table 16-8). (Log entry: 15 DEDUCED.) -/
def execPllLockTimeout (a b : Bool) (s : State) : Host.Outcome State Fault Refusal :=
  done s (
    if s.power.mode ≠ .held ∧ s.power.mode ≠ .standby then s
    else
      let t := (s.modTime fun t => { t with okA := a || !b, okB := b || !a }).modPower fun p => { p with pllOff := !(a || b) }
      match s.power.mode, s.power.waking with
      | .standby, some x => if a || b then t.wakeUp x else t
      | _, _ => t)

/-- WAKE_BY_ADDRESS: the own address matched in deep standby is refused and starts the wake (R319). -/
def execWakeByAddress (s : State) : Host.Outcome State Fault Refusal :=
  done s (if s.power.mode = .standby then (s.wakeStart true).modBus fun b => { b with acks := [false] } else s)

end Sys2Proof.Machine
end

