-- ==== Sys2Proof/Machine/Bus.lean ====
section
/-! DEFINITION. Machine/Bus.lean: the transactions of the host bus (chapter 11): the address pointer, the packet error code,
snapshot reads, START and STOP, the alert response and the clock-low timeout. -/
namespace Sys2Proof.Machine

/-- The bytes that open a transaction: the address byte with W, RH and RL (Table 11-2). -/
def State.openBytes (s : State) (a : Nat) : List Nat := [s.fld HB_ADDR.ADDR 0 * 2, a / 256 % 256, a % 256]

/-- A PEC byte that fails (R314). -/
def State.pecFail (s : State) : State := (s.raise HB_STATUS.PECERR 0).bump HB_CNT.PECCNT 0

/-- The pointer that follows (R309). -/
def nextPtr (a : Nat) : Nat := (a + 4) % 65536

/-- The device's answers to the bytes of a command (R317). -/
def State.answer (s : State) (acks : List Bool) : State := s.modBus fun b => { b with acks := acks }

/-- POINTER_SET: a pointer-set transaction (R308, R314). In PEC mode 2 a PEC byte that fails or is missing leaves the pointer unchanged.
In PEC modes 0 and 1 a byte after RL is part of a word and is discarded (R309). (Log entry: 42 DEDUCED.) -/
def execPointerSet (a : Nat) (pec : Option Byte) (s : State) : Host.Outcome State Fault Refusal :=
  let more := List.replicate (bit pec.isSome)
  done s (
    if !s.ready then s.answer ([false, false, false] ++ more false)
    else
      let s := s.awaken
      let a := a % 65536
      let s := s.modBus fun b => { b with snap := [], block := false, reading := false }
      let set := (s.modBus fun b => { b with ptr := a }).answer ([true, true, true] ++ more true)
      if a % 4 ≠ 0 then (s.raise HB_STATUS.ALIGNERR 0).answer ([true, true, false] ++ more false)
      else if 2 ≤ s.bus.pec then
        match pec with
        | none => s.answer [true, true, true]
        | some c => if c.toNat = crc8 (s.openBytes a) then set else s.pecFail.answer [true, true, true, false]
      else match pec with
        | none => set
        | some _ => set.raise HB_STATUS.PARTIAL 0)

/-- An accepted word of a write transaction (R309): past the end of a staging block it is discarded (R55). (Log entry: 42 DEDUCED.) -/
def State.blockWord (s : State) (a : Nat) (w : Word) : State :=
  let gone := s.bus.past || (s.bus.inStaging && !(decide (0x4000 ≤ a ∧ a < 0x8000)))
  let s := s.modBus fun b => { b with ptr := nextPtr a }
  if gone then (s.raise RG_EVENT.WERR 0).modBus fun b => { b with past := true } else s.hostWrite a w

/-- REGISTER_WRITE: a word of a register write (R309, R313, R314). `cont` says that it follows another word of the same transaction, at
the pointer; a transaction in which a byte was refused takes none (R317). (Log entry: 42 DEDUCED.) -/
def execRegisterWrite (a : Nat) (w : Word) (pec : Option Byte) (cont : Bool) (s : State) : Host.Outcome State Fault Refusal :=
  let n := (if cont then 4 else 7) + bit pec.isSome
  done s (
    let s := s.dueAll
    if !s.ready ∨ (cont ∧ !s.bus.block) then s.answer (List.replicate n false)
    else
      let s := (s.awaken).answer (List.replicate n true)
      let a := if cont then s.bus.ptr else a % 65536
      if a % 4 ≠ 0 then
        ((s.raise HB_STATUS.ALIGNERR 0).answer ([true, true] ++ List.replicate (n - 2) false)).modBus fun b =>
          { b with snap := [], block := false, reading := false }
      else
        let s := if cont then s
          else s.modBus fun b =>
            { b with ptr := a, snap := [], block := true, reading := false, inStaging := decide (0x4000 ≤ a ∧ a < 0x8000), past := false }
        let code := crc8 ((if cont then [] else s.openBytes a) ++ bytesBE w.toNat)
        let stop := fun (t : State) => t.modBus fun b => { b with block := false }
        if 2 ≤ s.bus.pec then
          match pec with
          | none => stop (s.raise HB_STATUS.PARTIAL 0)
          | some c => if c.toNat = code then s.blockWord a w else (stop s.pecFail).answer (List.replicate (n - 1) true ++ [false])
        else match pec with
          | none => s.blockWord a w
          | some _ => stop ((s.blockWord a w).raise HB_STATUS.PARTIAL 0))

/-- W1C_WRITE: a word written to a register of W1C flags (R13). -/
def execW1cWrite (a : Nat) (w : Word) (s : State) : Host.Outcome State Fault Refusal := done s (s.rowWriteAt (a % 65536) w)

/-- COUNTER_CLEAR_WRITE: a word written to a counter register (R415). -/
def execCounterClearWrite (a : Nat) (w : Word) (s : State) : Host.Outcome State Fault Refusal :=
  done s (s.rowWriteAt (a % 65536) w)

/-- The snapshot group whose lowest address this is: its words (Table 11-4). -/
def snapWords (a : Nat) : Nat :=
  let rail := fun (b : Nat) => decide (b ≤ a ∧ (a - b) % 0x100 = 0 ∧ (a - b) / 0x100 < 12)
  if a = 0x0210 ∨ a = 0x30D4 ∨ a = 0x30F8 ∨ a = 0x31A0 then 2
  else if rail 0x04A4 then 3
  else if rail 0x04B0 then 4
  else if rail 0x04D0 then 2
  else 0

/-- A word read at an address (R310, R311, R318): a captured word of a group where the read goes on in it, the live word otherwise. `pre`
are the bytes of the transaction that its PEC covers before the word's own (R312). A word that the host cuts off before its D0 leaves the
pointer at it. (Log entry: 42 DEDUCED.) -/
def State.readAt (s : State) (a : Nat) (pre : List Nat) (cut : Bool) : State :=
  let held := s.bus.snap.find? fun e => e.1 == a
  let v := match held with
    | some e => e.2
    | none => s.hostRead a
  let caught := match held with
    | some _ => s.bus.snap
    | none => (List.range (snapWords a)).map fun k => (a + 4 * k, s.hostRead (a + 4 * k))
  let next := nextPtr a
  let code := crc8 (pre ++ bytesBE v.toNat)
  if cut then s.modBus fun b => { b with ptr := a, snap := [], reading := false, lastRead := none }
  else
    let s := s.modBus fun b =>
      { b with ptr := next, snap := if caught.any (fun e => e.1 == next) then caught else [], reading := true
               lastRead := some (v, if b.pec = 0 then none else some (BitVec.ofNat 8 code)) }
    if a = Reg.LB_STATUS.row.base then s.setFld LB_STATUS.SUPP 0 0 else s

/-- A read of the kind given: its address bytes are acknowledged, and the host acknowledges the rest (R317). A misaligned address is
refused, and what follows it is a transaction of its own. (Log entry: 42 DEDUCED.) -/
def State.busRead (s : State) (kind : ReadKind) (cut : Bool) : State :=
  let own := s.fld HB_ADDR.ADDR 0 * 2 + 1
  let fresh := fun (s : State) => s.modBus fun b => { b with snap := [], block := false, reading := false }
  match kind with
  | .addressed a =>
    let a := a % 65536
    if !s.ready then s.answer [false, false, false, false]
    else if a % 4 ≠ 0 then (fresh (s.awaken.raise HB_STATUS.ALIGNERR 0)).answer [true, true, false]
    else ((fresh s.awaken).answer [true, true, true, true]).readAt a (s.openBytes a ++ [own]) cut
  | .current =>
    if !s.ready then s.answer [false] else ((fresh s.awaken).answer [true]).readAt s.bus.ptr [own] cut
  | .continues => if !s.ready ∨ !s.bus.reading then s.answer [] else (s.answer []).readAt s.bus.ptr [] cut

/-- SNAPSHOT_READ: a word is read; at a group's lowest address the whole group is captured (R318). -/
def execSnapshotRead (r : WordRead) (s : State) : Host.Outcome State Fault Refusal := done s (s.busRead r.kind r.cut)

/-- LB_STATUS_READ: the read of LB_STATUS restarts its SUPP count (R311). -/
def execLbStatusRead (s : State) : Host.Outcome State Fault Refusal := done s (s.busRead (.addressed Reg.LB_STATUS.row.base) false)

/-- BUS_START_STOP: a START or STOP ends any transaction in progress (R328): a partial word is discarded (R309), an answer being sent is
abandoned (R327), and a new PEC mode or filter length applies after the STOP (R306, R313). A device reset that the host has commanded
begins here (R417). (Log entries: 16 DEDUCED, 42 DEDUCED.) -/
def execBusStartStop (stop partialWord sending : Bool) (s : State) : Host.Outcome State Fault Refusal :=
  done s (
    if !s.ready then s
    else
      let s := if partialWord then s.raise HB_STATUS.PARTIAL 0 else s
      let s := if sending then s.raise HB_STATUS.ARBSP 0 else s
      let s := s.modBus fun b => { b with snap := [], block := false, reading := false, inStaging := false, past := false, acks := [] }
      let s := if stop then
          s.modBus fun b => { b with pec := min 2 (s.fld HB_CTRL.PEC 0), gflen := s.fld HB_CTRL.GFLEN 0 }
        else s
      if s.power.resetReq then s.bothOff (causeBits false false false false true) else s)

/-- ALERT_RESPONSE: an ARA read (R324, R325). The winner sends its PEC byte after the host has acknowledged the address byte. -/
def execAlertResponse (x : AraIn) (s : State) : Host.Outcome State Fault Refusal :=
  done s (
    let s := s.dueAll
    let own := s.fld HB_ADDR.ADDR 0
    if !s.alertLine then s.answer []
    else
      let s := s.answer [true]
      if x.others.all fun a => decide (own < a) then
        let s := (s.setFld HB_STATUS.ACKD 0 1).bump HB_ARA.WONCNT 0
        s.modBus fun b =>
          { b with ara := some (own * 2, if b.pec = 0 ∨ !x.ack then none else some (BitVec.ofNat 8 (crc8 [0x19, own * 2]))) }
      else s.bump HB_ARA.LOSTCNT 0)

/-- BUS_TIMEOUT: SCL held low for t_TIMEOUT returns the interface to idle (R329). -/
def execBusTimeout (s : State) : Host.Outcome State Fault Refusal :=
  done s (
    if s.ready ∧ s.flag HB_CTRL.TOEN 0 then
      (s.raise HB_STATUS.TIMEOUT 0).modBus fun b =>
        { b with snap := [], block := false, reading := false, inStaging := false, past := false, acks := [] }
    else s)

end Sys2Proof.Machine
end

