-- ==== Sys2Proof/Machine/HostRows.lean ====
section
/-! DEFINITION. Machine/HostRows.lean: the commands that are a host write of one register: each writes the word with the
command field of its row. -/
namespace Sys2Proof.Machine

/-- A word of RG_CMD that names a command (Table 2-20). -/
def rgWord (w : Word) (c : Nat) : Word := setBits w RG_CMD.CMD.lo RG_CMD.CMD.width c

/-- RESTORE: CVn_SNS with RESTORE 1 (R83). -/
def execRestore (n : Fin 12) (w : Word) (s : State) : Host.Outcome State Fault Refusal :=
  done s (s.rowWrite .CV_SNS n (setBits w 27 1 1))

/-- SELFTEST_RUN: STk_TEST command 1 (R134). -/
def execSelftestRun (k : Fin 32) (w : Word) (s : State) : Host.Outcome State Fault Refusal :=
  done s (s.rowWrite .ST_TEST k (withCmd w 1))

/-- ACQ: TB_CTRL with ACQ 1 (R35). -/
def execAcq (w : Word) (s : State) : Host.Outcome State Fault Refusal :=
  done s (s.rowWrite .TB_CTRL 0 (setBits w 5 1 1))

/-- TB_SRC_WRITE: a write of TB_CTRL (R36). -/
def execTbSrcWrite (w : Word) (s : State) : Host.Outcome State Fault Refusal :=
  done s (s.rowWrite .TB_CTRL 0 w)

/-- CLRW: TBn_RSLK with CLRW 1 (R28, Table 1-13). -/
def execClrw (n : Fin 12) (w : Word) (s : State) : Host.Outcome State Fault Refusal :=
  done s (s.rowWrite .TB_RSLK n (setBits w 31 1 1))

/-- STAGING_WRITE: a word written inside the staging window (R55). -/
def execStagingWrite (a : Nat) (w : Word) (s : State) : Host.Outcome State Fault Refusal :=
  done s (s.rowWriteAt (0x4000 + a % 0x4000) w)

/-- OPEN (R56): RG_CMD 1. -/
def execRgOpen (w : Word) (s : State) : Host.Outcome State Fault Refusal :=
  done s (s.rowWrite .RG_CMD 0 (rgWord w 1))

/-- CHECK (R57): RG_CMD 2. -/
def execRgCheck (w : Word) (s : State) : Host.Outcome State Fault Refusal :=
  done s (s.rowWrite .RG_CMD 0 (rgWord w 2))

/-- SWAP (R59): RG_CMD 3. -/
def execRgSwap (w : Word) (s : State) : Host.Outcome State Fault Refusal :=
  done s (s.rowWrite .RG_CMD 0 (rgWord w 3))

/-- SWAP AT EPOCH (R59): RG_CMD 4. -/
def execSwapAtEpoch (w : Word) (s : State) : Host.Outcome State Fault Refusal :=
  done s (s.rowWrite .RG_CMD 0 (rgWord w 4))

/-- CANCEL (R65): RG_CMD 5. -/
def execRgCancel (w : Word) (s : State) : Host.Outcome State Fault Refusal :=
  done s (s.rowWrite .RG_CMD 0 (rgWord w 5))

/-- DISCARD (R56): RG_CMD 6. -/
def execRgDiscard (w : Word) (s : State) : Host.Outcome State Fault Refusal :=
  done s (s.rowWrite .RG_CMD 0 (rgWord w 6))

/-- RELOAD FACTORY CALIBRATION: CV_CTRL command 1 (R91). -/
def execReloadFactoryCalibration (w : Word) (s : State) : Host.Outcome State Fault Refusal :=
  done s (s.rowWrite .CV_CTRL 0 (withCmd w 1))

/-- CLEAR PEAKS: RLn_TCTL command 1 (R103). -/
def execClearPeaks (n : Fin 12) (w : Word) (s : State) : Host.Outcome State Fault Refusal :=
  done s (s.rowWrite .RL_TCTL n (withCmd w 1))

/-- CLEAR ENERGY: RLn_TCTL command 2 (R103). -/
def execClearEnergy (n : Fin 12) (w : Word) (s : State) : Host.Outcome State Fault Refusal :=
  done s (s.rowWrite .RL_TCTL n (withCmd w 2))

/-- CLEAR BOTH: RLn_TCTL command 3 (R103). -/
def execClearPeaksAndEnergy (n : Fin 12) (w : Word) (s : State) : Host.Outcome State Fault Refusal :=
  done s (s.rowWrite .RL_TCTL n (withCmd w 3))

/-- TARGET_WRITE: RLn_ITGT, or RLn_VTGT (R136). -/
def execTargetWrite (n : Fin 12) (current : Bool) (w : Word) (s : State) : Host.Outcome State Fault Refusal :=
  done s (s.rowWrite (if current then .RL_ITGT else .RL_VTGT) n w)

/-- VOC_WRITE: RLn_VOC (R214). -/
def execVocWrite (n : Fin 12) (w : Word) (s : State) : Host.Outcome State Fault Refusal :=
  done s (s.rowWrite .RL_VOC n w)

/-- MODE_REQUEST_WRITE: RLn_MCTL (R144). -/
def execModeRequestWrite (n : Fin 12) (w : Word) (s : State) : Host.Outcome State Fault Refusal :=
  done s (s.rowWrite .RL_MCTL n w)

/-- FACET_FORCE_WRITE: RLn_FCTL (R155). -/
def execFacetForceWrite (n : Fin 12) (w : Word) (s : State) : Host.Outcome State Fault Refusal :=
  done s (s.rowWrite .RL_FCTL n w)

/-- AUTOTUNE START: RLn_ATCTL command 1 (R156). -/
def execAutotuneStart (n : Fin 12) (w : Word) (s : State) : Host.Outcome State Fault Refusal :=
  done s (s.rowWrite .RL_ATCTL n (withCmd w 1))

/-- AUTOTUNE ABANDON: RLn_ATCTL command 2 (R157). -/
def execAutotuneAbandon (n : Fin 12) (w : Word) (s : State) : Host.Outcome State Fault Refusal :=
  done s (s.rowWrite .RL_ATCTL n (withCmd w 2))

/-- PAIR_OVERRIDE_WRITE: PHp_OVR (R180). -/
def execPairOverrideWrite (p : Fin 48) (w : Word) (s : State) : Host.Outcome State Fault Refusal :=
  done s (s.rowWrite .PH_OVR p w)

/-- WEAR_WRITE: PHp_WEAR (R190). -/
def execWearWrite (p : Fin 48) (w : Word) (s : State) : Host.Outcome State Fault Refusal :=
  done s (s.rowWrite .PH_WEAR p w)

/-- RAIL_ENABLE_WRITE: RLn_CTRL (R214, R222). -/
def execRailEnableWrite (n : Fin 12) (w : Word) (s : State) : Host.Outcome State Fault Refusal :=
  done s (s.rowWrite .RL_CTRL n w)

/-- HOSTKILL: RLn_CTRL command 1 (R227). -/
def execHostkill (n : Fin 12) (w : Word) (s : State) : Host.Outcome State Fault Refusal :=
  done s (s.rowWrite .RL_CTRL n (withCmd w 1))

/-- CLEAR LOCKOUT: RLn_CTRL command 2 (R228). -/
def execClearLockout (n : Fin 12) (w : Word) (s : State) : Host.Outcome State Fault Refusal :=
  done s (s.rowWrite .RL_CTRL n (withCmd w 2))

/-- THRESHOLD_WRITE: CMP_THR of the selected window (R232). -/
def execThresholdWrite (w : Word) (s : State) : Host.Outcome State Fault Refusal :=
  done s (s.rowWrite .CMP_THR 0 w)

/-- CLEAR PHASE: FM_CMD command 1 (R256). -/
def execClearPhase (w : Word) (s : State) : Host.Outcome State Fault Refusal :=
  done s (s.rowWrite .FM_CMD 0 (withCmd w 1))

/-- CLEAR STRAND: FM_CMD command 2 (R256). -/
def execClearStrand (w : Word) (s : State) : Host.Outcome State Fault Refusal :=
  done s (s.rowWrite .FM_CMD 0 (withCmd w 2))

/-- CLEAR RAIL: FM_CMD command 3 (R256). -/
def execClearRail (w : Word) (s : State) : Host.Outcome State Fault Refusal :=
  done s (s.rowWrite .FM_CMD 0 (withCmd w 3))

/-- CLEAR ALL: FM_CMD command 4 (R256). -/
def execClearAll (w : Word) (s : State) : Host.Outcome State Fault Refusal :=
  done s (s.rowWrite .FM_CMD 0 (withCmd w 4))

/-- LOGBOOK ERASE: LB_CTRL command 1 (R266). -/
def execLogbookErase (w : Word) (s : State) : Host.Outcome State Fault Refusal :=
  done s (s.rowWrite .LB_CTRL 0 (withCmd w 1))

/-- TRACE FREEZE: TR_CMD command 1 (R269). -/
def execTraceFreeze (w : Word) (s : State) : Host.Outcome State Fault Refusal :=
  done s (s.rowWrite .TR_CMD 0 (withCmd w 1))

/-- TRACE RELEASE: TR_CMD command 2 (R269). -/
def execTraceRelease (w : Word) (s : State) : Host.Outcome State Fault Refusal :=
  done s (s.rowWrite .TR_CMD 0 (withCmd w 2))

/-- TRACE_WINDOW_WRITE: a word written inside the trace window (R270). -/
def execTraceWindowWrite (a : Nat) (w : Word) (s : State) : Host.Outcome State Fault Refusal :=
  done s (s.rowWriteAt (0x8000 + a % 0x8000) w)

/-- REPLAY START: RP_CTRL command 1 (R271). -/
def execReplayStart (w : Word) (s : State) : Host.Outcome State Fault Refusal :=
  done s (s.rowWrite .RP_CTRL 0 (withCmd w 1))

/-- REPLAY ABORT: RP_CTRL command 2 (R273). -/
def execReplayAbort (w : Word) (s : State) : Host.Outcome State Fault Refusal :=
  done s (s.rowWrite .RP_CTRL 0 (withCmd w 2))

/-- NEW CHALLENGE: DBG_CMD command 1 (R274). -/
def execNewChallenge (w : Word) (s : State) : Host.Outcome State Fault Refusal :=
  done s (s.rowWrite .DBG_CMD 0 (withCmd w 1))

/-- VERIFY TOKEN: DBG_CMD command 2 (R274). -/
def execVerifyToken (w : Word) (s : State) : Host.Outcome State Fault Refusal :=
  done s (s.rowWrite .DBG_CMD 0 (withCmd w 2))

/-- LOCK of the debug level: DBG_CMD command 3 (R274). -/
def execDebugLock (w : Word) (s : State) : Host.Outcome State Fault Refusal :=
  done s (s.rowWrite .DBG_CMD 0 (withCmd w 3))

/-- UNBIND: LKn_CTRL command 1 (R290). -/
def execUnbind (n : Fin 12) (w : Word) (s : State) : Host.Outcome State Fault Refusal :=
  done s (s.rowWrite .LK_CTRL n (withCmd w 1))

/-- LINK_ENABLE_WRITE: LKn_CTRL (R286). -/
def execLinkEnableWrite (n : Fin 12) (w : Word) (s : State) : Host.Outcome State Fault Refusal :=
  done s (s.rowWrite .LK_CTRL n w)

/-- ALERT_MASK_WRITE: ALR_MASK (R420). -/
def execAlertMaskWrite (w : Word) (s : State) : Host.Outcome State Fault Refusal :=
  done s (s.rowWrite .ALR_MASK 0 w)

/-- DEVICE RESET: GLB_CTRL command 1 (R417). -/
def execDeviceReset (w : Word) (s : State) : Host.Outcome State Fault Refusal :=
  done s (s.rowWrite .GLB_CTRL 0 (withCmd w 1))

/-- ENTER DEEP STANDBY: GLB_CTRL command 2 (R418). -/
def execEnterDeepStandby (w : Word) (s : State) : Host.Outcome State Fault Refusal :=
  done s (s.rowWrite .GLB_CTRL 0 (withCmd w 2))

/-- ACTIVATE of a swap: LY_ACT command 1 (R357). -/
def execActivateSwap (w : Word) (s : State) : Host.Outcome State Fault Refusal :=
  done s (s.rowWrite .LY_ACT 0 (withCmd w 1))

/-- ACTIVATE of firmware: LY_ACT command 2 (R357). -/
def execActivateFirmware (w : Word) (s : State) : Host.Outcome State Fault Refusal :=
  done s (s.rowWrite .LY_ACT 0 (withCmd w 2))

/-- TIMER_COUNT_WRITE: TMk_CNT (R361). -/
def execTimerCountWrite (k : Fin 12) (w : Word) (s : State) : Host.Outcome State Fault Refusal :=
  done s (s.rowWrite .TM_CNT k w)

/-- TIMER_TOP_WRITE: TMk_TOP (R360). -/
def execTimerTopWrite (k : Fin 12) (w : Word) (s : State) : Host.Outcome State Fault Refusal :=
  done s (s.rowWrite .TM_TOP k w)

/-- COMPARE_VALUE_WRITE: TM_CHVAL of the selected channel (R363). -/
def execCompareValueWrite (w : Word) (s : State) : Host.Outcome State Fault Refusal :=
  done s (s.rowWrite .TM_CHVAL 0 w)

/-- CHANNEL_MODE_WRITE: TM_CHCFG of the selected channel (R362). -/
def execChannelModeWrite (w : Word) (s : State) : Host.Outcome State Fault Refusal :=
  done s (s.rowWrite .TM_CHCFG 0 w)

/-- FAN_CONTROL_WRITE: FANf_CTRL (R372). -/
def execFanControlWrite (f : Fin 4) (w : Word) (s : State) : Host.Outcome State Fault Refusal :=
  done s (s.rowWrite .FAN_CTRL f w)

/-- FWOPEN: FU_CMD command 1 (R405, Table 14-9). -/
def execFwopen (w : Word) (s : State) : Host.Outcome State Fault Refusal :=
  done s (s.rowWrite .FU_CMD 0 (withCmd w 1))

/-- FWWRITE: FU_CMD command 2 (R406, Table 14-9). -/
def execFwwrite (w : Word) (s : State) : Host.Outcome State Fault Refusal :=
  done s (s.rowWrite .FU_CMD 0 (withCmd w 2))

/-- FWCLOSE: FU_CMD command 3 (R405, Table 14-9). -/
def execFwclose (w : Word) (s : State) : Host.Outcome State Fault Refusal :=
  done s (s.rowWrite .FU_CMD 0 (withCmd w 3))

/-- FWACT: FU_CMD command 4 (R408, Table 14-9). -/
def execFwact (w : Word) (s : State) : Host.Outcome State Fault Refusal :=
  done s (s.rowWrite .FU_CMD 0 (withCmd w 4))

/-- FWCANCEL: FU_CMD command 5 (R405, Table 14-9). -/
def execFwcancel (w : Word) (s : State) : Host.Outcome State Fault Refusal :=
  done s (s.rowWrite .FU_CMD 0 (withCmd w 5))

/-- COMMIT: FU_CMD command 6 (R409, Table 14-9). -/
def execCommit (w : Word) (s : State) : Host.Outcome State Fault Refusal :=
  done s (s.rowWrite .FU_CMD 0 (withCmd w 6))

/-- ROLLBACK: FU_CMD command 7 (R409, Table 14-9). -/
def execRollback (w : Word) (s : State) : Host.Outcome State Fault Refusal :=
  done s (s.rowWrite .FU_CMD 0 (withCmd w 7))

/-- RIGSAVE: FU_CMD command 8 (R407, Table 14-9). -/
def execRigsave (w : Word) (s : State) : Host.Outcome State Fault Refusal :=
  done s (s.rowWrite .FU_CMD 0 (withCmd w 8))

/-- KEYLOAD: FU_CMD command 9 (R401, Table 14-9). -/
def execKeyload (w : Word) (s : State) : Host.Outcome State Fault Refusal :=
  done s (s.rowWrite .FU_CMD 0 (withCmd w 9))

/-- KEYREVOKE: FU_CMD command 10 (R402, Table 14-9). -/
def execKeyrevoke (w : Word) (s : State) : Host.Outcome State Fault Refusal :=
  done s (s.rowWrite .FU_CMD 0 (withCmd w 10))

/-- LOCK: FU_CMD command 11 (R403, Table 14-9). -/
def execLock (w : Word) (s : State) : Host.Outcome State Fault Refusal :=
  done s (s.rowWrite .FU_CMD 0 (withCmd w 11))

/-- SETSAVE: FU_CMD command 12 (R405, Table 14-9). -/
def execSetsave (w : Word) (s : State) : Host.Outcome State Fault Refusal :=
  done s (s.rowWrite .FU_CMD 0 (withCmd w 12))

/-- MODELSAVE: FU_CMD command 13 (R405, Table 14-9). -/
def execModelsave (w : Word) (s : State) : Host.Outcome State Fault Refusal :=
  done s (s.rowWrite .FU_CMD 0 (withCmd w 13))

/-- SETDEF: FU_CMD command 14 (R405, Table 14-9). -/
def execSetdef (w : Word) (s : State) : Host.Outcome State Fault Refusal :=
  done s (s.rowWrite .FU_CMD 0 (withCmd w 14))

/-- COUNTER_LATCH: a write of LC_SEL (R392). -/
def execCounterLatch (w : Word) (s : State) : Host.Outcome State Fault Refusal :=
  done s (s.rowWrite .LC_SEL 0 w)

end Sys2Proof.Machine
end

