-- ==== Sys2Proof/Machine/Pins.lean ====
section
/-! DEFINITION. Machine/Pins.lean: what the pins present, as it follows from the state (R39, R159, R178, R179, R212, R323, R431,
R451). -/
namespace Sys2Proof.Machine

/-- An engine's output as INV leaves it (R178); a write of INV or SWAP acts from the next tick on (R180). -/
def State.engineOut (s : State) (p : Fin 48) : Out :=
  let o := outOf (s.fld PH_PSTAT.OUT p)
  if s.fldNext PH_OVR.INV p = 1 then
    match o with
    | .ls => .hs
    | .hs => .ls
    | .off => .off
  else o

/-- A PWM level that a boundary cell selects (R452). -/
def cellOut (c : CellOut) : Out :=
  match c with
  | .off => .off
  | .hs => .hs
  | .ls => .ls

/-- What a PWM pin presents (R159, R178, R179, R452): both-off while the block is held in reset or stands by, and what the test port makes
of it while it drives the balls. (Log entry: 22 DEDUCED.) -/
def State.pwmPin (s : State) (p : Fin 48) : Option Out :=
  let q : Fin 48 := if s.fldNext PH_OVR.SWAP (p.val / 2 * 2) = 1 then phaseOf (p.val / 2 * 2 + (1 - p.val % 2)) else p
  if s.held then some .off else s.ball (some (s.engineOut q)) fun c => some (cellOut c.pwm[p])

/-- Whether a contactor output is driven, none where it is high-impedance (R212, R246, R453). (Log entry: 22 DEDUCED.) -/
def State.contPin (s : State) (n : Fin 12) : Option Bool :=
  if s.held then some false else s.ball (some (s.contOut n)) fun c => some c.cont[n]

/-- The level at SYNCOUT, none where it is released (R39, R442). An offset of M or more acts as M − 1 (Table 1-12). In sleep, where TBCLK
stands and no rule gives the level, the pin is low. (Log entry: 50 DESIGN CHOICE.) -/
def State.syncOut (s : State) : Option Bool :=
  s.ball (match s.power.mode with
  | .standby => none
  | .held => some false
  | .sleep => some false
  | .running =>
    if !s.time.soWritten then some false
    else match s.fld TB_CTRL.SOMODE 0 with
      | 1 =>
        let m := max 1 s.tbM
        let off := min (m - 1) (s.fld TB_SPHASE.SOFF 0)
        some (decide ((s.T + m - off) % m < m / 2))
      | 2 => some (decide (s.K < 8))
      | _ => some false) fun c => some c.syncout

/-- The bias currents at VSPn and out of VSNn in µA (R80): 10 µA sourced into VSPn and as much sunk from VSNn while the rail is live with
BIAS 1. -/
def State.senseBias (s : State) (n : Fin 12) : Int × Int :=
  if !s.held && s.live n && s.active.sense[n].bias then (10, -10) else (0, 0)

/-- Whether ITXn transmits light now (R280): a half-cell of the frame being sent, each on TBCLK and 200 ticks long; dark otherwise. -/
def State.itxLight (s : State) (n : Fin 12) : Bool :=
  let l := (s.linkBegun n s.now).link n
  !s.held && (s.ball (some (match l.tx with
  | none => false
  | some e => decide (e.1 ≤ s.now ∧ s.now < e.2) && (linkHalves l.sent).getD ((s.now - e.1) / 200) false))
    fun c => some c.itx[n]).getD false

/-- The current that ITXn sinks, in mA (R276, R277). A boundary cell turns the sink on and off at the present drive (R452). (Log entry: 22
DEDUCED.) -/
def State.itxSink (s : State) (n : Fin 12) : Nat :=
  if !s.itxLight n then 0
  else 10 * if s.tapPins.isSome then ledDrive (s.fld LK_CTRL.LED n) else ((s.linkBegun n s.now).link n).sentLed

/-- ALERT# (R323, R452): true where it is released. (Log entry: 22 DEDUCED.) -/
def State.alertPin (s : State) : Bool := (s.ball (some (!s.alertLine)) fun c => some c.alert).getD true

/-- FPWMf (R372, R452): true where it is released. -/
def State.fanPin (s : State) (f : Fin 4) : Bool := (s.ball (some (s.fanDrive f)) fun c => some c.fpwm[f]).getD true

/-- The boundary cells sample the balls (R451, R452): what each presents, and the levels at the inputs. (Log entry: 22 DEDUCED.) -/
def State.sampleBalls (s : State) (b : Balls) : Boundary :=
  { balls := b
    load :=
      { pwm := Vector.ofFn fun p => match s.pwmPin p with
          | some .hs => .hs
          | some .ls => .ls
          | _ => .off
        cont := Vector.ofFn fun n => (s.contPin n).getD false
        itx := Vector.ofFn fun n => s.itxLight n
        tio := Vector.ofFn fun i => s.tioDrive i
        fpwm := Vector.ofFn fun f => s.fanPin f
        scl := b.scl, sda := b.sda, alert := s.alertPin, syncout := s.syncOut.getD false } }

/-- V5OUT is closed from reset release on, through sleep (R431). -/
def State.v5Out (s : State) : Bool := !s.held

/-- What the test port reads in IDCODE (R451). -/
def State.idcode (s : State) : Word := if s.small then 0xB24063AB else 0xB48123AB

end Sys2Proof.Machine
end

