-- ==== Sys2Proof/Machine/Power.lean ====
section
/-! DEFINITION. Machine/Power.lean: sleep (§16.6), deep standby (§16.7), the loss of a synthesiser path (R37), and the test
access port (§16.13). -/
namespace Sys2Proof.Machine

/-- TB_PATH_FAIL: the active synthesiser path fails, and TBCLK goes on from the other one in holdover; with no path left a pin-level
both-off follows (R37, R246). The switch leaves a gap, whose length within the 35 ns of R37 is free, as a path that fails in another way
delivers its ticks until then: TBCLK goes on after it, the sample instants inside it are skipped, and an edge inside it takes place at the
first tick after it (R38). (Log entries: 7 DESIGN CHOICE, 15 DEDUCED, 39 DEDUCED.) -/
def execTbPathFail (s : State) : Host.Outcome State Fault Refusal :=
  done s (
    if s.power.mode ≠ .running then s
    else if s.flag TB_STATUS.PATHFAIL 0 then s.bothOff (causeBits false false false true false)
    else
      let p := s.fld TB_STATUS.PATH 0
      let q := s.takeFree 16
      let s := (q.2.advance (s.now + q.1.toNat % 8)).holdEdges
      let s := s.modTime fun t => if p = 0 then { t with okA := false } else { t with okB := false }
      let s := s.setFlds 0 [(TB_STATUS.PATH, 1 - p), (TB_STATUS.TBLOSS, 1), (TB_STATUS.PATHFAIL, 1)]
      s.enterHoldover.classify 0x0E p clsPerm none 0 0)

/-- A link in SEARCH keeps the device awake at a tick: from 100 µs ahead of its beacon step to 2 ms after the beacon (R287, R441). (Log
entry: 20 DEDUCED.) -/
def State.beaconNear (s : State) (n : Fin 12) (t : Nat) : Bool :=
  let step := 2441 * 4096
  let next := s.nextGrid t step 0
  s.fld LK_STATUS.LSTATE n == 1
    && (decide (next ≤ t + 100 * us) || (decide (step ≤ next) && decide (t < next - step + 2 * ms))
      || (match ((s.linkBegun n t).link n).tx with
        | some e => decide (t < e.1 + 2 * ms)
        | none => false))

/-- SLEEP_ENTRY: at the bell boundary that ends a bell for all of which the conditions have held TBCLK stops (R439, R440). The timers on
the low-power clock keep what their prescaler has counted (R371). (Log entry: 20 DEDUCED.) -/
def execSleepEntry (s : State) : Host.Outcome State Fault Refusal :=
  done s (
    let b := s.nextGrid s.now 4096 0
    if s.power.mode ≠ .running ∨ !s.sleepOk ∨ s.quiet.all (fun q => decide (b < q + 4096))
        ∨ (List.finRange 12).any (s.beaconNear · b) then s
    else
      let s := (s.advance b).seenAll
      let t := s.retime (s.modPower fun p => { p with mode := .sleep, lpAcc := 0 })
      let t := t.forTimers fun (u : State) (k : Fin 12) => u.modTimer k fun x => { x with lpAcc := x.pre * 64 }
      t.pins.tioQ.foldl (fun (s : State) e => s.tioEdge e.2.1 e.2.2) (t.modPins fun p => { p with tioQ := [] }))

/-- SLEEP_EXIT: a wake source ends sleep (R441). (Log entry: 20 DEDUCED.) -/
def execSleepExit (s : State) : Host.Outcome State Fault Refusal := done s s.awaken

/-- WAKE_PIN: a rising edge at WAKE ends deep standby (R444), and sleep (R441). -/
def execWakePin (s : State) : Host.Outcome State Fault Refusal :=
  done s (if s.power.mode = .standby then s.wakeStart false else s.awaken)

/-- What a low-power edge adds to an accumulator, in 1/64 of a tick (R371). -/
def lpEdge : Nat := 390625

/-- A timer advances by the whole prescaler periods that its accumulator holds (R371). (Log entry: 20 DEDUCED.) -/
def State.lpTimer (s : State) (k : Fin 12) : State :=
  if !s.timerAwake k || s.fld TM_CTRL.SLV k == 3
      || (s.fld TM_CTRL.SLV k == 1 && !s.tmOut (s.fld TM_CTRL.MSTR k) (s.fld TM_CTRL.MCHAN k)) then s
  else
    let per := 64 * 2 ^ s.fld TM_CTRL.PSC k
    let acc := (s.timer k).lpAcc + lpEdge
    (List.range (acc / per)).foldl (fun (s : State) _ => s.countStep k) (s.modTimer k fun x => { x with lpAcc := acc % per })

/-- The slaves act at the same edge (R371). (Log entry: 20 DEDUCED.) -/
def State.lpSlaves (s : State) : State :=
  s.forTimers fun (s : State) (k : Fin 12) =>
    let n := (s.timer k).slaveAt.length
    let s := s.modTimer k fun x => { x with slaveAt := x.slaveAt.drop n }
    if s.timerAwake k then (List.range n).foldl (fun (s : State) _ => s.slaveAct k) s else s

/-- Captures seen in sleep take the count after the advance (R371). (Log entry: 20 DEDUCED.) -/
def State.lpCaptures (s : State) : State := s.forTimers fun (s : State) (k : Fin 12) => s.lateCaptures k

/-- LP_CLOCK_EDGE: in sleep T advances by the whole ticks of the accumulator, and the LPCLK timers with it (R371, R440). (Log entry: 20
DEDUCED.) -/
def execLpClockEdge (s : State) : Host.Outcome State Fault Refusal :=
  done s (
    if s.power.mode ≠ .sleep then s
    else
      let acc := s.power.lpAcc + lpEdge
      let bells := (s.T + acc / 64) / 4096 - s.T / 4096
      let s := s.modFlash fun f => { f with upBells := f.upBells + bells }
      let s := { s with now := s.now + acc / 64 }.modPower fun p => { p with lpAcc := acc % 64 }
      let s := s.forTimers fun (s : State) (k : Fin 12) => s.lpTimer k
      s.lpSlaves.lpSlaves.lpCaptures)

/-- The flash offset at which a ring goes on, and what deep standby retains (R443). -/
def State.ringOffset (s : State) (g : Region) : Nat := g.first * 4096 + (s.flash.ring g).head * g.size
def State.retains (s : State) : Retained :=
  { settings := s.ringOffset .settings, counters := s.ringOffset .counters, boots := s.ringOffset .boots }

/-- DEEP_STANDBY_ENTRY: at a bell boundary after an accepted command, once no flash operation is left, the rails and the supplies stop
(R418, R442). `wake` says that WAKE is high when the buck turns off. (Log entries: 15 DEDUCED, 21 DEDUCED.) -/
def execDeepStandbyEntry (wake : Bool) (s : State) : Host.Outcome State Fault Refusal :=
  done s (
    if s.power.mode ≠ .running ∨ !s.power.standbyReq ∨ s.flash.ops ≠ [] then s
    else
      let t := (s.wipe .standby).setReg .HB_ADDR 0 (s.reg .HB_ADDR 0)
      let t := (t.modPower fun p => { p with tap := .idcode, tapLeft := none, pllOff := false, waking := none
                                             retained := some s.retains }).modTime fun x => { x with okA := true, okB := true }
      if wake then t.wakeStart false else t)

/-- An instruction of the test port is loaded (R451, R453): a driving one only where R453 permits it, BYPASS in its place otherwise. When
the port stops driving the balls, the start conditions are taken again. (Log entry: 22 DEDUCED.) -/
def State.tapLoad (s : State) (i : TapInstr) : State :=
  if s.power.mode = .standby then s
  else
    let j := if i.drives && !s.tapAllowed then .bypass else i
    let was := s.tapDrives
    let s := s.modPower fun p => { p with tap := j, tapLeft := if was then some (s.now, p.tap) else p.tapLeft }
    if was = s.tapDrives then s else s.startChecks

/-- TAP_RESET: Test-Logic-Reset selects IDCODE (R451). -/
def execTapReset (s : State) : Host.Outcome State Fault Refusal := done s (s.tapLoad .idcode)

/-- BYPASS (R451). -/
def execBypass (s : State) : Host.Outcome State Fault Refusal := done s (s.tapLoad .bypass)

/-- IDCODE (R451). -/
def execIdcode (s : State) : Host.Outcome State Fault Refusal := done s (s.tapLoad .idcode)

/-- SAMPLE/PRELOAD: the boundary cells sample the balls, and those that drive are preloaded (R451, R452). -/
def execSamplePreload (x : Boundary) (s : State) : Host.Outcome State Fault Refusal :=
  done s (
    if s.power.mode = .standby then s
    else
      let t := s.tapLoad .samplePreload
      t.modPower fun p => { p with cells := x.load, sampled := t.sampleBalls x.balls })

/-- EXTEST (R453). -/
def execExtest (s : State) : Host.Outcome State Fault Refusal := done s (s.tapLoad .extest)

/-- HIGHZ (R453). -/
def execHighz (s : State) : Host.Outcome State Fault Refusal := done s (s.tapLoad .highz)

/-- CLAMP (R453). -/
def execClamp (s : State) : Host.Outcome State Fault Refusal := done s (s.tapLoad .clamp)

/-- SVHALT: at debug level 2 the supervisor core halts, and its watchdog and the timers without DBGRUN stop (R370, R454). At another level
it is BYPASS. (Log entry: 22 DEDUCED.) -/
def execSvhalt (s : State) : Host.Outcome State Fault Refusal :=
  done s (
    let t := s.tapLoad .bypass
    if s.fld DBG_STATUS.LEVEL 0 = 2 ∧ s.power.mode ≠ .standby then
      let t := t.seenAll
      t.retime (t.modPower fun p => { p with halted := true })
    else t)

/-- SVRUN: the halted core resumes and its watchdog starts again from 0 (R454). (Log entry: 22 DEDUCED.) -/
def execSvrun (s : State) : Host.Outcome State Fault Refusal :=
  done s (
    let t := s.seenAll.tapLoad .bypass
    if s.fld DBG_STATUS.LEVEL 0 = 2 ∧ s.power.halted then
      let t := t.forTimers fun (u : State) (k : Fin 12) => if u.timerAwake k then u else u.modTimer k fun x => { x with slaveAt := [] }
      (t.retime (t.modPower fun p => { p with halted := false })).modFault fun f => { f with wdogAt := t.now }
    else t)

end Sys2Proof.Machine
end

