-- ==== Sys2Proof/Machine/Thermo.lean ====
section
/-! DEFINITION. Machine/Thermo.lean: the raw temperature of a sensor (R377, R378). The natural logarithm lies between two integer bounds,
close enough together that they round to one reading. -/
namespace Sys2Proof.Machine

/-- The unit of the bounds of a logarithm: 2 ^ 256. -/
def lnUnit : Nat := 2 ^ 256

/-- The quotient of two numbers, rounded down, or up. -/
def quo (up : Bool) (a b : Nat) : Nat := if up then (a + b - 1) / b else a / b

/-- What the terms of artanh z from the `k`th on add up to at least, or at most, where `pw` bounds z ^ (2 * k + 1) and z = p / q is at most
1/3. -/
def artanhFrom (up : Bool) (p q : Nat) : Nat → Nat → Nat → Nat
  | 0, _, pw => if up then 2 * pw else 0
  | n + 1, k, pw => quo up pw (2 * k + 1) + artanhFrom up p q n (k + 1) (quo up (pw * (p * p)) (q * q))

/-- A bound of 2 * artanh (p / q), in units of 1 / `lnUnit`. -/
def artanh2 (up : Bool) (p q : Nat) : Nat := 2 * artanhFrom up p q 90 0 (quo up (p * lnUnit) q)

/-- Bounds of ln (a / b), in units of 1 / `lnUnit`: the power of 2 apart, and the rest by 2 * artanh ((m - 1) / (m + 1)). -/
def lnBounds (a b : Nat) : Int × Int :=
  let e : Int := (Nat.log2 a : Int) - Nat.log2 b
  let a' := if e < 0 then a * 2 ^ (-e).toNat else a
  let b' := if 0 ≤ e then b * 2 ^ e.toNat else b
  let two : Int × Int := if 0 ≤ e then (artanh2 false 1 3, artanh2 true 1 3) else (artanh2 true 1 3, artanh2 false 1 3)
  let rest : Int × Int :=
    if b' ≤ a' then (artanh2 false (a' - b') (a' + b'), artanh2 true (a' - b') (a' + b'))
    else (-(artanh2 true (b' - a') (a' + b') : Int), -(artanh2 false (b' - a') (a' + b') : Int))
  (e * two.1 + rest.1, e * two.2 + rest.2)

/-- A temperature in kelvin that lies between two bounds, in 0.125 °C rounded half to even (R378). Should the bounds round apart, either
reading is possible. (Log entry: 11 DESIGN CHOICE.) -/
def kelvinX (lo hi : Rat) : Int :=
  let x := fun (t : Rat) => rheRat ((t - 5463 / 20) * 8)
  if x lo = x hi then x lo else if Config.tempRounds (x lo) then x hi else x lo

/-- An NTC of resistance RPU × c / (60 000 − c) (Table 13-5, R378); none where no temperature fulfils the formula. (Log entry: 11 DESIGN
CHOICE.) -/
def ntcX (c r0 rpu beta : Nat) : Option Int :=
  let l := lnBounds (rpu * c) ((60000 - c) * r0)
  let inv := fun (v : Int) => (20 / 5963 : Rat) + (v : Rat) / ((lnUnit * beta : Nat) : Rat)
  let d := inv l.1
  let e := inv l.2
  if 0 < d ∨ e < 0 then some (kelvinX (1 / e) (1 / d)) else none

/-- A remote diode of ΔV = (c_100 − c_10) × 50 µV and ideality factor n / 2 ^ 14 (Table 13-5, R378). -/
def diodeX (dc : Int) (n : Nat) : Int :=
  let l := lnBounds 10 1
  let t := fun (v : Int) => (dc : Rat) * 50 * 1160452 * 16384 * (lnUnit : Rat) / (100000000 * (n : Rat) * (v : Rat))
  if 0 ≤ dc then kelvinX (t l.2) (t l.1) else kelvinX (t l.1) (t l.2)

/-- R / R0 of a platinum sensor at a temperature in °C by IEC 60751, with its standard coefficients A, B and C. (Log entry: 54 PRESUMED.)
-/
def ptRatio (t : Rat) : Rat :=
  1 + 39083 / 10000000 * t - 5775 / 10000000000 * t * t
    - (if t < 0 then 4183 / 1000000000000000 * (t - 100) * t * t * t else 0)

/-- The first reading from `lo` on, within `2 ^ n` of it, whose upper boundary a temperature does not pass. -/
def seekX (past : Int → Bool) (lo : Int) : Nat → Int
  | 0 => lo
  | n + 1 => if past (lo + 2 ^ n - 1) then seekX past (lo + 2 ^ n) n else seekX past lo n

/-- A PT1000 of R = c × 0.25 Ω and R0 in mΩ (Table 13-5, R378): the rising relation inverted, a tie to the even reading; none where it has
no temperature. (Log entry: 11 DESIGN CHOICE.) -/
def ptX (c r0 : Nat) : Option Int :=
  let r : Rat := ((c * 250 : Nat) : Rat) / (r0 : Rat)
  let top : Rat := 39083 * 1000 / (2 * 5775)
  if ptRatio top < r then none
  else
    some (seekX (fun m =>
      let b : Rat := (2 * m + 1 : Int) / 16
      decide (b ≤ top ∧ (ptRatio b < r ∨ (ptRatio b = r ∧ m % 2 ≠ 0)))) (-32768) 16)

/-- x before OFS of a conversion (R378): an NTC, a diode's difference of codes, or a PT1000. -/
def rawX (type : Nat) (c : Int) (p1 p2 bn : Nat) : Option Int :=
  match type with
  | 1 => ntcX c.toNat p1 p2 bn
  | 2 => some (diodeX c bn)
  | _ => ptX c.toNat p1

end Sys2Proof.Machine
end

