-- ==== Sys2Proof/Machine/Windows.lean ====
section
/-! DEFINITION. Machine/Windows.lean: the window comparators (§8.5, R196), the open-line detector and RESTORE's condition (§3.3). -/
namespace Sys2Proof.Machine

/-- The rail of a rail window, and whether it is its voltage window. -/
def winRail (x : Fin 72) : Option (Fin 12 × Bool) :=
  if x.val < 48 then none
  else if x.val < 60 then some (railOf (x.val - 48), true)
  else some (railOf (x.val - 60), false)

/-- The output of a threshold DAC in nV on the scale of Table 3-7, and half its step (R97, R229). -/
def dacLevel (x : Fin 72) (k : Nat) : Int := if 48 ≤ x.val ∧ x.val < 60 then k * 3000000 else ((k : Int) - 512) * 2000000
def dacHalf (x : Fin 72) : Int := if 48 ≤ x.val ∧ x.val < 60 then 1500000 else 1000000

/-- The live level of a window for an input in nV, with the hysteresis of R229. (Log entries: 37 DEDUCED, 47 DEDUCED.) -/
def levelOf (was : Level) (v up lo half : Int) : Level :=
  if up < v then .above
  else if was = .above ∧ up - half < v then .above
  else if v < lo then .below
  else if was = .below ∧ v < lo + half then .below
  else .inside

/-- TRESP on a rail window whose level, as consumers see it, changes (R196). (Log entries: 31 DEDUCED, 36 DEDUCED.) -/
def State.windowRespond (s : State) (x : Fin 72) (n : Fin 12) (volt : Bool) (old new : Level) : State :=
  let c := s.now + 2
  let rel := if s.fldStep RL_TRCTL.OREL n c = 1 then some 6 else none
  let off := fun (s : State) (cause : Nat) =>
    if s.offArmed n c then s.askResp n { at_ := c, kind := .off, cause := cause, fault := rel } else s
  if !bitAt s.active.comp[x].cons 1 then s
  else match volt, new with
    | true, .above => off s 4
    | true, .below =>
      if s.onArmed n c (s.rail n).loop.count ((s.rail n).mode.last.getD .cv) then
        s.askResp n { at_ := c, kind := .on, cause := 2 }
      else s
    | true, .inside => s
    | false, .below => if old = .inside ∧ 0 < s.fldS RL_PISET.ISET n then off s 5 else s
    | false, .above => s
    | false, .inside => s

/-- The level that consumers of a window see changes (R230, R231, Table 8-5). (Log entry: 37 DEDUCED.) -/
def State.seenChange (s : State) (x : Fin 72) (new : Level) : State :=
  let old := (s.win x).seen
  if old = new then s
  else
    let s := s.modWin x fun w => { w with seen := new, since := s.now }
    if (s.win x).failed then s
    else match winRail x with
      | none => s.showCause (phaseOf x.val)
      | some (n, volt) =>
        let s := if bitAt s.active.comp[x].cons 3 && new != .inside then
            s.logRec (s.record 0x15 x clsInfo (some n) (if new = .above then 1 else 2) 0)
          else s
        if s.live n then ((s.respTo n s.now).windowRespond x n volt old new).faultLeave n else s

/-- The input of a window for the voltages `volts` in nV, as a sum and the number it is a mean of: that of a rail current window is the
mean of ISPp − ISREFg over the rail's in-service phases, 0 V without one, where `volts` goes by the phases spliced to the rail in number
order; every other window compares one voltage (R97, Table 3-7). (Log entry: 37 DEDUCED.) -/
def State.winInput (s : State) (x : Fin 72) (volts : List Int) : Int × Nat :=
  match winRail x with
  | some (n, false) =>
    let vs := ((s.railPhases n).zip (volts ++ List.replicate 48 0)).filter fun e => !s.phRet e.1
    if vs = [] then (0, 1) else (vs.foldl (fun a e => a + e.2) 0, vs.length)
  | _ => (volts.headD 0, 1)

/-- WINDOW_LEVEL_CHANGE: the input of a window stands at `volts` nV, on the scale of Table 3-7, and its live level changes (R97, R229).
With the empty set the windows are idle (R455). -/
def execWindowLevelChange (x : Fin 72) (volts : List Int) (s : State) : Host.Outcome State Fault Refusal :=
  clocked s (
    if !s.active.loaded then s
    else
      let v := s.winInput x volts
      let up := dacLevel x (s.fldNext CMP_THR.UPPER x)
      let lo := dacLevel x (s.fldNext CMP_THR.LOWER x)
      let l := levelOf (s.win x).live v.1 (up * v.2) (lo * v.2) (dacHalf x * v.2)
      let s := s.modWin x fun w => { w with live := l }
      if s.now * 64 < (s.win x).blankTo then s else s.seenChange x l)

/-- COMPARATOR_BLANK_END: blanking ends, and consumers see the live level again (R230). -/
def execComparatorBlankEnd (x : Fin 72) (s : State) : Host.Outcome State Fault Refusal :=
  clocked s (
    if !s.active.loaded then s
    else
      let s := s.advance (((s.win x).blankTo + 63) / 64)
      s.seenChange x (s.win x).live)

/-- PROT_WINDOW_FAULT: a rail window with the PROT consumer has stood outside for 16 ticks (R231, Table 8-5). (Log entry: 37 DEDUCED.) -/
def execProtWindowFault (x : Fin 72) (s : State) : Host.Outcome State Fault Refusal :=
  clocked s (match winRail x with
    | none => s
    | some (n, volt) =>
      let l := s.winSeen x
      if l = .inside ∨ !bitAt s.active.comp[x].cons 2 ∨ s.rst n < stClose ∨ stRampdown < s.rst n then s
      else
        let s := s.advance ((s.win x).since + 16)
        s.toFault n (if !volt then 10 else if l = .above then 8 else 9))

/-- OPEN_LINE_DETECT: the detector compares D and L of a rail, in nV. Where it has seen them differ already, it fires once that has held
for 40 µs (R81, R82); otherwise it begins to watch here. While FBK is 1 it does not fire. A sample compares them too. (Log entries: 37
DEDUCED, 53 DESIGN CHOICE.) -/
def execOpenLineDetect (n : Fin 12) (d l : Int) (s : State) : Host.Outcome State Fault Refusal :=
  clocked s (
    let since := (s.rail n).sense.badSince
    let fires := s.lineArmed n l && openDiffers d l
    match since with
    | some t =>
      if fires then
        let s := (s.advance (t + 40 * us)).modSense n fun x => { x with goodSince := none, badSince := none }
        let s := (s.raise CV_SNS.OPEN n).raise CV_STATUS.OPENL 0
        let back := s.active.sense[n].fallback
        let s := s.classify 0x08 n clsTrans (some n) (bit back) 0
        if back then s.modSense n fun x => { x with fbkAt := some (s.now + 2, true) } else s.toFault n 16
      else s.compareLine n d l
    | none => s.compareLine n d l)

end Sys2Proof.Machine
end

