-- ==== Sys2Proof/Machine/Telemetry.lean ====
section
/-! DEFINITION. Machine/Telemetry.lean: the telemetry converters TC0 and TC1 (§3.5 to §3.8), the temperature inputs (§13.6), and
what the end of a TC0 frame sets going. -/
namespace Sys2Proof.Machine

/-- The channel that a slot of the TC0 frame converts; slot 29 is XREF (Table 3-5). -/
def slotChan (k : Nat) : Option Nat :=
  if k < 12 then some k
  else if k = 12 then some 24
  else if k < 29 then some (k + 13)
  else if k = 29 then none
  else if k = 30 then some 25
  else if k = 31 then some 46
  else if k < 44 then some (k - 32)
  else if k = 44 then some 24
  else if k < 57 then some (k - 33)
  else if k < 61 then some (k - 15)
  else if k = 62 then some 47
  else some 24

/-- The raw code of a telemetry input in nV (R89). (Log entry: 47 DEDUCED.) -/
def telCode (v : Int) : Nat := (clampInt 0 65535 ((v + 25000) / 50000)).toNat

/-- The corrected code of a channel (R91). -/
def State.telCorrect (s : State) (ch raw : Nat) : Nat :=
  (clampInt 0 65535 (rhe (((raw : Int) - s.fldS CV_CALDATA.OFS ch) * s.fld CV_CALDATA.GAIN ch) 32768)).toNat

/-- A conversion of a channel stored (Table 3-15): its corrected code beside the state. A channel of an absent element gives code 0
(R8). -/
def State.telConvert (s : State) (ch : Nat) (v : Int) : Nat × State :=
  let absent := s.small && absentChan ch
  let raw := if absent then 0 else telCode v
  let c := if absent then 0 else s.telCorrect ch raw
  (c, s.modTele fun t =>
    { t with raw := if h : ch < 96 then t.raw.set ch raw else t.raw, corr := if h : ch < 96 then t.corr.set ch c else t.corr })

/-- B of R92 for a rail. -/
def State.biasOf (s : State) (n : Fin 12) : Int := if s.active.sense[n].bias then s.fld CV_SNS.BCOMP n else 0

/-- The scaled readings of R92 in mV. -/
def State.vrailMv (s : State) (n : Fin 12) (c : Nat) : Nat :=
  (rhe (((c : Int) * 50 - s.biasOf n) * s.active.sense[n].div) 65536000).toNat
def State.vlocMv (s : State) (n : Fin 12) (c : Nat) : Nat := (rhe ((c : Int) * 50 * s.active.sense[n].div) 65536000).toNat

/-- A reading of VBUS in mV (R92). -/
def State.vbusMv (s : State) (c : Nat) : Nat := (rhe ((c : Int) * 50 * s.fld CV_VBDIV.DIV 0) 65536000).toNat

/-- An input is invalid from here on (R380). -/
def State.tempInvalid (s : State) (i : Fin 16) : State :=
  let s := s.modTemp i fun x => { x with run := 0 }
  if s.flag TH_TEMP.INV i then s
  else
    ((s.setFlds i [(TH_TEMP.INV, 1), (TH_TEMP.T, 0)]).setFld TH_STATUS.INV 0 (s.fld TH_STATUS.INV 0 ||| 2 ^ i.val)).raiseBit
      TH_STATUS.INVF 0 i

/-- A valid conversion gives x (R379, R380). -/
def State.tempValid (s : State) (i : Fin 16) (x : Int) : State :=
  if s.flag TH_TEMP.INV i then
    let k := (s.temp i).run + 1
    if k < 4 then s.modTemp i fun y => { y with run := k }
    else
      let s := (s.setFld TH_TEMP.INV i 0).setFldS TH_TEMP.T i x
      s.setFld TH_STATUS.INV 0 (s.fld TH_STATUS.INV 0 - bit (bitAt (s.fld TH_STATUS.INV 0) i.val) * 2 ^ i.val)
  else
    let y := s.fldS TH_TEMP.T i
    s.setFldS TH_TEMP.T i (y + rhe (x - y) (2 ^ s.fld TH_CFG.FILT i))

/-- A conversion of an input judged (R380): `ok` is its own range test, `c` what R378 converts. (Log entry: 11 DESIGN CHOICE.) -/
def State.tempJudge (s : State) (i : Fin 16) (type : Nat) (ok : Bool) (c : Int) : State :=
  let p1 := s.fld TH_PAR1.P1 i
  let p2 := s.fld TH_PAR2.P2 i
  let bn := s.fld TH_PAR3.BN i
  let pars := if type = 1 then p1 != 0 && p2 != 0 && bn != 0 else if type = 2 then bn != 0 else p1 != 0
  if !ok || !pars || s.flag CV_STATUS.TC0DRIFT 0 then s.tempInvalid i
  else match rawX type c p1 p2 bn with
    | none => s.tempInvalid i
    | some r =>
      let x := r + s.fldS TH_PAR3.OFS i
      if -440 ≤ x ∧ x ≤ 1200 then s.tempValid i x else s.tempInvalid i

/-- A conversion of a temperature input in its slot (R377 to R380). A diode's pair is judged at the end of its odd frame. -/
def State.tempSlot (s : State) (i : Fin 16) (c : Nat) : State :=
  match s.fld TH_CFG.TYPE i with
  | 0 => s.tempInvalid i
  | 1 => s.tempJudge i 1 (decide (600 ≤ c ∧ c ≤ 59400)) c
  | 2 =>
    let fr := s.tele.frame
    if fr % 2 = 0 then s.modTemp i fun x => { x with low := some (fr, c), high := none }
    else s.modTemp i fun x => { x with high := some c }
  | _ => s.tempJudge i 3 (decide (2800 ≤ c ∧ c ≤ 8800)) c

/-- A diode's pair at the end of a frame of odd count (R378). -/
def State.tempPair (s : State) (i : Fin 16) : State :=
  if s.fld TH_CFG.TYPE i ≠ 2 ∨ s.tele.frame % 2 = 0 then s
  else match (s.temp i).low, (s.temp i).high with
    | some (fr, a), some b =>
      let s := s.modTemp i fun x => { x with low := none, high := none }
      if fr + 1 = s.tele.frame then s.tempJudge i 2 (decide (4000 ≤ b ∧ b ≤ 20000)) ((b : Int) - a) else s
    | _, _ => s

/-- What a scheduled conversion's corrected code gives (R92, R96, R100). `second` marks slots 32 and later. (Log entry: 38 DEDUCED.) -/
def State.useCode (s : State) (ch c : Nat) (second : Bool) : State :=
  if h : ch < 12 then
    let n : Fin 12 := ⟨ch, h⟩
    let mv := s.vrailMv n c
    let ref := s.refcode n (s.fld RL_PSET.VSET n)
    s.modSense n fun x => if second then { x with vr2 := mv, trimR := (c, ref) } else { x with vr1 := mv }
  else if ch < 24 then
    let n := railOf (ch - 12)
    let mv := s.vlocMv n c
    let ref := s.refcode n (s.fld RL_PSET.VSET n)
    s.modSense n fun x => { x with vloc := mv, trimL := (c, ref) }
  else if ch = 24 then
    let v := s.vbusMv c
    s.modTele fun t => { t with vbNow := v, vbSum := t.vbSum + v }
  else if ch = 25 then s.modTele fun t => { t with vinMv := (rhe ((c : Int) * 8) 5).toNat }
  else if h : ch - 26 < 16 then s.tempSlot ⟨ch - 26, h⟩ c
  else if ch = 46 then s.modTele fun t => { t with v5Mv := (rhe (c : Int) 10).toNat }
  else if ch = 47 then s.modTele fun t => { t with vcoreMv := (rhe (c : Int) 20).toNat }
  else s

/-- The next slot of TC0's frame has passed (R90). -/
def State.tc0Slot (s : State) : State :=
  let len := s.slotLen
  (s.advance (s.tele.slotAt + len)).modTele fun t => { t with slot := t.slot + 1, slotAt := t.slotAt + len }

/-- Every rail is OFF or RETIRED and LPEN is 1: a frame that begins now runs in low-power mode (R93). -/
def State.lowPower (s : State) : Bool := s.flag CV_CTRL.LPEN 0 && (List.finRange 12).all fun n => !s.live n

/-- The next slot of TC1's frame of 150 has passed; its mode changes where a frame ends (R90, R93). -/
def State.tc1Slot (s : State) : State :=
  let k := s.tele.slot1
  let end_ := s.tele.slotAt1 + s.slotLen1
  let low := if k = 149 then s.lowPower else s.tele.low1
  (s.advance end_).modTele fun t => { t with slot1 := (k + 1) % 150, slotAt1 := end_, low1 := low }

/-- TC1 goes past its slots up to the first one that `want` names. (Log entry: 38 DEDUCED.) -/
def State.tc1Seek (s : State) (want : Nat → Bool) : Nat → State
  | 0 => s
  | k + 1 => if want s.tele.slot1 then s else s.tc1Slot.tc1Seek want k

/-- An XREF conversion of converter `c`, in nV, against its factory code (R99). (Log entry: 9 DESIGN CHOICE.) -/
def State.xrefTake (s : State) (c : Fin 2) (v : Int) : State :=
  if !s.flag CV_CTRL.XCHKEN 0 then s.modTele fun t => if c = 0 then { t with xref0 := 0 } else { t with xref1 := 0 }
  else
    let code := Config.xrefCorrect c (telCode v)
    let want := Config.xrefCode c
    let bad := decide (atLeast1 (s.fld CV_SCRUB.XTOL 0) < ((code : Int) - want).natAbs)
    let run := if bad then (if c = 0 then s.tele.xref0 else s.tele.xref1) + 1 else 0
    let s := s.modTele fun t => if c = 0 then { t with xref0 := run, xcode0 := code } else { t with xref1 := run, xcode1 := code }
    let f := if c = 0 then CV_STATUS.TC0DRIFT else CV_STATUS.TC1DRIFT
    if run < 2 ∨ s.flag f 0 then s
    else
      let s := s.raise f 0
      let s := s.modTele fun t =>
        if c = 0 then { t with driftAt0 := some s.now, driftPerm0 := false } else { t with driftAt1 := some s.now, driftPerm1 := false }
      s.classify 0x0A c clsTrans none code want

/-- TC0_SLOT: the next slot of TC0's frame is converted and complete; `v` is the input in nV (R89 to R92). Slot 29 is the XREF conversion
(R90, R99). (Log entry: 38 DEDUCED.) -/
def execTc0Slot (v : Int) (s : State) : Host.Outcome State Fault Refusal :=
  clocked s (
    let k := s.tele.slot
    if 64 ≤ k then s
    else
      let s := s.tc0Slot
      match slotChan k with
      | none => s.xrefTake 0 v
      | some ch =>
        let r := s.telConvert ch v
        r.2.useCode ch r.1 (decide (32 ≤ k)))

/-- TRIGGERED_CONVERSION: a conversion that TM0 or TM1 asked for has run from the next slot boundary of its converter, and lengthens its
frame by one slot; TM0's comes first of two asked for in one slot of a converter (R94). (Log entries: 29 DEDUCED, 38 DEDUCED.) -/
def execTriggeredConversion (c : Fin 2) (v : Int) (s : State) : Host.Outcome State Fault Refusal :=
  clocked s (
    let s := s.seenAll
    let ch := s.trigChan (decide (c = 0))
    if !s.trigNext (decide (c = 0)) then s
    else
      let end0 := s.tele.slotAt + s.slotLen
      let end1 := s.tele.slotAt1 + s.slotLen1
      let s := if ch < 48 then (s.advance end0).modTele fun t => { t with slotAt := end0 }
        else (s.advance end1).modTele fun t => { t with slotAt1 := end1 }
      let s := s.modTele fun t => if c = 0 then { t with pend0 := t.pend0.drop 1 } else { t with pend1 := t.pend1.drop 1 }
      let r := s.telConvert ch v
      let v := r.2.vbusMv r.1
      let s := if ch = 24 then r.2.modTele fun t => { t with vbNow := v } else r.2
      if c = 0 then s.setFlds 0 [(CV_TRES0.COUNT, s.fld CV_TRES0.COUNT 0 + 1), (CV_TRES0.CORR, r.1)]
      else s.setFlds 0 [(CV_TRES1.COUNT, s.fld CV_TRES1.COUNT 0 + 1), (CV_TRES1.CORR, r.1)])

/-- The DAC of a place in TC1's frame (R90), the window of a DAC (§3.7), and whether the variant has it (R98). -/
def dacOf (k : Nat) : Nat := if k < 48 then 2 * k else if k < 96 then 2 * (k - 48) + 1 else k
def dacWin (d : Nat) : Fin 72 := winOf (d / 2)
def State.dacPresent (s : State) (d : Nat) : Bool :=
  match winRail (dacWin d) with
  | none => !s.absentPhase (dacWin d).val
  | some (n, _) => !s.absentRail n

/-- A slot of TC1's frame in which a DAC is read, and that DAC: six groups of 24 DACs, each followed by XREF (R90). DACs of absent
elements are not read (R98). -/
def slotDac (k : Nat) : Nat := dacOf (k / 25 * 24 + k % 25)
def State.dacSlot (s : State) (k : Nat) : Bool := decide (k % 25 < 24) && s.dacPresent (slotDac k)

/-- The run of failed readbacks of a DAC. -/
def State.dacRun (s : State) (d : Nat) : Nat :=
  match s.tele.dacRuns.find? fun e => e.1 == d with
  | some e => e.2
  | none => 0

/-- A threshold DAC has failed two readbacks in a row (R98, R255). The fault manager is told at the second one, and again where the flag
has been cleared since. (Log entries: 37 DEDUCED, 38 DEDUCED.) -/
def State.dacFail (s : State) (d run code want : Nat) : State :=
  let known := decide (2 < run) && s.flag CV_STATUS.DACFAIL 0
  let s := (s.raise CV_STATUS.DACFAIL 0).setFld CV_SCRUB.LASTDAC 0 d
  if known then s
  else
  let s := s.classify 0x09 d clsPerm none code want
  match winRail (dacWin d) with
  | some (n, _) => (s.modWin (dacWin d) fun w => { w with failed := true }).faultLeave n
  | none =>
    let p := phaseOf (dacWin d).val
    if !s.flag FM_CTRL.DACRET 0 || s.phRet p then s
    else
      let s := s.retirePhase p
      match s.phRail p with
      | some n => s.checkPhases n
      | none => s

/-- TC1_DAC_READBACK: TC1 has read the next DAC of its frame, at the end of its slot; `v` is its output above the readback reference, in
nV (R90, R97, R98). (Log entry: 38 DEDUCED.) -/
def execTc1DacReadback (v : Int) (s : State) : Host.Outcome State Fault Refusal :=
  clocked s (
    if !s.flag CV_CTRL.DSCRUB 0 || !s.active.loaded then s
    else
      let s := s.tc1Seek s.dacSlot 150
      let d := slotDac s.tele.slot1
      let s := s.tc1Slot
      let r := s.telConvert (48 + (if d < 96 then d / 2 else d - 96)) v
      let s := r.2
      let w := dacWin d
      let volt := decide (96 ≤ d ∧ d < 120)
      let code := if d % 2 = 0 then s.fld CMP_THR.UPPER w else s.fld CMP_THR.LOWER w
      let want := (if volt then 60 else 40) * code
      let tol := (if volt then 15 else 10) * atLeast1 (s.fld CV_SCRUB.DTOL 0)
      let bad := decide (tol < ((r.1 : Int) - want).natAbs)
      if bad && s.flag CV_STATUS.TC1DRIFT 0 then s
      else
        let run := if bad then s.dacRun d + 1 else 0
        let s := s.modTele fun t =>
          { t with dacRuns := (if bad then [(d, run)] else []) ++ t.dacRuns.filter fun e => !(e.1 == d) }
        if 2 ≤ run then s.dacFail d run r.1 want else s)

/-- XREF_CHECK: an XREF conversion of converter `c`, in nV, against its factory code (R99): TC0's in slot 29 of its frame, where TC0 has
come to it, and TC1's at the end of its next group of DACs (R90). (Log entries: 9 DESIGN CHOICE, 38 DEDUCED.) -/
def execXrefCheck (c : Fin 2) (v : Int) (s : State) : Host.Outcome State Fault Refusal :=
  clocked s (
    if c = 0 then (if s.tele.slot = 29 then s.tc0Slot.xrefTake 0 v else s)
    else ((s.tc1Seek (fun k => k % 25 == 24) 150).tc1Slot).xrefTake 1 v)

/-- The frame values of a live rail (R100). -/
def State.frameValues (s : State) (n : Fin 12) : State :=
  let live := s.live n
  s.modSense n fun x =>
    let vf := (rhe ((x.vr1 + x.vr2 : Nat) : Int) 2).toNat
    let i := if x.isCnt = 0 then 0 else rhe x.isSum x.isCnt
    let p := rhe ((vf : Int) * i) 1000
    if live then
      { x with vf := vf, iF := i, pf := p, isSum := 0, isCnt := 0, wV := x.wV + vf, wI := x.wI + i, wP := x.wP + p, wN := x.wN + 1 }
    else { x with isSum := 0, isCnt := 0 }

/-- The averaging window of a rail ends (R100, R79). (Log entry: 49 DESIGN CHOICE.) -/
def State.windowEnd (s : State) (n : Fin 12) : State :=
  let x := (s.rail n).sense
  let cs := s.active.sense[n].cslsb
  let s := if !s.live n ∨ x.wN = 0 then s
    else
      let s := s.setFlds n [(RL_VAVG.VALUE, (rhe (x.wV : Int) x.wN).toNat), (RL_IAVG.VALUE, unsignedOf 32 (rhe x.wI x.wN)),
        (RL_PAVG.VALUE, unsignedOf 32 (rhe x.wP x.wN)), (RL_TCTL.BLKW, min 255 x.blkCnt)]
      (s.railPhases n).foldl (fun (s : State) (p : Fin 48) =>
        let y := s.phase p
        if y.telCnt = 0 then s else s.setFldS PH_ITEL.I p (rhe (y.telSum * cs) (40000 * y.telCnt))) s
  let s := (s.railPhases n).foldl (fun (s : State) (p : Fin 48) => s.modPhase p fun y => { y with telSum := 0, telCnt := 0 }) s
  s.modSense n fun x => { x with wV := 0, wI := 0, wP := 0, wN := 0, blkCnt := 0 }

/-- The averaging exponent of a rail (Table 3-23). -/
def State.winExp (s : State) (n : Fin 12) : Nat := min 10 (s.fld RL_TCTL.WIN n)

/-- TRIM at the end of a frame (R96): FBK as it stands then chooses between the two readings. (Log entry: 38 DEDUCED.) -/
def State.trimStep (s : State) (n : Fin 12) : State :=
  let x := (s.rail n).sense
  let s' := s.modSense n fun y => { y with ovrSeen := false }
  if s.trimFrozen n then s'
  else
    let e := if s.flag CV_SNS.FBK n then x.trimL else x.trimR
    let b : Int := if s.flag CV_SNS.FBK n then 0 else s.biasOf n
    let m := rhe (((e.1 : Int) * 50 - b) * 64) 1000
    let t := s.fldS CV_TRIM.TRIM n
    let t := clampInt (-1024) 1023 (if 2 ≤ m - e.2 then t - 1 else if 2 ≤ e.2 - m then t + 1 else t)
    (s'.setFldS CV_TRIM.TRIM n t).setFld CV_TRIM.LIMIT n (bit (decide (t = -1024 ∨ t = 1023)))

/-- The shuttle demand of a rail at the end of a frame (R208, R209). -/
def State.shuttle (s : State) (n : Fin 12) : State :=
  let vhi := s.fldStep RL_REVS.VHI n s.now
  let d : Nat :=
    if !s.engaged n then 0
    else if vhi ≠ 0 ∧ vhi * 128 ≤ s.fld CV_VBUS.MV 0 then (s.rail n).prot.demand * 15 / 16
    else if (s.rail n).sense.vf < 1000 then 0
    else
      let k := railOf (s.fldStep RL_REVS.PARTNER n s.now)
      (rhe ((s.rail k).sense.pf * s.fldStep RL_REVS.SHARE n s.now * 1000) (256 * (s.rail n).sense.vf)).toNat
  s.modProt n fun p => { p with demand := d }

/-- The totals of a lead's group at the end of a frame (R350). -/
def State.groupTotals (s : State) (n : Fin 12) : State :=
  if !s.lead n then s
  else
    let x := (s.rail n).sense
    s.modGroup n fun g =>
      { g with tot := g.reports.foldl (fun a r => a + r.2.1.iF) x.iF, pwr := g.reports.foldl (fun a r => a + r.2.1.pf) x.pf }

/-- PH_ITEL of the phases spliced to no rail, every 16 frames (R88). Its unit needs a CSLSB, which such a phase does not have: the value
is free. (Log entry: 7 DESIGN CHOICE.) -/
def State.looseCurrents (s : State) : State :=
  s.forPhases fun s p =>
    if (s.phRail p).isSome ∨ (s.phase p).telCnt = 0 then s
    else
      let r := s.takeFree 32
      (r.2.setFld PH_ITEL.I p r.1.toNat).modPhase p fun y => { y with telSum := 0, telCnt := 0 }

/-- The values that the end of a frame gives (R92, R96, R100, R102, R208, R379). The die sensor's reading is free. (Log entry: 7 DESIGN
CHOICE.) -/
def State.frameGives (s : State) (len : Nat) : State :=
  let t := s.tele
  let s := s.setFlds 0 [(CV_VBUS.MV, (rhe (t.vbSum : Int) 4).toNat), (CV_VIN.MV, t.vinMv), (CV_VINT.V5, t.v5Mv),
    (CV_VINT.VCORE, t.vcoreMv)]
  let r := s.takeFree 16
  let s := r.2.setFld TH_DIE.T 0 r.1.toNat
  let s := (List.finRange 16).foldl (fun (s : State) (i : Fin 16) => s.tempPair i) s
  let s := s.forRails fun s n => ((s.frameValues n).addEnergy n len).trimStep n
  let s := s.forRails fun s n => if (t.frame + 1) % 2 ^ s.winExp n = 0 then s.windowEnd n else s
  let s := if (t.frame + 1) % 16 = 0 then s.looseCurrents else s
  s.forRails fun s n => (s.shuttle n).groupTotals n

/-- The checks that the end of a frame makes (§8.6 to §8.8, R219, R228): every entry to FAULT before the budget's stop request, and that
before any other transition (R213). (Log entry: 27 DEDUCED.) -/
def State.frameChecks (s : State) : State :=
  let s := s.forRails fun s n => (s.overloadCheck n).railVoltageCheck n
  let s := s.busVoltageCheck
  let s := (s.forRails fun s n => (s.tempWindow n).prematchMatch n).reviseBudget
  (s.forRails fun s n => s.faultLeave n).startChecks

/-- TC0_FRAME_END: the frame of TC0 ends, and the next one begins (R90, R93, R100). -/
def execTc0FrameEnd (s : State) : Host.Outcome State Fault Refusal :=
  clocked s (
    let s := s.advance (s.tele.slotAt + (64 - s.tele.slot) * s.slotLen)
    let end_ := s.tele.slotAt + (64 - s.tele.slot) * s.slotLen
    let s := (s.frameGives (end_ - s.tele.frameAt)).frameChecks
    let s := (List.finRange 4).foldl (fun (s : State) (f : Fin 4) => s.fanCurrent f (vget s.tele.corr (42 + f.val))) s
    (s.setFld CV_STATUS.LPACT 0 (bit s.lowPower)).modTele fun t =>
      { t with slot := 0, slotAt := end_, frameAt := end_, frameLen := end_ - t.frameAt, frame := t.frame + 1, vbSum := 0 })

end Sys2Proof.Machine
end

