-- ==== Sys2Proof/Machine/Dispatch.lean ====
section
/-! DEFINITION. Machine/Dispatch.lean: the meaning of every command, one arm per constructor of Instr. -/
namespace Sys2Proof.Machine

/-- The effect of a command on everything but the queue. -/
def exec (i : Instr) (s : State) : Host.Outcome State Fault Refusal :=
  match i with
  | .resetRelease l0 l1 l2 => Sys2Proof.Machine.execResetRelease l0 l1 l2 s
  | .pllLockTimeout a b => Sys2Proof.Machine.execPllLockTimeout a b s
  | .supervisorStart => Sys2Proof.Machine.execSupervisorStart s
  | .pinBothOff pin vin v5 vcore clk => Sys2Proof.Machine.execPinBothOff pin vin v5 vcore clk s
  | .wakePin => Sys2Proof.Machine.execWakePin s
  | .wakeByAddress => Sys2Proof.Machine.execWakeByAddress s
  | .bellBoundary => Sys2Proof.Machine.execBellBoundary s
  | .railSample n x => Sys2Proof.Machine.execRailSample n x s
  | .modelDisagreement n => Sys2Proof.Machine.execModelDisagreement n s
  | .allOnTimeout n => Sys2Proof.Machine.execAllOnTimeout n s
  | .allOffTimeout n => Sys2Proof.Machine.execAllOffTimeout n s
  | .reverseWatch n => Sys2Proof.Machine.execReverseWatch n s
  | .autotuneNoOscillation n => Sys2Proof.Machine.execAutotuneNoOscillation n s
  | .strandStart n => Sys2Proof.Machine.execStrandStart n s
  | .strandDeliver n taps dA sA dB sB => Sys2Proof.Machine.execStrandDeliver n taps dA sA dB sB s
  | .braidRerunDone n dA sA dB sB => Sys2Proof.Machine.execBraidRerunDone n dA sA dB sB s
  | .takeoverLive n => Sys2Proof.Machine.execTakeoverLive n s
  | .dutyLatch l => Sys2Proof.Machine.execDutyLatch l s
  | .currentTrigger n volts => Sys2Proof.Machine.execCurrentTrigger n volts s
  | .unsplicedConversion p v => Sys2Proof.Machine.execUnsplicedConversion p v s
  | .profileStep => Sys2Proof.Machine.execProfileStep s
  | .profileOutputInForce n => Sys2Proof.Machine.execProfileOutputInForce n s
  | .closeEnd n => Sys2Proof.Machine.execCloseEnd n s
  | .carrierFix n => Sys2Proof.Machine.execCarrierFix n s
  | .risingCommit p => Sys2Proof.Machine.execRisingCommit p s
  | .fallingCommit p => Sys2Proof.Machine.execFallingCommit p s
  | .pwmEdge p => Sys2Proof.Machine.execPwmEdge p s
  | .fastWindowKill p => Sys2Proof.Machine.execFastWindowKill p s
  | .stageFault p => Sys2Proof.Machine.execStageFault p s
  | .faultHoldEnd p => Sys2Proof.Machine.execFaultHoldEnd p s
  | .rotation n => Sys2Proof.Machine.execRotation n s
  | .balanceIntervalEnd n => Sys2Proof.Machine.execBalanceIntervalEnd n s
  | .windowLevelChange x volts => Sys2Proof.Machine.execWindowLevelChange x volts s
  | .comparatorBlankEnd x => Sys2Proof.Machine.execComparatorBlankEnd x s
  | .protWindowFault x => Sys2Proof.Machine.execProtWindowFault x s
  | .tc0Slot v => Sys2Proof.Machine.execTc0Slot v s
  | .tc0FrameEnd => Sys2Proof.Machine.execTc0FrameEnd s
  | .tc1DacReadback v => Sys2Proof.Machine.execTc1DacReadback v s
  | .xrefCheck c v => Sys2Proof.Machine.execXrefCheck c v s
  | .triggeredConversion c v => Sys2Proof.Machine.execTriggeredConversion c v s
  | .openLineDetect n d l => Sys2Proof.Machine.execOpenLineDetect n d l s
  | .restore n w => Sys2Proof.Machine.execRestore n w s
  | .selftestStart k => Sys2Proof.Machine.execSelftestStart k s
  | .selftestDone k pass => Sys2Proof.Machine.execSelftestDone k pass s
  | .selftestRun k w => Sys2Proof.Machine.execSelftestRun k w s
  | .queueJoin n => Sys2Proof.Machine.execQueueJoin n s
  | .slotGrant => Sys2Proof.Machine.execSlotGrant s
  | .queueAgeExpiry n => Sys2Proof.Machine.execQueueAgeExpiry n s
  | .tcloseExpiry n => Sys2Proof.Machine.execTcloseExpiry n s
  | .startTimeout n => Sys2Proof.Machine.execStartTimeout n s
  | .turnOffDelayExpiry n => Sys2Proof.Machine.execTurnOffDelayExpiry n s
  | .stopTimeout n => Sys2Proof.Machine.execStopTimeout n s
  | .topenExpiry n => Sys2Proof.Machine.execTopenExpiry n s
  | .tfaultExpiry n => Sys2Proof.Machine.execTfaultExpiry n s
  | .dieTsdTrip => Sys2Proof.Machine.execDieTsdTrip s
  | .dieTsdClear => Sys2Proof.Machine.execDieTsdClear s
  | .budgetOverrun => Sys2Proof.Machine.execBudgetOverrun s
  | .syncinEdge tap => Sys2Proof.Machine.execSyncinEdge tap s
  | .syncWindowClose => Sys2Proof.Machine.execSyncWindowClose s
  | .tbPathFail => Sys2Proof.Machine.execTbPathFail s
  | .acq w => Sys2Proof.Machine.execAcq w s
  | .tbSrcWrite w => Sys2Proof.Machine.execTbSrcWrite w s
  | .clrw n w => Sys2Proof.Machine.execClrw n w s
  | .stagingWrite a w => Sys2Proof.Machine.execStagingWrite a w s
  | .rgOpen w => Sys2Proof.Machine.execRgOpen w s
  | .rgCheck w => Sys2Proof.Machine.execRgCheck w s
  | .checkDone => Sys2Proof.Machine.execCheckDone s
  | .rgSwap w => Sys2Proof.Machine.execRgSwap w s
  | .swapAtEpoch w => Sys2Proof.Machine.execSwapAtEpoch w s
  | .rgCancel w => Sys2Proof.Machine.execRgCancel w s
  | .rgDiscard w => Sys2Proof.Machine.execRgDiscard w s
  | .swapBoundary => Sys2Proof.Machine.execSwapBoundary s
  | .scrubPass single active shadow => Sys2Proof.Machine.execScrubPass single active shadow s
  | .reloadFactoryCalibration w => Sys2Proof.Machine.execReloadFactoryCalibration w s
  | .clearPeaks n w => Sys2Proof.Machine.execClearPeaks n w s
  | .clearEnergy n w => Sys2Proof.Machine.execClearEnergy n w s
  | .clearPeaksAndEnergy n w => Sys2Proof.Machine.execClearPeaksAndEnergy n w s
  | .targetWrite n current w => Sys2Proof.Machine.execTargetWrite n current w s
  | .vocWrite n w => Sys2Proof.Machine.execVocWrite n w s
  | .modeRequestWrite n w => Sys2Proof.Machine.execModeRequestWrite n w s
  | .facetForceWrite n w => Sys2Proof.Machine.execFacetForceWrite n w s
  | .autotuneStart n w => Sys2Proof.Machine.execAutotuneStart n w s
  | .autotuneAbandon n w => Sys2Proof.Machine.execAutotuneAbandon n w s
  | .pairOverrideWrite p w => Sys2Proof.Machine.execPairOverrideWrite p w s
  | .wearWrite p w => Sys2Proof.Machine.execWearWrite p w s
  | .railEnableWrite n w => Sys2Proof.Machine.execRailEnableWrite n w s
  | .hostkill n w => Sys2Proof.Machine.execHostkill n w s
  | .clearLockout n w => Sys2Proof.Machine.execClearLockout n w s
  | .thresholdWrite w => Sys2Proof.Machine.execThresholdWrite w s
  | .clearPhase w => Sys2Proof.Machine.execClearPhase w s
  | .clearStrand w => Sys2Proof.Machine.execClearStrand w s
  | .clearRail w => Sys2Proof.Machine.execClearRail w s
  | .clearAll w => Sys2Proof.Machine.execClearAll w s
  | .supervisorWatchdogExpiry pc => Sys2Proof.Machine.execSupervisorWatchdogExpiry pc s
  | .logbookWrite => Sys2Proof.Machine.execLogbookWrite s
  | .logbookErase w => Sys2Proof.Machine.execLogbookErase w s
  | .tracePostDone n => Sys2Proof.Machine.execTracePostDone n s
  | .traceFreeze w => Sys2Proof.Machine.execTraceFreeze w s
  | .traceRelease w => Sys2Proof.Machine.execTraceRelease w s
  | .traceWindowWrite a w => Sys2Proof.Machine.execTraceWindowWrite a w s
  | .replayStart w => Sys2Proof.Machine.execReplayStart w s
  | .replayAbort w => Sys2Proof.Machine.execReplayAbort w s
  | .replayDone => Sys2Proof.Machine.execReplayDone s
  | .newChallenge w => Sys2Proof.Machine.execNewChallenge w s
  | .verifyToken w => Sys2Proof.Machine.execVerifyToken w s
  | .debugLock w => Sys2Proof.Machine.execDebugLock w s
  | .debugBlockEnd => Sys2Proof.Machine.execDebugBlockEnd s
  | .ident n seq f => Sys2Proof.Machine.execIdent n seq f s
  | .status n seq f => Sys2Proof.Machine.execStatus n seq f s
  | .temp n seq f => Sys2Proof.Machine.execTemp n seq f s
  | .vtarget n seq f => Sys2Proof.Machine.execVtarget n seq f s
  | .ilimit n seq f => Sys2Proof.Machine.execIlimit n seq f s
  | .chgen n seq f => Sys2Proof.Machine.execChgen n seq f s
  | .reven n seq f => Sys2Proof.Machine.execReven n seq f s
  | .notifyAck n seq f => Sys2Proof.Machine.execNotifyAck n seq f s
  | .linkFormatFrame n type seq f => Sys2Proof.Machine.execLinkFormatFrame n type seq f s
  | .linkFrameDiscard n why dur light => Sys2Proof.Machine.execLinkFrameDiscard n why dur light s
  | .beacon n => Sys2Proof.Machine.execBeacon n s
  | .packAbsence n => Sys2Proof.Machine.execPackAbsence n s
  | .unbind n w => Sys2Proof.Machine.execUnbind n w s
  | .linkEnableWrite n w => Sys2Proof.Machine.execLinkEnableWrite n w s
  | .notify n => Sys2Proof.Machine.execNotify n s
  | .notifyRetry n => Sys2Proof.Machine.execNotifyRetry n s
  | .linkWatchdogExpiry n => Sys2Proof.Machine.execLinkWatchdogExpiry n s
  | .pointerSet a pec => Sys2Proof.Machine.execPointerSet a pec s
  | .registerWrite a w pec cont => Sys2Proof.Machine.execRegisterWrite a w pec cont s
  | .w1cWrite a w => Sys2Proof.Machine.execW1cWrite a w s
  | .counterClearWrite a w => Sys2Proof.Machine.execCounterClearWrite a w s
  | .snapshotRead r => Sys2Proof.Machine.execSnapshotRead r s
  | .lbStatusRead => Sys2Proof.Machine.execLbStatusRead s
  | .busStartStop stop partialWord sending => Sys2Proof.Machine.execBusStartStop stop partialWord sending s
  | .alertResponse others => Sys2Proof.Machine.execAlertResponse others s
  | .busTimeout => Sys2Proof.Machine.execBusTimeout s
  | .alertMaskWrite w => Sys2Proof.Machine.execAlertMaskWrite w s
  | .deviceReset w => Sys2Proof.Machine.execDeviceReset w s
  | .enterDeepStandby w => Sys2Proof.Machine.execEnterDeepStandby w s
  | .deepStandbyEntry wake => Sys2Proof.Machine.execDeepStandbyEntry wake s
  | .sleepEntry => Sys2Proof.Machine.execSleepEntry s
  | .sleepExit => Sys2Proof.Machine.execSleepExit s
  | .lpClockEdge => Sys2Proof.Machine.execLpClockEdge s
  | .lanyardFrameStart => Sys2Proof.Machine.execLanyardFrameStart s
  | .lanyardFrameReceive tap f => Sys2Proof.Machine.execLanyardFrameReceive tap f s
  | .ringFormStart rt => Sys2Proof.Machine.execRingFormStart rt s
  | .claim addr => Sys2Proof.Machine.execClaim addr s
  | .number count => Sys2Proof.Machine.execNumber count s
  | .memberJoin srcm n rt => Sys2Proof.Machine.execMemberJoin srcm n rt s
  | .spanrpt src r => Sys2Proof.Machine.execSpanrpt src r s
  | .spanrptSend n => Sys2Proof.Machine.execSpanrptSend n s
  | .spanAttachTimeout n idx => Sys2Proof.Machine.execSpanAttachTimeout n idx s
  | .spanSlotTimeout n => Sys2Proof.Machine.execSpanSlotTimeout n s
  | .token k => Sys2Proof.Machine.execToken k s
  | .member src payload => Sys2Proof.Machine.execMember src payload s
  | .memberBroadcast => Sys2Proof.Machine.execMemberBroadcast s
  | .activate src actid kind epoch => Sys2Proof.Machine.execActivate src actid kind epoch s
  | .actres src actid kind result => Sys2Proof.Machine.execActres src actid kind result s
  | .wrap src start kind epoch => Sys2Proof.Machine.execWrap src start kind epoch s
  | .hopLoss => Sys2Proof.Machine.execHopLoss s
  | .probe received => Sys2Proof.Machine.execProbe received s
  | .ringRestore => Sys2Proof.Machine.execRingRestore s
  | .activateSwap w => Sys2Proof.Machine.execActivateSwap w s
  | .activateFirmware w => Sys2Proof.Machine.execActivateFirmware w s
  | .timerStep k => Sys2Proof.Machine.execTimerStep k s
  | .timerCapture k rising => Sys2Proof.Machine.execTimerCapture k rising s
  | .timerCountWrite k w => Sys2Proof.Machine.execTimerCountWrite k w s
  | .timerTopWrite k w => Sys2Proof.Machine.execTimerTopWrite k w s
  | .compareValueWrite w => Sys2Proof.Machine.execCompareValueWrite w s
  | .channelModeWrite w => Sys2Proof.Machine.execChannelModeWrite w s
  | .fanControlWrite f w => Sys2Proof.Machine.execFanControlWrite f w s
  | .fanCurveUpdate => Sys2Proof.Machine.execFanCurveUpdate s
  | .tachEdge f => Sys2Proof.Machine.execTachEdge f s
  | .fanStartTimeout f => Sys2Proof.Machine.execFanStartTimeout f s
  | .fanKickEnd f => Sys2Proof.Machine.execFanKickEnd f s
  | .fanBlockedRetry f => Sys2Proof.Machine.execFanBlockedRetry f s
  | .fanStopped f => Sys2Proof.Machine.execFanStopped f s
  | .fwopen w => Sys2Proof.Machine.execFwopen w s
  | .fwwrite w => Sys2Proof.Machine.execFwwrite w s
  | .fwclose w => Sys2Proof.Machine.execFwclose w s
  | .fwact w => Sys2Proof.Machine.execFwact w s
  | .fwcancel w => Sys2Proof.Machine.execFwcancel w s
  | .commit w => Sys2Proof.Machine.execCommit w s
  | .rollback w => Sys2Proof.Machine.execRollback w s
  | .rigsave w => Sys2Proof.Machine.execRigsave w s
  | .keyload w => Sys2Proof.Machine.execKeyload w s
  | .keyrevoke w => Sys2Proof.Machine.execKeyrevoke w s
  | .lock w => Sys2Proof.Machine.execLock w s
  | .setsave w => Sys2Proof.Machine.execSetsave w s
  | .modelsave w => Sys2Proof.Machine.execModelsave w s
  | .setdef w => Sys2Proof.Machine.execSetdef w s
  | .flashOperationDone => Sys2Proof.Machine.execFlashOperationDone s
  | .wearRecordSave => Sys2Proof.Machine.execWearRecordSave s
  | .firmwareActivation => Sys2Proof.Machine.execFirmwareActivation s
  | .trialAutocommit => Sys2Proof.Machine.execTrialAutocommit s
  | .counterLatch w => Sys2Proof.Machine.execCounterLatch w s
  | .tapReset => Sys2Proof.Machine.execTapReset s
  | .bypass => Sys2Proof.Machine.execBypass s
  | .idcode => Sys2Proof.Machine.execIdcode s
  | .samplePreload cells => Sys2Proof.Machine.execSamplePreload cells s
  | .extest => Sys2Proof.Machine.execExtest s
  | .highz => Sys2Proof.Machine.execHighz s
  | .clamp => Sys2Proof.Machine.execClamp s
  | .svhalt => Sys2Proof.Machine.execSvhalt s
  | .svrun => Sys2Proof.Machine.execSvrun s
  | .economiserDelayExpiry k => Sys2Proof.Machine.execEconomiserDelayExpiry k s
  | .fanTimerSourceLapse f => Sys2Proof.Machine.execFanTimerSourceLapse f s
  | .packTempReportStale n => Sys2Proof.Machine.execPackTempReportStale n s
  | .tcdriftPermanent c => Sys2Proof.Machine.execTcdriftPermanent c s
  | .hopDelayMarker => Sys2Proof.Machine.execHopDelayMarker s

end Sys2Proof.Machine
end

