-- ==== Sys2Proof/Machine/Idle.lean ====
section
/-! DEFINITION. Machine/Idle.lean: what passes on an empty queue. -/
namespace Sys2Proof.Machine

/-- A tick of TBCLK, where it runs (R18, R440): the time base counts, and nothing else happens. (Log entry: 2 DESIGN CHOICE.) -/
def State.idle (s : State) : State :=
  match s.power.mode with
  | .running => { s with now := s.now + 1 }
  | .held => s
  | .sleep => s
  | .standby => s

end Sys2Proof.Machine
end

