-- ==== Sys2Proof/Machine/Step.lean ====
section
/-! DEFINITION. Machine/Step.lean: one step of the block. -/
namespace Sys2Proof.Machine

/-- The command at the front of the queue runs with the queue's rest; on an empty queue a tick passes. (Log entries: 1 DESIGN CHOICE, 2
DESIGN CHOICE.) -/
def step (s : State) : Host.Outcome State Fault Refusal :=
  match s.pending with
  | [] => .next (s.idle)
  | c :: rest => exec c { s with pending := rest }

/-- The command that a word spells put at the front of the queue. (Log entry: 1 DESIGN CHOICE.) -/
def State.withFetchWord (s : State) (nbits w : Nat) : State :=
  match decodeTableWord nbits w with
  | some c => { s with pending := c :: s.pending }
  | none => s

end Sys2Proof.Machine
end

