-- ==== Sys2Proof/Safety.lean ====
section
/-! DEFINITION. Safety.lean: the terms in which the claims speak: what a command answers, what it leaves unchanged, and
when the host's word is taken. -/
namespace Sys2Proof.Machine

/-- The command answers `u`, settled: at the end of every command HB_STATUS.ACKD is evaluated (R325, R326), and the tick is kept since
which the conditions of sleep hold (R439); nothing else of `u` changes by that. -/
def Lands (c : Instr) (s u : State) : Prop := exec c s = .next (settle s u)

/-- The command answers a next state, the settled form of one of which `P` holds. -/
def Ends (c : Instr) (s : State) (P : State → Prop) : Prop := ∃ u, Lands c s u ∧ P u

/-- The same of a command by which the host acts: `s` is the state that whatever was due by now has left (R198, R364). -/
def HostLands (c : Instr) (s u : State) : Prop := ∀ x : State, x.dueAll = s → Lands c x u
def HostEnds (c : Instr) (s : State) (P : State → Prop) : Prop := ∀ x : State, x.dueAll = s → Ends c x P

/-- The registers outside `ks` keep their words. -/
def OnlyRegs (s u : State) (ks : List RKey) : Prop := ∀ k, k ∉ ks → u.regs.get k = s.regs.get k

/-- Beside the register file, and the note of what hardware set at this tick (R13), nothing of the state differs. -/
def OnlyFile (s u : State) : Prop := u = { s with regs := u.regs, hot := u.hot }

/-- The same beside what a host write moves of the bus's own record: the pointer, the open transaction and its acknowledges. -/
def OnlyWrite (s u : State) : Prop := u = { s with regs := u.regs, hot := u.hot, bus := u.bus }

/-- The status words of the rails. -/
def railKeys : List RKey := (List.range 12).map fun n => ⟨.RL_STATUS, n⟩

/-- The acknowledge bit stands only while an alert is pending (R325, R326). -/
def AckSound (s : State) : Prop := s.flag HB_STATUS.ACKD 0 = true → s.alertPending = true

/-- The host's word reaches its register: the device is ready and not asleep, the element is present, the word is not
discarded whole, and it is no repeat of a tagged command (R8, R316, R321, R415). -/
abbrev Taken (s : State) (r : Reg) (n : Nat) (w : Word) : Prop :=
  s.ready = true ∧ s.power.mode = .running ∧ s.absentReg r (s.keyOf r n) = false ∧
    s.refuses r (s.keyOf r n) w = none ∧ s.tagSays r n w = .run

/-- The registers that a classified and logged event counts in (R254, R265). -/
def logKeys : List RKey := [⟨.FM_CNT, 0⟩, ⟨.FM_STATUS, 0⟩, ⟨.LB_STATUS, 0⟩]

/-- A cause sends rail `n` of `v` to FAULT at once (R213, R226): the rail is live and not in FAULT, and has not left OFF at this tick. -/
abbrev CanFault (v : State) (n : Fin 12) : Prop :=
  v.live n = true ∧ v.rst n ≠ stFault ∧ ¬ (v.movedNow n = true ∧ v.rst n = stPrematch)

/-- Rail `n` has entered FAULT for a cause at tick `t` (R226, R227): STATE, PREV, CAUSE and FLTF show it, the entry is counted, the
contactor is released, the start slot and the queue are left, and no other rail's status is touched. -/
def FaultAt (s u : State) (n : Fin 12) (cause t : Nat) : Prop :=
  u.rst n = stFault ∧ u.fld RL_STATUS.PREV n = s.rst n ∧ u.fld RL_STATUS.CAUSE n = cause ∧ u.flag RL_STATUS.FLTF n = true ∧
    u.flag RL_STATUS.CONT n = false ∧ u.flag RL_STATUS.SLOT n = false ∧ u.flag RL_STATUS.QUEUED n = false ∧
    u.fld RL_SCNT.FLTCNT n = satNat (2 ^ RL_SCNT.FLTCNT.width - 1) (s.fld RL_SCNT.FLTCNT n + 1) ∧
    (u.rail n).life.entry = t ∧ (u.rail n).life.causes = [cause] ∧
    ∀ m : Fin 12, m ≠ n → u.reg .RL_STATUS m = s.reg .RL_STATUS m
def FaultEntered (s u : State) (n : Fin 12) (cause : Nat) : Prop := FaultAt s u n cause u.now

/-- Rail `n` has entered OFF (R225): contactor released, start slot and queue left, VALID, TRIM and the sense fallback cleared, the
carrier stopped, the converters powered down, and no other rail's status touched. -/
def OffEntered (s u : State) (n : Fin 12) : Prop :=
  u.rst n = stOff ∧ u.fld RL_STATUS.PREV n = s.rst n ∧ u.flag RL_STATUS.CONT n = false ∧ u.flag RL_STATUS.SLOT n = false ∧
    u.flag RL_STATUS.QUEUED n = false ∧ u.flag RL_VOC.VALID n = false ∧ u.fld CV_TRIM.TRIM n = 0 ∧
    u.flag CV_SNS.FBK n = false ∧ (u.rail n).carrier = {} ∧ (u.rail n).err = {} ∧ (u.rail n).life.entry = u.now ∧
    ∀ m : Fin 12, m ≠ n → u.reg .RL_STATUS m = s.reg .RL_STATUS m

/-- Link `n` as it stands when a frame of `len` payload bytes ends: the ACKs that began before the frame did have gone out (R291). -/
def State.atEnd (s : State) (n : Fin 12) (len : Nat) : State := s.linkBegun n (s.now - frameTicks len)

/-- A pack frame of `len` payload bytes, of which the receiver saw the light `x`, that comes to nothing (R279, R282, R286, R291): a link that
is OFF sees nothing, one that transmitted at its start ignores it, one that was blinded discards it, and while the supervisor does not run
only the watchdogs hear it. -/
def Unheard (cmd : Instr) (s : State) (n : Fin 12) (len : Nat) (x : LightIn) : Prop :=
  let t := s.atEnd n len
  (s.lst n = lkOff → Lands cmd s s) ∧
    (s.lst n ≠ lkOff → t.deaf n (frameTicks len) = true → Lands cmd s (t.linkGlimpse n x)) ∧
    (s.lst n ≠ lkOff → t.deaf n (frameTicks len) = false → spoiling x = true → Lands cmd s ((t.linkTaken n x).linkDiscard n .light)) ∧
    (s.lst n ≠ lkOff → t.deaf n (frameTicks len) = false → spoiling x = false → ((t.linkTaken n x).linkHeard n).svRuns = false →
      Lands cmd s ((t.linkTaken n x).linkHeard n))

/-- Link `n` receives such a frame, and `t` is the link when it is about to be answered: the supervisor runs. -/
def Heard (s : State) (n : Fin 12) (len : Nat) (x : LightIn) (t : State) : Prop :=
  s.lst n ≠ lkOff ∧ (s.atEnd n len).deaf n (frameTicks len) = false ∧ spoiling x = false ∧
    t = ((s.atEnd n len).linkTaken n x).linkHeard n ∧ t.svRuns = true

/-- An ACK of link `n` with the SEQ and the payload given waits behind those of `t` (R291): it begins 40 µs to 250 µs after the frame, or when
the line is free. -/
def Answered (t u : State) (n : Fin 12) (seq : Nat) (bytes : List Byte) : Prop :=
  ∃ st, (u.link n).acks = (t.link n).acks ++ [(st, seq, bytes)] ∧ t.now + 40 * us ≤ st ∧ st ≤ max (t.now + 250 * us) (t.lineFree n)

/-- FU_CMD takes a command (R394, R405): its word is taken, the supervisor runs, or is in RECOVERY for commands 1 to 5, and no
command is in progress, but for FWCANCEL and ROLLBACK. -/
abbrev FuTaken (s : State) (c : Nat) (w : Word) : Prop :=
  Taken s .FU_CMD 0 (withCmd w c) ∧ (s.svRuns = true ∨ (s.fld SV_STATUS.STATE 0 = 3 ∧ c ≤ 5)) ∧
    (s.flag FU_STATUS.BUSY 0 = false ∨ c = 5 ∨ c = 7)

/-- FU_STATUS after a command (R405): the command, and its completion code with DONE or REFUSED, or BUSY while its operations, of which `o`
is the last to be queued, are still to be done. -/
def FuDone (s u : State) (c : Nat) : Prop :=
  u.fld FU_STATUS.LASTCMD 0 = c ∧ u.fld FU_STATUS.CODE 0 = 0 ∧ u.flag FU_STATUS.BUSY 0 = s.flag FU_STATUS.BUSY 0 ∧
    u.flag SV_EVENT.DONE 0 = true
def FuRefused (s u : State) (c code : Nat) : Prop :=
  u.fld FU_STATUS.LASTCMD 0 = c ∧ u.fld FU_STATUS.CODE 0 = code ∧ u.flag SV_EVENT.REFUSED 0 = true ∧ u.flash = s.flash
def FuStarted (s u : State) (c : Nat) (o : FlashOp) : Prop :=
  u.fld FU_STATUS.LASTCMD 0 = c ∧ u.fld FU_STATUS.CODE 0 = 0 ∧ u.flag FU_STATUS.BUSY 0 = true ∧ u.flash.ops = s.flash.ops ++ [o]

end Sys2Proof.Machine
end

