-- ==== Sys2Proof/Certificates/Slice0/Obligations.lean ====
section
/-! DEFINITION. Certificates/Slice0/Obligations.lean: what is claimed of the block. A claim that a command has an effect says the
state it answers, under hypotheses on the state before and the operands alone. `Lands c s u`: the command answers `u` settled
(R325, R326), so `u` is also the frame: what it does not change is unchanged. -/

open Sys2Proof Sys2Proof.Machine

/-- Rows SYNCIN_EDGE and SYNC_WINDOW_CLOSE (R30 to R34). With SRC 0 an edge has no effect. While the acceptance windows run, an edge
within W of its expected instant moves the flywheel, unless what SYNCIN has run off beyond 0.5 % has added up to more than W; any other
edge counts in TB_XCNT alone. (The sum is held in 1/25 tap.) A window that closes empty is bridged: TB_MCNT counts, MISS sets, and the
flywheel goes on by M; the eighth in a row enters holdover. (Where the rules leave a reading open it is the model's: log entries 39, 50.)
-/
def Obligations.SynchroniserEdges : Prop :=
  ∀ (s : State) (tap : Fin 64), s.power.mode = .running →
    let e := s.now * 64 + tap.val
    (s.flag TB_CTRL.SRC 0 = false → Lands (.syncinEdge tap) s s) ∧
    (∀ p, s.flag TB_CTRL.SRC 0 = true → s.tbTracking = true → s.time.edge = some p →
      let dev : Int := (e : Int) - (p + s.tbMTaps : Nat)
      (dev.natAbs ≤ s.tbW → (s.tbDrift dev).natAbs ≤ 25 * s.tbW →
        Ends (.syncinEdge tap) s fun u =>
          u.time.edge = some e ∧ u.time.raw = some e ∧ u.time.misses = 0 ∧ u.time.drift = s.tbDrift dev ∧
            u = { s with regs := u.regs, hot := u.hot, time := u.time } ∧ (∀ m : Fin 12, u.rst m = s.rst m) ∧
            OnlyRegs s u (⟨.TB_STATUS, 0⟩ :: ⟨.ALR_EVT, 0⟩ :: railKeys)) ∧
      (s.tbW < dev.natAbs ∨ 25 * s.tbW < (s.tbDrift dev).natAbs →
        Lands (.syncinEdge tap) s ((s.bump TB_XCNT.COUNT 0).modTime fun t => { t with raw := some e }))) ∧
    (∀ p, s.tbTracking = true → s.time.edge = some p →
      (s.time.misses < 7 →
        Lands .syncWindowClose s
          ((((s.advance ((p + s.tbMTaps + s.tbW) / 64 + 1)).bump TB_MCNT.COUNT 0).raise TB_STATUS.MISS 0).modTime fun t =>
            { t with edge := some (p + s.tbMTaps), misses := t.misses + 1 })) ∧
      (7 ≤ s.time.misses → s.flag TB_STATUS.HOLD 0 = false →
        Ends .syncWindowClose s fun u =>
          u.flag TB_STATUS.HOLD 0 = true ∧ u.flag TB_STATUS.HOLDIN 0 = true ∧ u.flag TB_STATUS.LOCK 0 = false ∧
            u.flag TB_STATUS.MISS 0 = true ∧ u.time.edge = none ∧
            u.fld TB_MCNT.COUNT 0 = satNat (2 ^ TB_MCNT.COUNT.width - 1) (s.fld TB_MCNT.COUNT 0 + 1) ∧
            u = { s with regs := u.regs, hot := u.hot, now := u.now, time := u.time, log := u.log } ∧
            (∀ m : Fin 12, u.rst m = s.rst m) ∧
            OnlyRegs s u (⟨.TB_MCNT, 0⟩ :: ⟨.TB_STATUS, 0⟩ :: ⟨.ALR_EVT, 0⟩ :: (logKeys ++ railKeys))))

/-- Rows QUEUE_JOIN and QUEUE_AGE_EXPIRY (R215, R216): a rail whose start condition has held joins the start queue when TONDLY has passed,
and a rail that has waited AGE seconds is marked for PRIO 15. (Where the rules leave a reading open it is the model's: log entries 12,
27.) -/
def Obligations.StartQueue : Prop :=
  ∀ (s : State) (n : Fin 12) (t : Nat), s.power.mode = .running →
    ((s.rail n).life.condSince = some t → s.rst n = stOff → s.flag RL_STATUS.QUEUED n = false → s.startCond n = true →
      s.railPhases n ≠ [] →
      Lands (.queueJoin n) s (((s.advance (t + s.fld RL_TDLY.TONDLY n * ms)).setFld RL_STATUS.QUEUED n 1).modLife n fun l =>
        { l with arrival := some (max s.now (t + s.fld RL_TDLY.TONDLY n * ms)), aged := false })) ∧
    ((s.rail n).life.arrival = some t → s.flag RL_STATUS.QUEUED n = true →
      Lands (.queueAgeExpiry n) s ((s.advance (t + max 1 (s.fld PR_START.AGE 0) * 1000 * ms)).modLife n fun l =>
        { l with aged := true }))

/-- Rows TCLOSE_EXPIRY and CLOSE_END (R220): TCLOSE after the contactor is driven a rail in PREMATCH enters CLOSE, and after 16 profile
steps there it enters RAMP, or FAULT with CLOSEFAIL (18) after an over-range. A follower takes no step to CLOSE or RAMP of its own. FAULT
comes in the place of a transition of the same tick (R213), here and in what follows. (Where the rules leave a reading open it is the
model's: log entry 27.) -/
def Obligations.ContactorCloses : Prop :=
  ∀ (s : State) (n : Fin 12), s.power.mode = .running →
    (∀ t, s.rst n = stPrematch → (s.rail n).life.contAt = some t → s.follower n = false →
      Ends (.tcloseExpiry n) s fun u =>
        u.rst n = stClose ∧ u.fld RL_STATUS.PREV n = stPrematch ∧
          u.now = max s.now (t + max 1 (s.fld RL_TCON.TCLOSE n) * ms) ∧ (u.rail n).life.entry = u.now ∧
          (u.rail n).life.closeSteps = 0 ∧ (u.rail n).mode.preAt = some u.now ∧
          ∀ m : Fin 12, m ≠ n → u.reg .RL_STATUS m = s.reg .RL_STATUS m) ∧
    (∀ t, s.rst n = stPrematch → (s.rail n).life.contAt = some t → s.follower n = true → Lands (.tcloseExpiry n) s s) ∧
    (s.rst n = stClose → 16 ≤ (s.rail n).life.closeSteps →
      ((s.rail n).life.closeOvr = true → CanFault (s.unmove n) n →
        Ends (.closeEnd n) s fun u => u.now = s.now ∧ FaultEntered (s.unmove n) u n 18) ∧
      ((s.rail n).life.closeOvr = false → s.follower n = true → Lands (.closeEnd n) s s) ∧
      ((s.rail n).life.closeOvr = false → s.follower n = false →
        Ends (.closeEnd n) s fun u =>
          u.rst n = stRamp ∧ u.fld RL_STATUS.PREV n = stClose ∧ (u.rail n).life.entry = s.now ∧
            u.fld RL_MCTL.REQ n = (if s.active.loop[n].mode = 2 then 1 else 0) ∧
            ∀ m : Fin 12, m ≠ n → u.reg .RL_STATUS m = s.reg .RL_STATUS m))

/-- Rows START_TIMEOUT, STOP_TIMEOUT, DIE_TSD_TRIP, DIE_TSD_CLEAR and BUDGET_OVERRUN (R221, R223, R239, R242): TSTART without REGULATE is
a fault of cause 19, TSTOP in RAMPDOWN one of cause 20, and the die sensor sends every live rail that is not in FAULT to FAULT with cause
2. When it clears, TSDACT reads 0 and only a rail in FAULT may change its state. 2 ms of excess power set BUDOVR. (Where the rules leave a
reading open it is the model's: log entries 27, 47.) -/
def Obligations.TimeoutsFault : Prop :=
  ∀ (s : State) (n : Fin 12), s.power.mode = .running →
    (s.rst n = stPrematch ∨ s.rst n = stClose ∨ s.rst n = stRamp →
      let t := s.advance ((s.rail n).life.preTick + max 1 (s.fld RL_TMO.TSTART n) * 100 * ms)
      CanFault (t.unmove n) n → Ends (.startTimeout n) s fun u => u.now = t.now ∧ FaultEntered (t.unmove n) u n 19) ∧
    (s.rst n = stRampdown →
      let t := s.advance ((s.rail n).life.entry + max 1 (s.fld RL_TMO.TSTOP n) * 10 * ms)
      CanFault (t.unmove n) n → Ends (.stopTimeout n) s fun u => u.now = t.now ∧ FaultEntered (t.unmove n) u n 20) ∧
    (Ends .dieTsdTrip s fun u =>
      u.flag PR_STATUS.TSDF 0 = true ∧ u.flag PR_STATUS.TSDACT 0 = true ∧ u.now = s.now ∧
        ∀ m : Fin 12, s.rst m ≠ stFault → CanFault (s.unmove m) m →
          u.rst m = stFault ∧ u.fld RL_STATUS.CAUSE m = 2 ∧ u.flag RL_STATUS.FLTF m = true ∧ u.flag RL_STATUS.CONT m = false) ∧
    (Ends .dieTsdClear s fun u =>
      u.flag PR_STATUS.TSDACT 0 = false ∧ u.flag PR_STATUS.TSDF 0 = s.flag PR_STATUS.TSDF 0 ∧
        ∀ m : Fin 12, s.rst m ≠ stFault → u.rst m = s.rst m) ∧
    ∀ t, s.tele.overAt = some t → Lands .budgetOverrun s ((s.advance (t + 2 * ms)).raise PR_STATUS.BUDOVR 0)

/-- Rows TURN_OFF_DELAY_EXPIRY, TOPEN_EXPIRY and TFAULT_EXPIRY (R222 to R225, R228): TOFFDLY after a stop request a rail enters RAMPDOWN;
TOPEN after its entry to OPEN it enters OFF; TFAULT after its entry to FAULT a rail whose causes are all gone enters OFF, with EN cleared
unless AUTO is 1, and with LOCKOUT set where more than NRST of the entries to FAULT that count lie within the last 60.000 s, and one that
is permanent or has a cause that is not gone stays. (Where the rules leave a reading open it is the model's: log entry 27.) -/
def Obligations.StopAndRestart : Prop :=
  ∀ (s : State) (n : Fin 12), s.power.mode = .running →
    (∀ t, (s.rail n).life.stopReq = some t → s.follower n = false →
      s.rst n = stClose ∨ s.rst n = stRamp ∨ s.rst n = stRegulate →
      Ends (.turnOffDelayExpiry n) s fun u =>
        u.rst n = stRampdown ∧ u.flag RL_STATUS.SLOT n = false ∧
          u.fld RL_STATUS.PREV n = ((s.advance (t + s.fld RL_TDLY.TOFFDLY n * ms)).unmove n).rst n ∧
          u.now = max s.now (t + s.fld RL_TDLY.TOFFDLY n * ms) ∧ (u.rail n).life.entry = u.now ∧
          (u.rail n).life.stopReq = none ∧ ∀ m : Fin 12, m ≠ n → u.reg .RL_STATUS m = s.reg .RL_STATUS m) ∧
    (s.rst n = stOpen → s.follower n = false →
      Ends (.topenExpiry n) s fun u =>
        u.now = max s.now ((s.rail n).life.entry + max 1 (s.fld RL_TCON.TOPEN n) * ms) ∧ OffEntered s u n) ∧
    (s.rst n = stFault →
      let t := s.advance ((s.rail n).life.entry + max 1 (s.fld RL_TCON.TFAULT n) * 10 * ms)
      let entries := ((s.rail n).life.counted.filter fun e => decide (t.now ≤ e + 2929688 * 4096)).length
      ((s.rail n).life.permanent = false → (∀ c ∈ (s.rail n).life.causes, s.causeGone n c = true) →
        Ends (.tfaultExpiry n) s fun u =>
          u.now = t.now ∧ OffEntered s u n ∧ (s.flag RL_CTRL.AUTO n = false → u.flag RL_CTRL.EN n = false) ∧
            (s.flag RL_CTRL.AUTO n = true → u.flag RL_CTRL.EN n = s.flag RL_CTRL.EN n) ∧
            (s.fld RL_TMO.NRST n < entries → u.flag RL_STATUS.LOCKOUT n = true) ∧
            (entries ≤ s.fld RL_TMO.NRST n → u.flag RL_STATUS.LOCKOUT n = s.flag RL_STATUS.LOCKOUT n)) ∧
      ((s.rail n).life.permanent = true ∨ (∃ c ∈ (s.rail n).life.causes, s.causeGone n c = false) →
        Lands (.tfaultExpiry n) s t))

/-- Rows RAIL_ENABLE_WRITE, HOSTKILL and CLEAR_LOCKOUT (R213, R214, R222, R227, R228). A word without a command that clears EN makes a
stop request: in PREMATCH the rail goes to OFF, or to OPEN once CONT is driven, in the place of a transition of the same tick; in CLOSE,
RAMP and REGULATE the turn-off delay starts. A word that sets EN withdraws the request. Command 1 sends a live rail to FAULT with cause 1,
and command 2 clears LOCKOUT. (Where the rules leave a reading open it is the model's: log entries 27, 43.) -/
def Obligations.RailControlWrites : Prop :=
  ∀ (s : State) (n : Fin 12) (w : Word), let v := s.unmove n
    (Taken s .RL_CTRL n w → RL_CTRL.CMD.of w = 0 →
      (HostEnds (.railEnableWrite n w) s fun u => u.reg .RL_CTRL n = s.written .RL_CTRL n w) ∧
      (RL_CTRL.EN.of w = 0 → s.follower n = false →
        (s.rst n = stClose ∨ s.rst n = stRamp ∨ s.rst n = stRegulate → v.rst n ≠ stPrematch → (s.rail n).life.stopReq = none →
          HostEnds (.railEnableWrite n w) s fun u => (u.rail n).life.stopReq = some s.now ∧ u.rst n = s.rst n) ∧
        (v.rst n = stPrematch → v.contOut n = false → HostEnds (.railEnableWrite n w) s fun u => OffEntered v u n) ∧
        (v.rst n = stPrematch → v.contOut n = true →
          HostEnds (.railEnableWrite n w) s fun u =>
            u.rst n = stOpen ∧ u.fld RL_STATUS.PREV n = stPrematch ∧ u.flag RL_STATUS.CONT n = false)) ∧
      (RL_CTRL.EN.of w = 1 → s.flag RL_CTRL.EN n = false → s.linkPermits n = true → (s.rail n).life.budgetOff = false →
        HostEnds (.railEnableWrite n w) s fun u => (u.rail n).life.stopReq = none ∧ u.rst n = s.rst n)) ∧
    (Taken s .RL_CTRL n (withCmd w 1) → s.rst n ≠ stFault → CanFault v n →
      HostEnds (.hostkill n w) s fun u => u.now = s.now ∧ FaultEntered v u n 1) ∧
    (Taken s .RL_CTRL n (withCmd w 2) →
      HostEnds (.clearLockout n w) s fun u =>
        u.flag RL_STATUS.LOCKOUT n = false ∧ (RL_CTRL.EN.of w = 1 → u.rst n = s.rst n))

/-- Rows FWOPEN, FWWRITE, FWCLOSE, FWACT and FWCANCEL (R405, R406, R408): the inactive slot is opened and its erase starts, FU_BUF is
programmed at FU_OFS, the slot becomes STAGED, an activation that passes the request checks becomes pending, and one at least 256 ticks
ahead is withdrawn, also while a command is in progress. A chunk programmed already is ignored; any other command whose condition is not
met is refused with its code and changes no flash. (Where the rules leave a reading open it is the model's: log entries 17, 19.) -/
def Obligations.FirmwareSlotCommands : Prop :=
  ∀ (s : State) (w : Word), let b := s.inactive; let arg := FU_CMD.ARG.of w; let ofs := s.fld FU_OFS.OFS 0
    let opened := s.keepBoot (s.modFw b fun f => { f with st := .opened })
    (FuTaken s 1 w →
      (s.flash.trial = none → s.flash.pendAct = none →
        HostEnds (.fwopen w) s fun u =>
          FuStarted opened u 1 (.erase ((List.range 256).map fun k => fwSector b + k) true) ∧ (u.fw b).st = .opened ∧
            u.fw (!b) = s.fw (!b) ∧ u.fld FU_OFS.OFS 0 = 0 ∧ u.flag FU_STATUS.OPEN 0 = true) ∧
      (s.flash.trial ≠ none ∨ s.flash.pendAct ≠ none → HostEnds (.fwopen w) s fun u => FuRefused s u 1 0x91)) ∧
    (FuTaken s 2 w →
      ((s.fw b).st = .opened → arg * 128 = ofs → ofs < 1048576 →
        HostEnds (.fwwrite w) s fun u => FuStarted s u 2 (.program b ofs (s.fuBuf 0 128)) ∧ u.fld FU_OFS.OFS 0 = ofs + 128) ∧
      ((s.fw b).st = .opened → arg * 128 < ofs →
        HostEnds (.fwwrite w) s fun u => u.flash = s.flash ∧ u.fld FU_OFS.OFS 0 = ofs ∧ u.fld FU_STATUS.LASTCMD 0 = 2 ∧
          u.fld FU_STATUS.CODE 0 = s.fld FU_STATUS.CODE 0 ∧ u.flag FU_STATUS.BUSY 0 = false) ∧
      ((s.fw b).st = .opened → ofs < arg * 128 → HostEnds (.fwwrite w) s fun u => FuRefused s u 2 0x92) ∧
      ((s.fw b).st = .opened → arg * 128 = ofs → 1048576 ≤ ofs → HostEnds (.fwwrite w) s fun u => FuRefused s u 2 0x91) ∧
      ((s.fw b).st ≠ .opened → HostEnds (.fwwrite w) s fun u => FuRefused s u 2 0x91)) ∧
    (FuTaken s 3 w →
      ((s.fw b).st = .opened → 64 ≤ ofs →
        HostEnds (.fwclose w) s fun u => FuDone s u 3 ∧ (u.fw b).st = .staged ∧ u.fw (!b) = s.fw (!b)) ∧
      ((s.fw b).st ≠ .opened ∨ ofs < 64 → HostEnds (.fwclose w) s fun u => FuRefused s u 3 0x91)) ∧
    (FuTaken s 4 w →
      (s.actRequest s.fuEpoch = 0 →
        HostEnds (.fwact w) s fun u => FuDone s u 4 ∧ u.flash.pendAct = some (s.fuEpoch, bitAt arg 0, none) ∧
          u.flag FU_STATUS.ACTPEND 0 = true) ∧
      (s.actRequest s.fuEpoch ≠ 0 → HostEnds (.fwact w) s fun u => FuRefused s u 4 (s.actRequest s.fuEpoch))) ∧
    (FuTaken s 5 w →
      (∀ p, s.flash.pendAct = some p → 256 ≤ s.ticksTo p.1 →
        HostEnds (.fwcancel w) s fun u => FuDone s u 5 ∧ u.flash.pendAct = none ∧ u.flag FU_STATUS.ACTPEND 0 = false) ∧
      (∀ p, s.flash.pendAct = some p → s.ticksTo p.1 < 256 → HostEnds (.fwcancel w) s fun u => FuRefused s u 5 0x91) ∧
      (s.flash.pendAct = none → HostEnds (.fwcancel w) s fun u => FuRefused s u 5 0x91))

/-- Rows COMMIT, ROLLBACK, FIRMWARE_ACTIVATION and TRIAL_AUTOCOMMIT (R408, R409): a commit makes the trial slot ACTIVE and the other
STANDBY, raises the firmware floor and queues the revocation that the image asks for; a rollback, also while a command is in progress,
ends the trial with code 0x8B and restarts the ACTIVE slot; outside a trial both are refused. At the boundary a STAGED slot that passes
its check becomes TRIAL and one that fails INVALID, and in both cases the supervisor core is reset; the 600 s count from the start of the
trial's firmware. (Where the rules leave a reading open it is the model's: log entries 5, 8, 19.) -/
def Obligations.FirmwareTrial : Prop :=
  ∀ (s : State) (w : Word), let b := s.inactive
    (∀ x, s.flash.trial = some x →
      (FuTaken s 6 w →
        HostEnds (.commit w) s fun u => FuDone s u 6 ∧ (u.fw b).st = .active ∧ (u.fw (!b)).st = .standby ∧ u.flash.trial = none ∧
          u.flash.boot.fwFloor = max s.flash.boot.fwFloor (s.fw b).floor ∧ u.flag SV_EVENT.COMMITTED 0 = true ∧
          ((s.fw b).revoke = true →
            FlashOp.provision (.firmwareKeys (s.flash.fkey0 && (s.fw b).keyIdx != 1) (s.flash.fkey1 && (s.fw b).keyIdx != 0)) false
              ∈ u.flash.ops)) ∧
      (FuTaken s 7 w →
        HostEnds (.rollback w) s fun u => u.fld FU_STATUS.LASTCMD 0 = 7 ∧ u.fld FU_STATUS.CODE 0 = 0x8B ∧
          u.flag FU_STATUS.BUSY 0 = s.flag FU_STATUS.BUSY 0 ∧ (u.fw b).st = .staged ∧ u.flash.trial = none ∧ u.flash.runSlot = !b ∧
          u.flag SV_EVENT.ROLLEDBACK 0 = true ∧ u.fld SV_STATUS.STATE 0 = 2) ∧
      (∀ t, s.power.mode = .running → x.auto = true → x.began = some t →
        Ends .trialAutocommit s fun u => u.now = max s.now (t + 600 * 1000 * ms) ∧ (u.fw b).st = .active ∧
          (u.fw (!b)).st = .standby ∧ u.flash.trial = none ∧ u.flag SV_EVENT.COMMITTED 0 = true) ∧
      (s.power.mode = .running → x.auto = false ∨ x.began = none → Lands .trialAutocommit s s)) ∧
    (s.flash.trial = none →
      (FuTaken s 6 w → HostEnds (.commit w) s fun u => FuRefused s u 6 0x91) ∧
      (FuTaken s 7 w → HostEnds (.rollback w) s fun u => FuRefused s u 7 0x91)) ∧
    (∀ epoch auto, s.power.mode = .running → s.flash.pendAct = some (epoch, auto, none) → (s.fw b).st = .staged →
      Ends .firmwareActivation s fun u =>
        u.now = max s.now (s.now + (s.ticksTo epoch).toNat) ∧ u.flash.pendAct = none ∧ u.fld SV_STATUS.STATE 0 = 2 ∧
          (s.fwCheck b = 0 → (u.fw b).st = .trial ∧ u.flash.trial = some { began := none, auto := auto } ∧
            u.flash.runSlot = b ∧ u.flag SV_EVENT.TRIAL 0 = true) ∧
          (s.fwCheck b ≠ 0 → (u.fw b).st = .invalid ∧ u.flash.trial = s.flash.trial ∧ u.flag SV_EVENT.REFUSED 0 = true ∧
            u.fld FU_STATUS.CODE 0 = s.fwCheck b % 256))

/-- Rows RIGSAVE, KEYLOAD, KEYREVOKE, LOCK, SETSAVE, MODELSAVE and SETDEF (R400 to R403, R405, R407): a READY image goes to the slot that
is not preferred, unless the preferred one holds it; a key goes into an empty slot if it is a point on the curve; a slot is revoked by a
token of R402 that the signer's key verifies, which uses the challenge up; locks only set, and a floor only rises; a setting, the word
that stands at its address, a model or the defaults become a journal record. A command whose condition is not met is refused with its
code. (Where the rules leave a reading open it is the model's: log entries 8, 17, 18.) -/
def Obligations.KeysAndSettings : Prop :=
  ∀ (s : State) (w : Word), let arg := FU_CMD.ARG.of w; let a := arg % 65536; let n := arg % 16; let debug := bitAt arg 4
    let pref := s.flash.boot.prefRig
    let saved := fun (u : State) (c : Nat) (r : SetRec) => FuStarted s u c (.record (.setting (s.flash.settings.seq + 1) r) true)
    let num := fun (k len : Nat) => beNat ((s.fuBuf k len).map BitVec.toNat)
    let key := s.keySlot (num 4 1 == 1) (num 5 1); let signer := s.keySlot (num 4 1 == 1) (num 6 1)
    let token := num 0 4 = 0x534B5256 ∧ num 4 1 ≤ 1 ∧ num 5 1 ≤ 3 ∧ num 6 1 ≤ 3 ∧ s.fault.chal = true ∧
      num 8 8 = s.fld DBG_CHAL_HI.CHAL 0 * 2 ^ 32 + s.fld DBG_CHAL_LO.CHAL 0 ∧ signer.st = .loaded
    let floored := if bitAt arg 2 then
        s.keepBoot (s.modFlash fun f => { f with boot := { f.boot with rigFloor := max f.boot.rigFloor (s.fld RG_ASEQ.VALUE 0) } })
      else s
    (FuTaken s 8 w →
      (s.fld RG_STATUS.STATE 0 = 3 → s.shadow.loaded = true → s.flash.boot.rigFloor ≤ s.shadow.imgSeq →
        (s.rigHolds pref s.shadow.imageId s.shadow.imgSeq s.shadow.signed = true →
          HostEnds (.rigsave w) s fun u => FuDone s u 8 ∧ u.flash = s.flash) ∧
        (s.rigHolds pref s.shadow.imageId s.shadow.imgSeq s.shadow.signed = false →
          HostEnds (.rigsave w) s fun u => FuStarted s u 8 (.rigsave (!pref) 0 s.stagedImage s.stagedId s.stagedSigned))) ∧
      (s.fld RG_STATUS.STATE 0 ≠ 3 ∨ s.shadow.loaded = false ∨ s.shadow.imgSeq < s.flash.boot.rigFloor →
        HostEnds (.rigsave w) s fun u => FuRefused s u 8 0x96)) ∧
    (FuTaken s 9 w →
      HostEnds (.keyload w) s fun u =>
        if Config.onCurve (s.fuBuf 0 64) = false then FuRefused s u 9 0x93
        else if (s.keySlot debug (arg % 4)).st = .empty then
          FuStarted s u 9 (.provision (.key debug (arg % 4) { st := .loaded, key := s.fuBuf 0 64 }) true)
        else FuRefused s u 9 0x94) ∧
    (FuTaken s 10 w →
      (token → HostEnds (.keyrevoke w) s fun u =>
        if Config.verifies signer.key (s.fuBuf 0 16) (s.fuBuf 16 64) = true then
          FuStarted s u 10 (.provision (.key (num 4 1 == 1) (num 5 1) { key with st := .revoked }) true) ∧ u.fault.chal = false
        else FuRefused s u 10 0x95) ∧
      (¬ token → HostEnds (.keyrevoke w) s fun u => FuRefused s u 10 0x95)) ∧
    (FuTaken s 11 w →
      HostEnds (.lock w) s fun u => FuStarted floored u 11 (.provision (.locks (bitAt arg 0) (bitAt arg 1)) true) ∧
        u.flash.boot.rigFloor = (if bitAt arg 2 then max s.flash.boot.rigFloor (s.fld RG_ASEQ.VALUE 0) else s.flash.boot.rigFloor)) ∧
    (FuTaken s 12 w →
      (savable a = true →
        HostEnds (.setsave w) s fun u =>
          if s.journalFull = true then FuRefused s u 12 0x98
          else if bitAt arg 16 = true then saved u 12 { kind := 2, fmt := s.setFmt, key := a, v0 := 0 }
          else saved u 12 { kind := 1, fmt := s.setFmt, key := a, v0 := (s.wordAt a).toNat }) ∧
      (savable a = false → HostEnds (.setsave w) s fun u => FuRefused s u 12 0x97)) ∧
    (FuTaken s 13 w →
      (n < 12 → s.absentRail n = false →
        HostEnds (.modelsave w) s fun u =>
          if s.journalFull = true then FuRefused s u 13 0x98
          else saved u 13 { kind := 3, fmt := s.setFmt, key := n, v0 := (s.reg .MS_CFG n).toNat, v1 := (s.reg .MS_LIM n).toNat }) ∧
      (12 ≤ n ∨ s.absentRail n = true → HostEnds (.modelsave w) s fun u => FuRefused s u 13 0x91)) ∧
    (FuTaken s 14 w → HostEnds (.setdef w) s fun u => saved u 14 { kind := 4, fmt := s.setFmt, key := 0, v0 := 0 })

/-- R405: while a command is in progress every other but FWCANCEL and ROLLBACK is refused with BUSY (0x90) and changes no flash. (Where
the rules leave a reading open it is the model's: log entry 19.) -/
def Obligations.BusySupervisorRefuses : Prop :=
  ∀ (s : State) (w : Word) (c : Nat) (i : Instr),
    (c, i) ∈ [(1, Instr.fwopen w), (2, .fwwrite w), (3, .fwclose w), (4, .fwact w), (6, .commit w), (8, .rigsave w), (9, .keyload w),
      (10, .keyrevoke w), (11, .lock w), (12, .setsave w), (13, .modelsave w), (14, .setdef w)] →
    Taken s .FU_CMD 0 (withCmd w c) → s.svRuns = true → s.flag FU_STATUS.BUSY 0 = true →
      HostEnds i s fun u => FuRefused s u c 0x90 ∧ u.rails = s.rails ∧ u.phases = s.phases

/-- Rows FLASH_OPERATION_DONE, LOGBOOK_WRITE, LOGBOOK_ERASE and WEAR_RECORD_SAVE (R264, R266, R384, R386, R387, R389, R397, R401 to R403,
R407): the operation at the head of the queue takes effect: a sector reads as erased, at most 128 bytes have bits cleared, or a record is
written at the head of its ring, where a sector that is not blank is erased first; the erase journal takes a begin and a done marker with
each erase, and has its next sector erased when one is full. What remains of a command goes to the end of the queue, and with the last of
it the command ends. A queued logbook record takes the next SEQ; an erase of the logbook keeps one CLEARED record; a wear count changed at
the boundary is queued as a device record and remembered. (Where the rules leave a reading open it is the model's: log entries 7, 17, 40.)
-/
def Obligations.FlashAndLogbook : Prop :=
  ∀ (s : State),
    let ended := fun (u : State) => u.flag FU_STATUS.BUSY 0 = false ∧ u.flag SV_EVENT.DONE 0 = true
    let marked := fun (u : State) (x : Nat) (ops : List FlashOp) =>
      u.flash.erases.seq = s.flash.erases.seq + 1 ∧ u.flash.half = s.flash.half.filter (fun y => !(y == x)) ∧
        ((s.flash.erases.head + 2) % 256 ≠ 254 → u.flash.ops = ops) ∧
        ((s.flash.erases.head + 2) % 256 = 254 →
          u.flash.ops = FlashOp.erase [832 + ((s.flash.erases.head + 2) % 2048 / 256 + 1) % 8] false :: ops)
    let blank := fun (f g : List (Nat × Byte)) (k : Nat) =>
      ∀ a, memGet erased g a = if k * 4096 ≤ a ∧ a < (k + 1) * 4096 then erased else memGet erased f a
    let emptied := fun (u : State) (g : Region) (x : Nat) =>
      (u.flash.ring g).recs = if g.first ≤ x ∧ x < g.first + g.sectors then (s.flash.ring g).recs.filter (fun e => !(g.sectorOf e.1 == x))
        else (s.flash.ring g).recs
    let put := fun (u : State) (g : Region) (b : List Byte) =>
      (u.flash.ring g).recs = ringPut (s.flash.ring g).recs (s.flash.ring g).head b ∧
        (u.flash.ring g).head = ((s.flash.ring g).head + 1) % g.places
    (s.power.mode = .running →
      (∀ x l cmd r, s.flash.ops = .erase (x :: l) cmd :: r →
        Ends .flashOperationDone s fun u =>
          marked u x (r ++ if l = [] then [] else [.erase l cmd]) ∧
            (x < 512 → let b := decide (256 ≤ x)
              u.fw (!b) = s.fw (!b) ∧ (u.fw b).factory = false ∧ blank (s.fw b).bytes (u.fw b).bytes (x % 256)) ∧
            (512 ≤ x → x < 640 → let b := decide (576 ≤ x)
              u.rigSlot (!b) = s.rigSlot (!b) ∧ blank (s.rigSlot b).bytes (u.rigSlot b).bytes (x % 64)) ∧
            (512 ≤ x → u.flash.fwA = s.flash.fwA ∧ u.flash.fwB = s.flash.fwB) ∧
            (∀ g : Region, g ≠ .erases → emptied u g x) ∧
            (l = [] → cmd = true → ended u) ∧ (l ≠ [] ∨ cmd = false → u.regs = s.regs)) ∧
      (∀ b ofs d r, s.flash.ops = .program b ofs d :: r →
        Ends .flashOperationDone s fun u => u.flash.ops = r ∧ ended u ∧ u.fw (!b) = s.fw (!b) ∧
          (∀ i (h : i < d.length), memGet erased (u.fw b).bytes (ofs + i) = d[i] &&& memGet erased (s.fw b).bytes (ofs + i)) ∧
          ∀ x, x < ofs ∨ ofs + d.length ≤ x → memGet erased (u.fw b).bytes x = memGet erased (s.fw b).bytes x) ∧
      (∀ b k d id sg r, s.flash.ops = .rigsave b k d id sg :: r →
        (k < 64 → Ends .flashOperationDone s fun u =>
          u.rigSlot (!b) = s.rigSlot (!b) ∧ blank (s.rigSlot b).bytes (u.rigSlot b).bytes k ∧
            marked u (rigSector b + k) (r ++ [.rigsave b (k + 1) d id sg]) ∧ u.regs = s.regs) ∧
        (64 ≤ k → Ends .flashOperationDone s fun u =>
          u.rigSlot (!b) = s.rigSlot (!b) ∧
            (∀ x, x < (k - 64) * 128 ∨ (k - 63) * 128 ≤ x →
              memGet erased (u.rigSlot b).bytes x = memGet erased (s.rigSlot b).bytes x) ∧
            ((k - 63) * 128 < d.length → u.flash.ops = r ++ [.rigsave b (k + 1) d id sg] ∧ u.regs = s.regs) ∧
            (d.length ≤ (k - 63) * 128 → ended u ∧ (u.rigSlot b).refused = false ∧
              (if b then u.flash.boot.vrigB = id ∧ u.flash.boot.signedB = sg else u.flash.boot.vrigA = id ∧ u.flash.boot.signedA = sg) ∧
              u.flash.ops = r ++ [.record (.boot (s.flash.boots.seq + 1) u.flash.boot s.flash.fwA.st s.flash.fwB.st) false]))) ∧
      (∀ e cmd r, s.flash.ops = .record e cmd :: r → let g := e.region
        (s.headUsed g = true → Ends .flashOperationDone s fun u =>
          marked u (g.sectorOf (s.flash.ring g).head) (.record e cmd :: r) ∧ emptied u g (g.sectorOf (s.flash.ring g).head) ∧
            u.regs = s.regs) ∧
        (s.headUsed g = false → Ends .flashOperationDone s fun u =>
          put u g e.bytes ∧ (cmd = true → ended u) ∧ (cmd = false → g ≠ .logbook → u.regs = s.regs) ∧
            (g = .logbook → u.fld LB_STATUS.COUNT 0 = (u.flash.valid .logbook).length % 2 ^ LB_STATUS.COUNT.width))) ∧
      (∀ p cmd r, s.flash.ops = .provision p cmd :: r →
        Ends .flashOperationDone s fun u => u.flash.ops = r ∧ (cmd = true → ended u) ∧ (cmd = false → u.regs = s.regs) ∧
          (∀ d (i : Fin 4) k, p = .key d i k → u.keySlot d i = k ∧ ∀ e (j : Fin 4), (e, j) ≠ (d, i) → u.keySlot e j = s.keySlot e j) ∧
          (∀ x y, p = .locks x y → u.flash.lockSig = (s.flash.lockSig || x) ∧ u.flash.lockPec = (s.flash.lockPec || y)) ∧
          (∀ x y, p = .firmwareKeys x y → u.flash.fkey0 = x ∧ u.flash.fkey1 = y)) ∧
      (∀ seq e x r, s.flash.ops = .clearLog seq e 0 x :: r → let y := (s.flash.logbook.head + 63) / 64 % 64
        Ends .flashOperationDone s fun u => emptied u .logbook (768 + y) ∧ u.flash.logbook.head = y * 64 ∧
          marked u (768 + y) (.clearLog seq e 1 y :: r)) ∧
      (∀ seq e x r, s.flash.ops = .clearLog seq e 1 x :: r →
        Ends .flashOperationDone s fun u => put u .logbook (FlashRec.log seq e).bytes ∧ u.flash.ops = r ++ [.clearLog seq e 2 x]) ∧
      (∀ seq e k x r, s.flash.ops = .clearLog seq e (k + 2) x :: r → let y := 768 + (x + k + 1) % 64
        let rest := r ++ if 62 ≤ k then [] else [.clearLog seq e (k + 3) x]
        let newer := (s.flash.valid .logbook).any fun d => Region.logbook.sectorOf d.1 == y && decide (seq < Region.logbook.seqOf d.2)
        (newer = true → Ends .flashOperationDone s fun u => u.flash.logbook = s.flash.logbook ∧ u.flash.ops = rest) ∧
        (newer = false → Ends .flashOperationDone s fun u => emptied u .logbook y ∧ marked u y rest)) ∧
      (∀ x q, s.log.queue = x :: q → s.svRuns = true →
        Ends .logbookWrite s fun u =>
          u.log = { s.log with queue := q, nextSeq := s.log.nextSeq + 1 } ∧
            u.flash = { s.flash with ops := s.flash.ops ++ [.record (.log s.log.nextSeq x) false] } ∧
            u = { s with regs := u.regs, hot := u.hot, log := u.log, flash := u.flash } ∧
            OnlyRegs s u [⟨.LB_STATUS, 0⟩, ⟨.LB_NEWEST, 0⟩]) ∧
      (s.svRuns = true → Ends .wearRecordSave s fun u =>
        u = { s with now := s.nextGrid s.now (4194304 * 4096) 0, flash := u.flash } ∧
          (∀ p : Fin 48, keptNat u.flash.wearSaved p = (s.phase p).wear / 2 ^ 12 % 2 ^ 32) ∧
          ∀ p : Fin 48, keptNat s.flash.wearSaved p ≠ (s.phase p).wear / 2 ^ 12 % 2 ^ 32 →
            ∃ q, FlashOp.record (.setting q { kind := 0x82, fmt := 0, key := p, v0 := (s.phase p).wear / 2 ^ 12 % 2 ^ 32 }) false
              ∈ u.flash.ops)) ∧
    ∀ w, Taken s .LB_CTRL 0 (withCmd w 1) →
      HostEnds (.logbookErase w) s fun u =>
        (∃ x, u.flash = { s.flash with ops := s.flash.ops ++ [.clearLog s.log.nextSeq x 0 0] } ∧ x.src = 0x17 ∧ x.elem = 0xFF ∧
          x.cls = 0 ∧ x.d1 = 0x100) ∧ u.log = { s.log with nextSeq := s.log.nextSeq + 1 }

/-- Rows CLEAR_PHASE, CLEAR_STRAND, CLEAR_RAIL and CLEAR_ALL (R256, R257). An eligible element is cleared: a phase that is retired and
spliced to no live rail loses its fault history, a retired strand goes on probation, a RETIRED rail with a phase that is not retired
enters OFF; the clear writes a CLEARED record where the logbook takes one, and the retirements of phases and strands that remain are
queued as a device record. Commands 1 to 3 for any other element set CLRERR and change nothing else; command 4 clears every eligible
element, and changes nothing where there is none. (Where the rules leave a reading open it is the model's: log entry 40.) -/
def Obligations.RetirementClears : Prop :=
  ∀ (s : State) (w : Word), let e := FM_CMD.ELEM.of w
    let retp := fun (u : State) => u.fld FM_RETP_LO.RET 0 + u.fld FM_RETP_HI.RET 0 * 2 ^ 32
    let saved := fun (u : State) => FlashOp.record (.setting (s.flash.settings.seq + 1)
      { kind := 0x81, fmt := 0, key := 0, v0 := (u.reg .FM_RETP_LO 0).toNat, v1 := (u.reg .FM_RETP_HI 0).toNat
        v2 := (u.reg .FM_RETS 0).toNat }) false
    let logged := fun (u : State) (cmd : Nat) =>
      s.log.queue.length < 31 → (∀ x ∈ s.log.accepted, x.1 = 0x17 → x.2.1 ≠ e) →
        ∃ x ∈ u.log.queue, x.src = 0x17 ∧ x.elem = e ∧ x.cls = 0 ∧ x.d1 = cmd
    let refused := fun (u : State) => u.flag FM_STATUS.CLRERR 0 = true ∧ OnlyWrite s u ∧ OnlyRegs s u [⟨.FM_STATUS, 0⟩]
    (Taken s .FM_CMD 0 (withCmd w 1) →
      (∀ p : Fin 48, e = p.val → s.phClearable p = true →
        HostEnds (.clearPhase w) s fun u =>
          u.fld PH_MSTAT.STATE p = phNone ∧ u.fld PH_MSTAT.FCAUSE p = 0 ∧ (u.phase p).events = [] ∧ bitAt (retp u) p = false ∧
            (∀ q : Fin 48, q ≠ p → u.reg .PH_MSTAT q = s.reg .PH_MSTAT q ∧ u.phase q = s.phase q ∧
              bitAt (retp u) q = bitAt (retp s) q) ∧
            u.rails = s.rails ∧ u.flash.ops = s.flash.ops ++ [saved u] ∧ logged u 1) ∧
      (∀ p : Fin 48, e = p.val → s.phClearable p = false → HostEnds (.clearPhase w) s refused) ∧
      (48 ≤ e → HostEnds (.clearPhase w) s refused)) ∧
    (Taken s .FM_CMD 0 (withCmd w 2) →
      (∀ k : Fin 32, e = k.val → s.flag ST_CFG.RETIRED k = true →
        HostEnds (.clearStrand w) s fun u =>
          u.flag ST_CFG.RETIRED k = false ∧ bitAt (u.fld FM_RETS.RET 0) k = false ∧ u.fld ST_CFG.STATE k = 0 ∧
            u.strand k = { s.strand k with probation := true, passRun := 0, failRun := 0 } ∧
            (∀ j : Fin 32, j ≠ k → u.reg .ST_CFG j = s.reg .ST_CFG j ∧ u.strand j = s.strand j ∧
              bitAt (u.fld FM_RETS.RET 0) j = bitAt (s.fld FM_RETS.RET 0) j) ∧
            u.rails = s.rails ∧ u.flash.ops = s.flash.ops ++ [saved u] ∧ logged u 2) ∧
      (∀ k : Fin 32, e = k.val → s.flag ST_CFG.RETIRED k = false → HostEnds (.clearStrand w) s refused) ∧
      (32 ≤ e → HostEnds (.clearStrand w) s refused)) ∧
    (Taken s .FM_CMD 0 (withCmd w 3) →
      (∀ n : Fin 12, e = n.val → s.railClearable n = true → HostEnds (.clearRail w) s fun u => OffEntered s u n ∧ logged u 3) ∧
      (∀ n : Fin 12, e = n.val → s.railClearable n = false → HostEnds (.clearRail w) s refused) ∧
      (12 ≤ e → HostEnds (.clearRail w) s refused)) ∧
    (Taken s .FM_CMD 0 (withCmd w 4) →
      (HostEnds (.clearAll w) s fun u =>
        (∀ p : Fin 48, s.phClearable p = true → u.fld PH_MSTAT.STATE p = phNone ∧ (u.phase p).events = []) ∧
          (∀ k : Fin 32, u.flag ST_CFG.RETIRED k = false) ∧ ∀ n : Fin 12, s.railClearable n = true → u.rst n = stOff) ∧
      ((∃ p : Fin 48, s.phClearable p = true) ∨ (∃ k : Fin 32, s.flag ST_CFG.RETIRED k = true) ∨
          (∃ n : Fin 12, s.railClearable n = true) →
        HostEnds (.clearAll w) s fun u => u.flash.ops = s.flash.ops ++ [saved u]) ∧
      ((∀ p : Fin 48, s.phClearable p = false) → (∀ k : Fin 32, s.flag ST_CFG.RETIRED k = false) →
        (∀ n : Fin 12, s.railClearable n = false) → HostEnds (.clearAll w) s fun u => OnlyWrite s u ∧ OnlyRegs s u []))

/-- Rows SUPERVISOR_WATCHDOG_EXPIRY and TCDRIFT_PERMANENT (R254, R261): an expiry resets the supervisor core alone: the rails, the phases,
the links and the timers go on untouched; a drift flag that has stayed set for 1 s is permanent. (Where the rules leave a reading open it
is the model's: log entries 9, 19.) -/
def Obligations.WatchdogAndDrift : Prop :=
  ∀ (s : State), s.power.mode = .running →
    (∀ pc, s.svRuns = true → s.flash.trial = none →
      Ends (.supervisorWatchdogExpiry pc) s fun u =>
        u.now = max s.now (s.fault.wdogAt + 100 * ms) ∧ u.flag FM_STATUS.SUPWDT 0 = true ∧ u.fld SV_STATUS.STATE 0 = 2 ∧
          (3 ≤ (s.fault.expiries.filter fun t => decide (u.now ≤ t + 600 * 1000 * ms)).length →
            u.flag FM_STATUS.SUPPERM 0 = true) ∧
          u.rails = s.rails ∧ u.phases = s.phases ∧ u.links = s.links ∧ u.timers = s.timers ∧ u.lan = s.lan) ∧
    (∀ t, s.tele.driftAt0 = some t → s.flag CV_STATUS.TC0DRIFT 0 = true → s.tele.driftPerm0 = false →
      Ends (.tcdriftPermanent 0) s fun u =>
        u.now = max s.now (t + 1000 * ms) ∧ u.flag FM_STATUS.PERM 0 = true ∧ u.tele = { s.tele with driftPerm0 := true } ∧
          u = { s with regs := u.regs, hot := u.hot, now := u.now, tele := u.tele, log := u.log } ∧ OnlyRegs s u logKeys) ∧
    (∀ t, s.tele.driftAt1 = some t → s.flag CV_STATUS.TC1DRIFT 0 = true → s.tele.driftPerm1 = false →
      Ends (.tcdriftPermanent 1) s fun u =>
        u.now = max s.now (t + 1000 * ms) ∧ u.flag FM_STATUS.PERM 0 = true ∧ u.tele = { s.tele with driftPerm1 := true } ∧
          u = { s with regs := u.regs, hot := u.hot, now := u.now, tele := u.tele, log := u.log } ∧ OnlyRegs s u logKeys)

/-- Rows TRACE_POST_DONE, TRACE_FREEZE, TRACE_RELEASE and TRACE_WINDOW_WRITE (R269, R270): a ring whose POST records are written freezes;
the host freezes the masked rails whose EN bit is 1, and releases and empties the masked rails that are frozen; while the device is locked
the first 20 words of the window are the token buffer. (Where the rules leave a reading open it is the model's: log entries 40, 53.) -/
def Obligations.TraceRings : Prop :=
  ∀ (s : State) (w : Word),
    (∀ (n : Fin 12) (src : Nat), s.power.mode = .running → s.trace[n].post = some (0, src) →
      Ends (.tracePostDone n) s fun u =>
        u.frozen n = true ∧ u.flag TR_STATUS.FRZF 0 = true ∧ u.trace[n].post = none ∧ u.trace[n].ring = s.trace[n].ring ∧
          ∀ m : Fin 12, m ≠ n → u.frozen m = s.frozen m) ∧
    (Taken s .TR_CMD 0 (withCmd w 1) →
      HostEnds (.traceFreeze w) s fun u => ∀ n : Fin 12,
        u.frozen n = (s.frozen n || (bitAt (TR_CMD.MASK.of w) n && s.traced n)) ∧
          u.trace[n].ring = s.trace[n].ring) ∧
    (Taken s .TR_CMD 0 (withCmd w 2) →
      HostEnds (.traceRelease w) s fun u => ∀ n : Fin 12,
        let freed := bitAt (TR_CMD.MASK.of w) n && !s.absentRail n && s.frozen n
        u.frozen n = (s.frozen n && !freed) ∧
          (freed = true → u.trace[n] = { s.trace[n] with ring := [], post := none, trig := none }) ∧
          (freed = false → u.trace[n] = s.trace[n])) ∧
    (∀ a, s.ready = true → s.power.mode = .running → s.fld DBG_STATUS.LEVEL 0 = 0 →
      let t := s.openWrite (0x8000 + a % 0x8000)
      (∀ h : a % 0x8000 / 4 < 20, HostLands (.traceWindowWrite a w) s
        (t.modFault fun f => { f with token := f.token.set (a % 0x8000 / 4) w h })) ∧
      (20 ≤ a % 0x8000 / 4 → HostLands (.traceWindowWrite a w) s t))

/-- Rows REPLAY_START, REPLAY_ABORT and REPLAY_DONE (R134, R271 to R273): a replay starts on a spare strand, whose self-test it abandons,
over a frozen rail with a valid checkpoint, and is refused with codes 1 to 4 otherwise; it ends as matched or differed, or stops, and its
strand is free. (Where the rules leave a reading open it is the model's: log entries 40, 53.) -/
def Obligations.Replay : Prop :=
  ∀ (s : State) (w : Word), let k := strandOf (RP_CTRL.STRAND.of w); let rail := RP_CTRL.RAIL.of w; let slot := RP_CTRL.CKPT.of w
    let refused := fun (code : Nat) (u : State) =>
      u.fld RP_STATUS.STATE 0 = 4 ∧ u.fld RP_STATUS.CODE 0 = code ∧ u.fault = s.fault ∧ ∀ j : Fin 32, u.reg .ST_CFG j = s.reg .ST_CFG j
    (Taken s .RP_CTRL 0 (withCmd w 1) →
      (s.spare k = false → HostEnds (.replayStart w) s (refused 1)) ∧
      (s.spare k = true → 12 ≤ rail ∨ s.absentRail rail = true ∨ s.frozen (railOf rail) = false →
        HostEnds (.replayStart w) s (refused 2)) ∧
      (s.spare k = true → rail < 12 → s.absentRail rail = false → s.frozen (railOf rail) = true →
        s.replayRecords (railOf rail) slot = none →
        HostEnds (.replayStart w) s (refused 3)) ∧
      (∀ rs, s.spare k = true → rail < 12 → s.absentRail rail = false → s.frozen (railOf rail) = true →
        s.replayRecords (railOf rail) slot = some rs →
        let changed := (rs.drop 1).any fun r => bitAt (r.getD 2 0) 30
        (RP_CTRL.CFGSRC.of w = 0 → changed = true → HostEnds (.replayStart w) s (refused 4)) ∧
        (RP_CTRL.CFGSRC.of w = 1 ∨ changed = false →
          HostEnds (.replayStart w) s fun u =>
            u.fld RP_STATUS.STATE 0 = 1 ∧ u.fld RP_STATUS.CODE 0 = 0 ∧ u.fld ST_CFG.STATE k = 3 ∧ u.flag ST_TEST.BUSY k = false ∧
              u.fault.replay = some { strand := k, rail := railOf rail, slot := slot, cfgsrc := RP_CTRL.CFGSRC.of w == 1
                                      count := RP_CTRL.COUNT.of w }))) ∧
    (∀ x, s.fault.replay = some x →
      (Taken s .RP_CTRL 0 (withCmd w 2) →
        HostEnds (.replayAbort w) s fun u =>
          u.fld RP_STATUS.STATE 0 = 5 ∧ u.flag RP_STATUS.DONEF 0 = true ∧ u.fault.replay = none ∧ u.fld ST_CFG.STATE x.strand = 0) ∧
      (s.power.mode = .running →
        Ends .replayDone s fun u =>
          (u.fld RP_STATUS.STATE 0 = 2 ∨ u.fld RP_STATUS.STATE 0 = 3) ∧ u.flag RP_STATUS.DONEF 0 = true ∧ u.fault.replay = none ∧
            u.fld ST_CFG.STATE x.strand = 0 ∧ u.rails = s.rails))

/-- Rows NEW_CHALLENGE, VERIFY_TOKEN, DEBUG_LOCK and DEBUG_BLOCK_END (R274). The challenge is a free value: nothing is known of it. A
token laid out as R274 says, for the challenge that stands, with a signature that a loaded debug key verifies, sets LEVEL and uses the
challenge up; any other counts, and the third failure blocks for 10 s; while blocked VERIFY_TOKEN does nothing. (Where the rules leave a
reading open it is the model's: log entries 7, 8, 40.) -/
def Obligations.DebugUnlock : Prop :=
  ∀ (s : State) (w : Word),
    let bytes := s.fault.token.toList.flatMap fun x => bytesBE x.toNat
    let num := fun (off n : Nat) => beNat ((bytes.drop off).take n)
    let key := s.keySlot true (num 4 1)
    let token := s.fault.chal = true ∧ num 0 4 = 0x534B4455 ∧ num 4 1 ≤ 3 ∧ (num 5 1 = 1 ∨ num 5 1 = 2) ∧ num 6 2 = 0 ∧
      num 8 8 = s.fld DBG_CHAL_HI.CHAL 0 * 2 ^ 32 + s.fld DBG_CHAL_LO.CHAL 0 ∧ key.st = .loaded
    let signed := Config.verifies key.key ((bytes.take 16).map (BitVec.ofNat 8)) (((bytes.drop 16).take 64).map (BitVec.ofNat 8))
    let fails := fun (u : State) =>
      u.fld DBG_STATUS.LEVEL 0 = s.fld DBG_STATUS.LEVEL 0 ∧ u.fld DBG_STATUS.FAILCNT 0 = satNat 3 (s.fld DBG_STATUS.FAILCNT 0 + 1) ∧
        u.fault.token = s.fault.token ∧ u.fault.chal = s.fault.chal ∧
        (2 ≤ s.fld DBG_STATUS.FAILCNT 0 → u.flag DBG_STATUS.BLOCK 0 = true ∧ u.fault.blockEnd = s.now + 10 * 1000 * ms)
    (Taken s .DBG_CMD 0 (withCmd w 1) → s.flag DBG_STATUS.BLOCK 0 = false →
      HostEnds (.newChallenge w) s fun u =>
        u.fld DBG_CHAL_HI.CHAL 0 = (Config.freeValue 32 s.frees).toNat ∧
          u.fld DBG_CHAL_LO.CHAL 0 = (Config.freeValue 32 (s.frees + 1)).toNat ∧ u.fault = { s.fault with chal := true } ∧
          u.fld DBG_STATUS.LEVEL 0 = s.fld DBG_STATUS.LEVEL 0) ∧
    (Taken s .DBG_CMD 0 (withCmd w 2) → s.flag DBG_STATUS.BLOCK 0 = false →
      (token → HostEnds (.verifyToken w) s fun u =>
        if signed = true then
          u.fld DBG_STATUS.LEVEL 0 = num 5 1 ∧ u.fld DBG_STATUS.FAILCNT 0 = 0 ∧ u.fault = { s.fault with chal := false } ∧
            u.flag DBG_STATUS.BLOCK 0 = false
        else fails u) ∧
      (¬ token → HostEnds (.verifyToken w) s fails)) ∧
    (Taken s .DBG_CMD 0 (withCmd w 2) → s.flag DBG_STATUS.BLOCK 0 = true →
      HostEnds (.verifyToken w) s fun u => u.reg .DBG_STATUS 0 = s.reg .DBG_STATUS 0 ∧ u.fault = s.fault) ∧
    (Taken s .DBG_CMD 0 (withCmd w 3) →
      HostEnds (.debugLock w) s fun u => u.fld DBG_STATUS.LEVEL 0 = 0 ∧ u.fld DBG_STATUS.FAILCNT 0 = s.fld DBG_STATUS.FAILCNT 0) ∧
    (s.power.mode = .running → s.flag DBG_STATUS.BLOCK 0 = true →
      Lands .debugBlockEnd s ((s.advance s.fault.blockEnd).setFld DBG_STATUS.BLOCK 0 0))

/-- Rows RG_OPEN, RG_CHECK, RG_SWAP, SWAP_AT_EPOCH, RG_CANCEL and RG_DISCARD (R56, R57, R59, R65, Table 2-20). The active set is never
touched; while a swap is pending OPEN, CHECK, SWAP and DISCARD are refused with code 0x2C; a swap too near or in a wrong state, and one
that breaks a rule, is refused with the rule's code. (Where the rules leave a reading open it is the model's: log entry 24.) -/
def Obligations.RiggingCommands : Prop :=
  ∀ (s : State) (w : Word), let st := s.fld RG_STATUS.STATE 0
    let refused := fun (code : Nat) (u : State) => u.flag RG_EVENT.REFUSED 0 = true ∧ u.fld RG_STATUS.CODE 0 = code ∧
      u.fld RG_STATUS.STATE 0 = st ∧ u.rig = s.rig ∧ u.active = s.active ∧ u.shadow = s.shadow
    let now := (s.T + 256 + 4095) / 4096
    let epoch := s.fld RG_SWAPE_HI.EPOCH_H 0 * 2 ^ 32 + s.fld RG_SWAPE_LO.EPOCH_L 0
    (Taken s .RG_CMD 0 (rgWord w 1) →
      (st ≠ rgPending → st ≠ rgChecking →
        HostEnds (.rgOpen w) s fun u => u.fld RG_STATUS.STATE 0 = rgStaging ∧ u.fld RG_STATUS.CODE 0 = 0 ∧ u.fld RG_SLEN.SLEN 0 = 0 ∧
          u.flash.staging = [] ∧ u.shadow = RigSet.empty ∧ u.fld RG_SID.ID 0 = 0 ∧ u.active = s.active) ∧
      (st = rgPending → HostEnds (.rgOpen w) s (refused 0x2C)) ∧
      (st = rgChecking → HostEnds (.rgOpen w) s fun u => OnlyWrite s u ∧ OnlyRegs s u [])) ∧
    (Taken s .RG_CMD 0 (rgWord w 2) →
      (st ≠ rgPending → HostEnds (.rgCheck w) s fun u =>
        u.fld RG_STATUS.STATE 0 = rgChecking ∧ u.flash = s.flash ∧ u.active = s.active ∧ u.shadow = s.shadow) ∧
      (st = rgPending → HostEnds (.rgCheck w) s (refused 0x2C))) ∧
    (Taken s .RG_CMD 0 (rgWord w 3) →
      (st = rgReady → s.swapBroken = none → s.T + 4351 < 2 ^ 60 →
        HostEnds (.rgSwap w) s fun u => u.fld RG_STATUS.STATE 0 = rgPending ∧ u.rig.swap = some { epoch := now } ∧
          u.active = s.active ∧ u.shadow = s.shadow) ∧
      (∀ e, st = rgReady → s.swapBroken = some e → e.1 < 256 → s.T + 4351 < 2 ^ 60 → HostEnds (.rgSwap w) s (refused e.1)) ∧
      (st ≠ rgReady → st ≠ rgPending → HostEnds (.rgSwap w) s (refused 0x20)) ∧
      (st = rgPending → HostEnds (.rgSwap w) s (refused 0x2C))) ∧
    (Taken s .RG_CMD 0 (rgWord w 4) →
      (st = rgReady → s.swapBroken = none → 256 ≤ s.ticksTo epoch →
        HostEnds (.swapAtEpoch w) s fun u => u.fld RG_STATUS.STATE 0 = rgPending ∧ u.rig.swap = some { epoch := epoch } ∧
          u.active = s.active ∧ u.shadow = s.shadow) ∧
      (st = rgReady → s.ticksTo epoch < 256 → HostEnds (.swapAtEpoch w) s (refused 0x21)) ∧
      (∀ e, st = rgReady → 256 ≤ s.ticksTo epoch → s.swapBroken = some e → e.1 < 256 → HostEnds (.swapAtEpoch w) s (refused e.1)) ∧
      (st ≠ rgReady → st ≠ rgPending → HostEnds (.swapAtEpoch w) s (refused 0x20)) ∧
      (st = rgPending → HostEnds (.swapAtEpoch w) s (refused 0x2C))) ∧
    (Taken s .RG_CMD 0 (rgWord w 5) → ∀ r, s.rig.swap = some r →
      (256 ≤ s.ticksTo r.epoch →
        HostEnds (.rgCancel w) s fun u => u.fld RG_STATUS.STATE 0 = rgReady ∧ u.rig = { s.rig with swap := none } ∧
          u.active = s.active ∧ u.shadow = s.shadow) ∧
      (s.ticksTo r.epoch < 256 → HostEnds (.rgCancel w) s (refused 0x2C))) ∧
    (Taken s .RG_CMD 0 (rgWord w 5) → s.rig.swap = none → HostEnds (.rgCancel w) s fun u => OnlyWrite s u ∧ OnlyRegs s u []) ∧
    (Taken s .RG_CMD 0 (rgWord w 6) →
      (st ≠ rgPending → st ≠ rgChecking →
        HostEnds (.rgDiscard w) s fun u => u.shadow = RigSet.empty ∧ u.fld RG_SID.ID 0 = 0 ∧ u.active = s.active ∧
          u.flash.staging = s.flash.staging ∧
          u.fld RG_STATUS.STATE 0 = (if s.fld RG_SLEN.SLEN 0 = 0 then rgEmpty else rgStaging)) ∧
      (st = rgPending → HostEnds (.rgDiscard w) s (refused 0x2C)) ∧
      (st = rgChecking → HostEnds (.rgDiscard w) s fun u => OnlyWrite s u ∧ OnlyRegs s u []))

/-- Row STAGING_WRITE (R55, R56): in STAGING and READY the word is stored at its place with its most significant byte first and every
other byte of the staging buffer stays; READY goes back to STAGING; in any other state the word is discarded with WERR. (Where the rules
leave a reading open it is the model's: log entry 23.) -/
def Obligations.StagingWindow : Prop :=
  ∀ (s : State) (a : Nat) (w : Word), s.ready = true → s.power.mode = .running →
    let st := s.fld RG_STATUS.STATE 0; let ofs := s.fld RG_PAGE.PAGE 0 * 16384 + a % 0x4000 / 4 * 4
    (st = rgStaging ∨ st = rgReady →
      HostEnds (.stagingWrite a w) s fun u =>
        (∀ i < 4, memGet 0 u.flash.staging (ofs + i) = BitVec.ofNat 8 (w.toNat / 2 ^ (8 * (3 - i)))) ∧
          (∀ x, x < ofs ∨ ofs + 4 ≤ x → memGet 0 u.flash.staging x = memGet 0 s.flash.staging x) ∧
          u.fld RG_STATUS.STATE 0 = rgStaging ∧ u.fld RG_SLEN.SLEN 0 = max (s.fld RG_SLEN.SLEN 0) (ofs + 4) ∧
          u.active = s.active ∧ (st = rgReady → u.shadow = RigSet.empty) ∧ (st = rgStaging → u.shadow = s.shadow)) ∧
    (st ≠ rgStaging → st ≠ rgReady → HostLands (.stagingWrite a w) s ((s.openWrite (0x4000 + a % 0x4000)).raise RG_EVENT.WERR 0))

/-- Rows CHECK_DONE and SWAP_BOUNDARY (R57, R60, R62, R66): a check that passes decodes the image into the shadow set, one that fails
empties it and shows its code; a check never touches the active set. At the boundary a set that breaks no rule becomes active and the old
one becomes the shadow; one that breaks a rule is refused, and both sets and every rail stay. (Where the rules leave a reading open it is
the model's: log entries 11, 23, 24, 25.) -/
def Obligations.CheckAndSwap : Prop :=
  ∀ s : State, s.power.mode = .running →
    (s.fld RG_STATUS.STATE 0 = rgChecking → s.svRuns = true →
      Ends .checkDone s fun u =>
        u.active = s.active ∧ u.rails = s.rails ∧
        (match s.checkImage (memBytes 0 s.flash.staging 0 (s.fld RG_SLEN.SLEN 0)) (s.fld RG_SLEN.SLEN 0)
            (Img.signed (memBytes 0 s.flash.staging 0 (s.fld RG_SLEN.SLEN 0)))
            (s.sigOk (memBytes 0 s.flash.staging 0 (s.fld RG_SLEN.SLEN 0))) s.presetOk with
        | .ok g => u.shadow = g ∧ u.fld RG_STATUS.STATE 0 = rgReady ∧ u.fld RG_SID.ID 0 = g.imageId % 2 ^ 32 ∧
            u.flag RG_EVENT.DONE 0 = true
        | .refused c d => u.shadow = RigSet.empty ∧ u.fld RG_STATUS.STATE 0 = rgStaging ∧ u.fld RG_SID.ID 0 = 0 ∧
            u.fld RG_STATUS.CODE 0 = c % 256 ∧ u.fld RG_STATUS.DETAIL 0 = d % 4096 ∧ u.flag RG_EVENT.REFUSED 0 = true)) ∧
    (∀ r, s.rig.swap = some r → r.act = none →
      let t := s.advance (s.now + (s.ticksTo r.epoch).toNat)
      (∀ e, t.swapBroken = some e →
        Ends .swapBoundary s fun u =>
          u.now = t.now ∧ u.active = s.active ∧ u.shadow = s.shadow ∧ u.rails = s.rails ∧ u.rig = { s.rig with swap := none } ∧
            u.fld RG_STATUS.STATE 0 = rgReady ∧ u.fld RG_STATUS.CODE 0 = e.1 % 256 ∧ u.flag RG_EVENT.REFUSED 0 = true) ∧
      (t.swapBroken = none → s.shadow.presets = [] →
        Ends .swapBoundary s fun u =>
          u.now = t.now ∧ u.active = s.shadow ∧ u.shadow = s.active ∧ u.rig.swap = none ∧
            u.fld RG_STATUS.STATE 0 = rgReady ∧ u.flag RG_EVENT.SWAPPED 0 = true ∧ u.fld RG_SID.ID 0 = s.fld RG_AID.ID 0))

/-- Row SCRUB_PASS (R67 to R70): corrected errors count, a lost word of a rail's section sends that rail to FAULT with cause 3 and a lost
word of the device sends every live rail there, transient where a slot still holds a good copy of the active set and permanent where none
does, a lost word of the shadow set empties it and refuses a pending swap with SHADOWECC (0x2D), and PASS counts every pass. While the
scrub is off what the logic's own reads find is told and nothing is counted. (Where the rules leave a reading open it is the model's: log
entry 26.) -/
def Obligations.Scrubbing : Prop :=
  ∀ s : State, s.power.mode = .running →
    (∀ k, s.flag RG_CTRL.SCRUBEN 0 = true → Ends (.scrubPass k [] false) s fun u =>
      u.fld RG_SCRUB.PASS 0 = (s.fld RG_SCRUB.PASS 0 + 1) % 2 ^ 16 ∧ u.fld RG_SCRUB.CORR 0 = min 0xFFFF (s.fld RG_SCRUB.CORR 0 + k) ∧
        (0 < k → u.flag RG_EVENT.CORR 0 = true) ∧ u = { s with regs := u.regs, hot := u.hot, log := u.log } ∧
        OnlyRegs s u (⟨.RG_SCRUB, 0⟩ :: ⟨.RG_EVENT, 0⟩ :: logKeys)) ∧
    (∀ k, s.flag RG_CTRL.SCRUBEN 0 = false → Ends (.scrubPass k [] false) s fun u =>
      u = { s with regs := u.regs, hot := u.hot } ∧ (0 < k → u.flag RG_EVENT.CORR 0 = true) ∧
        OnlyRegs s u [⟨.RG_EVENT, 0⟩]) ∧
    (∀ (n : Fin 12) (owner : Option (Fin 12)) (word : Nat), owner = none ∨ owner = some n → s.rst n ≠ stFault →
      CanFault (s.unmove n) n →
      let ok := s.slotCopyOk false || s.slotCopyOk true
      Ends (.scrubPass 0 [(word, owner)] false) s fun u =>
        u.flag RG_EVENT.DBE 0 = true ∧ u.rst n = stFault ∧ u.fld RL_STATUS.CAUSE n = 3 ∧ u.flag RL_STATUS.FLTF n = true ∧
          u.flag RL_STATUS.CONT n = false ∧
          (ok = true → u.rig.permRails = s.rig.permRails ∧ u.flag FM_STATUS.TRANS 0 = true) ∧
          (ok = false → n.val ∈ u.rig.permRails ∧ u.flag FM_STATUS.PERM 0 = true) ∧
          (owner = some n → FaultEntered (s.unmove n) u n 3 ∧ ∀ m : Fin 12, m ≠ n → (u.rail m).life = (s.rail m).life)) ∧
    Ends (.scrubPass 0 [] true) s fun u =>
      u.flag RG_EVENT.SHDBE 0 = true ∧ u.shadow = RigSet.empty ∧ u.active = s.active ∧ u.rig.swap = none ∧ u.rails = s.rails ∧
        u.fld RG_SID.ID 0 = 0 ∧
        (s.rig.swap ≠ none → u.fld RG_STATUS.CODE 0 = 0x2D ∧ u.flag RG_EVENT.REFUSED 0 = true)

/-- Rows SELFTEST_START, SELFTEST_RUN and SELFTEST_DONE (R134, R253, R256): an idle spare or a strand on probation starts its test at its
time, and an idle spare at the host's command; a pass counts, and the 16th in a row ends probation; the second failure in a row sets FAIL
and retires the strand. (Where the rules leave a reading open it is the model's: log entry 30.) -/
def Obligations.SelfTests : Prop :=
  ∀ (s : State) (k : Fin 32),
    (s.power.mode = .running →
      s.idleSpare k = true ∨ ((s.strand k).probation = true ∧ s.fld ST_CFG.STATE k = 0 ∧ s.flag ST_CFG.RETIRED k = false) →
      Ends (.selftestStart k) s fun u =>
        u.now = max s.now ((s.strand k).lastTest + 10 * ms) ∧ u.fld ST_CFG.STATE k = 2 ∧ u.flag ST_TEST.BUSY k = true ∧
          (u.strand k).lastTest = u.now ∧ OnlyRegs s u [⟨.ST_CFG, k⟩, ⟨.ST_TEST, k⟩]) ∧
    (∀ w, Taken s .ST_TEST k (withCmd w 1) → s.idleSpare k = true →
      HostEnds (.selftestRun k w) s fun u =>
        u.fld ST_CFG.STATE k = 2 ∧ u.flag ST_TEST.BUSY k = true ∧ (u.strand k).lastTest = s.now) ∧
    (s.power.mode = .running → s.fld ST_CFG.STATE k = 2 →
      (Ends (.selftestDone k true) s fun u =>
        u.fld ST_CFG.STATE k = 0 ∧ u.flag ST_TEST.BUSY k = false ∧
          u.fld ST_TEST.PASSCNT k = (s.fld ST_TEST.PASSCNT k + 1) % 256 ∧
          u.strand k = { s.strand k with passRun := (s.strand k).passRun + 1, failRun := 0
                                         probation := (s.strand k).probation && decide ((s.strand k).passRun + 1 < 16) } ∧
          OnlyRegs s u [⟨.ST_CFG, k⟩, ⟨.ST_TEST, k⟩]) ∧
      (1 ≤ (s.strand k).failRun →
        Ends (.selftestDone k false) s fun u =>
          u.flag ST_TEST.FAIL k = true ∧ u.flag ST_CFG.RETIRED k = true ∧ u.fld ST_CFG.STATE k = 0 ∧
            bitAt (u.fld FM_RETS.RET 0) k = true ∧ u.flag FM_STATUS.PERM 0 = true) ∧
      ((s.strand k).failRun = 0 →
        Ends (.selftestDone k false) s fun u =>
          u.fld ST_CFG.STATE k = 0 ∧ u.flag ST_TEST.FAIL k = s.flag ST_TEST.FAIL k ∧
            u.flag ST_CFG.RETIRED k = s.flag ST_CFG.RETIRED k ∧ (u.strand k).failRun = 1))

/-- Rows STRAND_START, STRAND_DELIVER and DUTY_LATCH (R23, R24, R28, R130 to R132). A delivery within 512 taps takes over the computed
state, shows its latency and brings its duty into force, or holds it for the duty-latch instant where DETLATCH is 1; a later one leaves
the duty in force, marks it held, and counts the miss in the strands that are late. A sample that missed its deadline before it is
delivered changes no duty; while a sample is re-run the deadline of the next one is missed and counted all the same. (Where the rules
leave a reading open it is the model's: log entries 12, 30, 49.) -/
def Obligations.StrandSamples : Prop :=
  ∀ (s : State) (n : Fin 12) (x : Sample) (r : List Sample), s.power.mode = .running → (s.rail n).loop.jobs = x :: r →
    (s.rail n).loop.takeover = false →
    let o := s.compute n x
    ((s.rail n).loop.started = false →
      Ends (.strandStart n) s fun u =>
        u.now = max s.now (x.at_ + 2) ∧ (u.rail n).loop = { (s.rail n).loop with started := true } ∧
          (∀ m : Fin 12, m ≠ n → u.rail m = s.rail m) ∧ u.regs = s.regs) ∧
    (∀ tapsA tapsB, (s.rail n).loop.started = true → (s.rail n).loop.rerun = false →
      let taps := if (s.working n).length = 2 then max tapsA tapsB else tapsA
      let taken := fun (u : State) => u.now = max s.now (x.at_ + (taps + 63) / 64) ∧ (u.rail n).loop.st = o.st ∧
        (u.rail n).loop.jobs.length = r.length ∧ (u.rail n).loop.started = false ∧
        ∀ m : Fin 12, m ≠ n → u.reg .RL_DUTY m = s.reg .RL_DUTY m
      (x.missed = false → taps ≤ 512 → s.flag TB_RSMP.DETLATCH n = false →
        Ends (.strandDeliver n ⟨tapsA, tapsB⟩ 0 0 0 0) s fun u => taken u ∧
          u.fld RL_DUTY.DUTY n = o.duty % 2 ^ 20 ∧ u.flag RL_DUTY.HELD n = false ∧ u.fld TB_RSLK.LAST n = taps ∧
          u.fld TB_RSLK.WORST n = max taps (s.fld TB_RSLK.WORST n) ∧
          (u.rail n).loop.done = (s.rail n).loop.done ++ [{ sample := x, duty := o.duty, ssig := o.st.ssig, inForce := true }]) ∧
      (x.missed = false → taps ≤ 512 → s.flag TB_RSMP.DETLATCH n = true →
        Ends (.strandDeliver n ⟨tapsA, tapsB⟩ 0 0 0 0) s fun u => taken u ∧ u.reg .RL_DUTY n = s.reg .RL_DUTY n ∧
          (u.rail n).loop.waiting = some o.duty ∧ u.fld TB_RSLK.LAST n = taps ∧
          u.fld TB_RSLK.WORST n = max taps (s.fld TB_RSLK.WORST n)) ∧
      (x.missed = false → 512 < taps →
        Ends (.strandDeliver n ⟨tapsA, tapsB⟩ 0 0 0 0) s fun u => taken u ∧ u.fld RL_DUTY.DUTY n = s.fld RL_DUTY.DUTY n ∧
          u.flag RL_DUTY.HELD n = true ∧ u.fld TB_RSLK.LAST n = 1023 ∧ u.fld TB_RSLK.WORST n = 1023 ∧
          ∀ k ∈ lateStrands (s.working n) (decide (512 < tapsA)) (decide (512 < tapsB)), u.flag ST_FLAG.MISS k = true) ∧
      (x.missed = true →
        Ends (.strandDeliver n ⟨tapsA, tapsB⟩ 0 0 0 0) s fun u => taken u ∧ u.reg .RL_DUTY n = s.reg .RL_DUTY n ∧
          u.reg .TB_RSLK n = s.reg .TB_RSLK n ∧ (u.rail n).loop.done = (s.rail n).loop.done)) ∧
    ∀ lateA lateB : Bool,
      (∀ d q, (s.rail n).loop.done = d :: q →
        Ends (.dutyLatch ⟨n, lateA, lateB⟩) s fun u =>
          u.now = max s.now (d.sample.at_ + 8) ∧ (u.rail n).loop.done = q ∧ (u.rail n).loop.jobs = x :: r ∧
            (∀ v, (s.rail n).loop.waiting = some v → d.inForce = true →
              u.fld RL_DUTY.DUTY n = v % 2 ^ 20 ∧ u.flag RL_DUTY.HELD n = false ∧ (u.rail n).loop.waiting = none) ∧
            ((s.rail n).loop.waiting = none → d.inForce = true → u.reg .RL_DUTY n = s.reg .RL_DUTY n) ∧
            (d.inForce = false → u.flag RL_DUTY.HELD n = true ∧ u.fld RL_DUTY.DUTY n = s.fld RL_DUTY.DUTY n ∧
              u.fld TB_RSLK.LAST n = 1023 ∧ u.fld TB_RSLK.WORST n = 1023)) ∧
      ((s.rail n).loop.done = [] → x.missed = false →
        Ends (.dutyLatch ⟨n, lateA, lateB⟩) s fun u =>
          u.now = max s.now (x.at_ + 8) ∧ u.flag RL_DUTY.HELD n = true ∧ u.fld RL_DUTY.DUTY n = s.fld RL_DUTY.DUTY n ∧
            u.fld TB_RSLK.LAST n = 1023 ∧ u.fld TB_RSLK.WORST n = 1023 ∧
            ((s.rail n).loop.rerun = false → x.bmis = false →
              ∀ k ∈ lateStrands (s.working n) lateA lateB, u.flag ST_FLAG.MISS k = true)) ∧
      (∀ y q, (s.rail n).loop.done = [] → x.missed = true → r = y :: q → y.missed = false → y.bmis = false →
        Ends (.dutyLatch ⟨n, lateA, lateB⟩) s fun u =>
          u.now = max s.now (y.at_ + 8) ∧ u.flag RL_DUTY.HELD n = true ∧ u.fld RL_DUTY.DUTY n = s.fld RL_DUTY.DUTY n ∧
            ∀ k ∈ lateStrands (s.working n) lateA lateB, u.flag ST_FLAG.MISS k = true)

/-- Rows STRAND_DELIVER in a braid, BRAID_RERUN_DONE and TAKEOVER_LIVE (R248 to R253): a first mismatch holds the duty and starts a
re-run; a re-run that matches is recorded without its duty coming into force; a second mismatch is permanent, and begins the takeover by
the spare strands that R251 chooses, or with takeovers disabled or no spare sends the rail to FAULT with cause 4 for good; claimed strands
that have caught up end the takeover, and the old strands that differed are retired. (Where the rules leave a reading open it is the
model's: log entries 27, 30.) -/
def Obligations.BraidCompare : Prop :=
  ∀ (s : State) (n : Fin 12) (x : Sample) (r : List Sample) (dA sA dB sB : Nat), s.power.mode = .running →
    (s.rail n).loop.jobs = x :: r →
    let differ := dA % 2 ^ 20 ≠ dB % 2 ^ 20 ∨ sA % 2 ^ 32 ≠ sB % 2 ^ 32
    let b : Fin 16 := braidOf (match s.working n with
      | [] => 0
      | k :: _ => k.val / 2)
    ((s.rail n).loop.takeover = false → (s.rail n).loop.started = true → (s.rail n).loop.rerun = false →
      (s.working n).length = 2 → differ → s.braids[b].missAt = none →
      ∀ tapsA tapsB, Ends (.strandDeliver n ⟨tapsA, tapsB⟩ dA sA dB sB) s fun u =>
        u.flag RL_DUTY.HELD n = true ∧ u.fld RL_DUTY.DUTY n = s.fld RL_DUTY.DUTY n ∧ (u.rail n).loop.rerun = true ∧
          (u.rail n).loop.st = (s.rail n).loop.st ∧ u.flag BR_STAT.MISF b = true ∧
          u.braids[b].missAt = some (max s.now (x.at_ + (max tapsA tapsB + 63) / 64))) ∧
    ((s.rail n).loop.rerun = true →
      (x.missed = false → ¬ differ →
        Ends (.braidRerunDone n dA sA dB sB) s fun u =>
          u.reg .RL_DUTY n = s.reg .RL_DUTY n ∧ (u.rail n).loop.rerun = false ∧ (u.rail n).loop.jobs = r ∧
            (u.rail n).loop.st = (s.compute n x).st ∧ ∃ d, (u.rail n).loop.done = (s.rail n).loop.done ++ [d] ∧ d.inForce = false) ∧
      (differ → s.rst n ≠ stFault → CanFault (s.unmove n) n → s.flag FM_CTRL.TKEN 0 = false ∨ s.pickSpare = none →
        Ends (.braidRerunDone n dA sA dB sB) s fun u =>
          u.flag BR_STAT.PERMF b = true ∧ FaultEntered (s.unmove n) u n 4 ∧ (u.rail n).life.permanent = true) ∧
      (∀ c, differ → s.flag FM_CTRL.TKEN 0 = true → s.pickSpare = some c →
        Ends (.braidRerunDone n dA sA dB sB) s fun u =>
          u.flag BR_STAT.PERMF b = true ∧ u.rst n = s.rst n ∧ (u.rail n).loop.takeover = true ∧ (u.rail n).loop.rerun = false ∧
            (u.rail n).loop.claimed = c ∧ (u.rail n).loop.suspect = badStrands (s.working n) dA sA dB sB ∧
            ∀ k ∈ c, u.fld ST_CFG.STATE k = 1 ∧ u.fld ST_CFG.RAIL k = n.val)) ∧
    ((s.rail n).loop.takeover = true →
      ((s.rail n).loop.claimed = [] → Lands (.takeoverLive n) s s) ∧
      ((s.rail n).loop.claimed ≠ [] →
        Ends (.takeoverLive n) s fun u =>
          (u.rail n).loop.takeover = false ∧ (u.rail n).loop.claimed = [] ∧ u.flag FM_STATUS.TAKEOVER 0 = true ∧
            ∀ k ∈ (s.rail n).loop.suspect, k ∈ (s.rail n).loop.oldStrands → u.flag ST_CFG.RETIRED k = true))

/-- Rows CARRIER_FIX and PWM_EDGE (R160, R162, R175): at the fixing instant the period after the next is fixed by the slew rule; at its
tap the earliest committed edge becomes the phase's output, and a shed phase whose edge it is becomes SHED. A request of the responder
whose tick comes before that edge is served first, and where no edge is committed the next request is served, since its edge is the next.
(Where the rules leave a reading open it is the model's: log entries 12, 34, 36.) -/
def Obligations.CarrierAndEdges : Prop :=
  ∀ (s : State) (n : Fin 12) (p : Fin 48), s.power.mode = .running →
    let c := (s.rail n).carrier
    (c.running = true →
      Lands (.carrierFix n) s ((s.advance ((c.ck + c.pk) / 64 - 16)).modCarrier n fun x =>
        { x with k := c.k + 1, ck := c.ck + c.pk, pprev := c.pk, pk := c.pnext
                 pnext := slewPeriod c.pnext (targetPeriod c.fsw) })) ∧
    (c.running = false → Lands (.carrierFix n) s s) ∧
    let t := match s.phRail p with
      | none => s
      | some m => s.respTo m (match (s.phase p).edges, (s.rail m).man.reqs with
        | e :: _, _ => e.1 / 64
        | [], r :: _ => r.at_
        | [], [] => s.now)
    ((t.phase p).edges = [] → Lands (.pwmEdge p) s t) ∧
    ∀ tap o rest, (t.phase p).edges = (tap, o) :: rest →
      Ends (.pwmEdge p) s fun u =>
        u.now = max t.now (tap / 64) ∧ u.fld PH_PSTAT.OUT p = outCode o ∧ (u.phase p).edges = rest ∧
          (u.phase p).lastTrans = some tap ∧ (∀ q : Fin 48, q ≠ p → (u.phase q) = t.phase q) ∧
          (t.phRail p ≠ none → (t.phase p).shedding = true → o = .off → u.fld PH_MSTAT.STATE p = phShed)

/-- Row RISING_COMMIT (R160, R163, R166, R169, R171, R172): in normal placement after LS the rising group is committed: both-off at the
dead time before the edge, HS at the edge; after both-off HS alone. A period whose on-time does not reach TONMIN is skipped where GMODE
says so, and one in which TONMIN does not fit is skipped with GFIT. In no other row of Table 6-3 is an edge placed, and a killed phase
whose window is outside stays off. A request of the responder whose tick comes first is served first. (Where the rules leave a reading
open it is the model's: log entries 34, 36.) -/
def Obligations.RisingCommit : Prop :=
  ∀ (s : State) (p : Fin 48) (n : Fin 12), s.power.mode = .running → s.phRail p = some n →
    (s.nextStart p n = none → Lands (.risingCommit p) s s) ∧
    ∀ (a : Nat × Nat × Nat) (cs pk pn : Nat), s.nextStart p n = some a →
      let v := s.respTo n (riseTick a.2.2);
      (v.rail n).carrier.running = true → (v.rail n).carrier.period (v.phase p).due = some (cs, pk, pn) →
      let off := v.fld PH_PCFG.OFFSET p
      let start := cs + phaseOffset off pk
      let tr := max start ((v.phase p).lastHsEnd + v.toffMin p)
      let c := max v.now ((tr - 255) / 64 - 2)
      let t := (v.advance ((tr - 255) / 64 - 2)).showTrim p
      let x := t.phase p
      let dix := (x.due + v.fld PH_PCFG.ORDER p) % 16
      let len := cs + pk + phaseOffset off pn - start
      let on := onTime (t.phaseDuty p n c) len dix
      let tmax : Int := (start : Int) + len - t.toffMin p - tr
      let committed := fun (u : State) => u.now = c ∧ (u.phase p).due = x.due + 1 ∧ (u.phase p).dix = dix
      (x.killed = false → (t.phRow p true).1 ≠ 7 →
        Ends (.risingCommit p) s fun u => committed u ∧ (u.phase p).edges = x.edges ∧
          (x.shedAt = none → u.fld PH_PSTAT.CAUSE p = (t.phRow p true).2)) ∧
      (x.killed = true → t.fastOut p = true → bitAt t.active.comp[(fastWin p)].cons 3 = false → x.shedAt = none →
        Ends (.risingCommit p) s fun u => committed u ∧ (u.phase p).edges = x.edges ∧ (u.phase p).killed = true ∧
          u.fld PH_PSTAT.CAUSE p = 5) ∧
      (x.killed = true → t.fastOut p = false →
        Ends (.risingCommit p) s fun u => committed u ∧ (u.phase p).killed = false) ∧
      (x.killed = false → (t.phRow p true).1 = 7 → x.shedAt = none → x.resume = none → x.lsGap = none → x.edges = [] →
        ((t.tonMin p : Int) ≤ tmax → t.tonMin p ≤ on →
          (t.fld PH_PSTAT.OUT p = 0 →
            Ends (.risingCommit p) s fun u => committed u ∧ (u.phase p).pulse = true ∧
              (u.phase p).edges = [(max (tr - (t.deadTimes p).1) ((c + 2) * 64), .off), (max tr ((c + 2) * 64), .hs)] ∧
              u.fld PH_PSTAT.CAUSE p = 0) ∧
          (2 ≤ t.fld PH_PSTAT.OUT p →
            Ends (.risingCommit p) s fun u => committed u ∧ (u.phase p).pulse = true ∧
              (u.phase p).edges = [(max tr ((c + 2) * 64), .hs)] ∧ u.fld PH_PSTAT.CAUSE p = 0)) ∧
        (t.fld PH_PSTAT.OUT p = 0 → (t.tonMin p : Int) ≤ tmax → on < t.tonMin p → t.flag PH_GUARD.GMODE p = true ∨ on = 0 →
          Ends (.risingCommit p) s fun u => committed u ∧ (u.phase p).edges = [] ∧
            u.flag PH_PEVT.SKIPF p = true ∧ u.flag PH_PEVT.GFIT p = t.flag PH_PEVT.GFIT p ∧ u.fld PH_PSTAT.CAUSE p = 8) ∧
        (t.fld PH_PSTAT.OUT p = 0 → tmax < t.tonMin p →
          Ends (.risingCommit p) s fun u => committed u ∧ (u.phase p).edges = [] ∧
            u.flag PH_PEVT.SKIPF p = true ∧ u.flag PH_PEVT.GFIT p = true ∧ u.fld PH_PSTAT.CAUSE p = 8))

/-- Row FALLING_COMMIT (R160, R166, R167, R170, R173): the on-time lies between the TONMIN that the rising commit took and what the period
leaves, or the edge is the one that ends an all-on; the group is both-off at the falling edge and LS a dead time later. A request of the
responder whose tick comes first is served first. (Where the rules leave a reading open it is the model's: log entries 34, 36.) -/
def Obligations.FallingCommit : Prop :=
  ∀ (s : State) (p : Fin 48) (n : Fin 12), s.power.mode = .running → s.phRail p = some n →
    ((s.phase p).pulse = false → Lands (.fallingCommit p) s s) ∧
    ((s.phase p).pulse = true →
      let v := s.respTo n (s.fallTick p n)
      ((v.phase p).pulse = false → Lands (.fallingCommit p) s v) ∧
      ((v.phase p).pulse = true →
        let t := (v.advance (v.fallTick p n)).showTrim p
        let x := t.phase p
        let tf := max (match x.endAt with
          | some e => e
          | none => x.tr + min (max (onTime (t.phaseDuty p n t.now) x.len x.dix) x.ton) x.tmax) ((t.now + 2) * 64)
        t.lastOut p = .hs →
        Ends (.fallingCommit p) s fun u =>
          u.now = t.now ∧ v.now ≤ u.now ∧ (u.phase p).pulse = false ∧
            (u.phase p).edges = x.edges ++ [(tf, .off), (tf + (t.deadTimes p).2, .ls)] ∧
            u.fld PH_PDUTY.DUTY p = t.phaseDuty p n t.now ∧ ∀ q : Fin 48, q ≠ p → u.phase q = v.phase q))

/-- Rows FAST_WINDOW_KILL, STAGE_FAULT and FAULT_HOLD_END (R171, R172, R201 to R204): a kill turns a phase that drives its stage both-off
at once and counts; a stage fault holds an active phase for RHOLD from the next tick, at which the rail's phases are looked at again, or
retires it when more than RMAX events count; after the hold the phase of a live rail is SHED. A request of the responder that is due is
served first. (Where the rules leave a reading open it is the model's: log entries 34, 35, 36, 53.) -/
def Obligations.PhaseFaults : Prop :=
  ∀ (s : State) (p : Fin 48), s.power.mode = .running →
    let t := s.respPh p
    (t.fastOut p = false ∨ (t.phase p).killed = true → Lands (.fastWindowKill p) s t) ∧
    (t.fastOut p = true → (t.phase p).killed = false →
      let drives := (t.phRow p false).1 = 5 ∨ (t.phRow p false).1 = 7 ∨ t.fld PH_PSTAT.OUT p < 2 ∨ (t.phase p).edges ≠ []
      (drives →
        Ends (.fastWindowKill p) s fun u =>
          u.fld PH_PSTAT.OUT p = 2 ∧ (u.phase p).edges = [] ∧ (u.phase p).pulse = false ∧ u.flag PH_PEVT.KILLF p = true ∧
            u.fld PH_FCNT.KILLCNT p = satNat (2 ^ PH_FCNT.KILLCNT.width - 1) (t.fld PH_FCNT.KILLCNT p + 1) ∧
            (bitAt t.active.comp[(fastWin p)].cons 3 = false → (u.phase p).killed = true ∧ u.fld PH_PSTAT.CAUSE p = 5)) ∧
      (¬ drives → Lands (.fastWindowKill p) s (t.showCause p))) ∧
    (t.phRail p = none ∨ t.fld PH_MSTAT.STATE p ≠ phActive → Lands (.stageFault p) s t) ∧
    (∀ n : Fin 12, t.phRail p = some n → t.fld PH_MSTAT.STATE p = phActive →
      let ev := t.now / 4096 :: (t.phase p).events.filter fun b => decide (t.now / 4096 < b + 488282)
      let rmax := t.fldStep RL_PMCTL.RMAX n t.now
      (ev.length ≤ rmax →
        Ends (.stageFault p) s fun u =>
          u.fld PH_MSTAT.STATE p = phHeld ∧ u.flag PH_MSTAT.HOLDF p = true ∧ u.fld PH_MSTAT.FCAUSE p = 2 ∧
            (u.phase p).holdEnd = t.now + 1 + max 1 (t.fldStep RL_PMCTL.RHOLD n t.now) * 16 * 4096 ∧ (u.phase p).events = ev ∧
            { at_ := t.now + 1, kind := .phases } ∈ (u.rail n).man.reqs) ∧
      (rmax < ev.length →
        Ends (.stageFault p) s fun u =>
          u.fld PH_MSTAT.STATE p = phRetired ∧ u.flag PH_MSTAT.RETF p = true ∧ u.fld PH_MSTAT.FCAUSE p = 2 ∧
            u.flag RL_PMSTAT.RESPLICE n = true)) ∧
    (s.fld PH_MSTAT.STATE p ≠ phHeld → Lands (.faultHoldEnd p) s s) ∧
    (s.fld PH_MSTAT.STATE p = phHeld →
      Ends (.faultHoldEnd p) s fun u =>
        u.now = max s.now (s.phase p).holdEnd ∧ (s.phRail p = none → u.fld PH_MSTAT.STATE p = phNone) ∧
          ∀ n : Fin 12, s.phRail p = some n →
            (s.live n = false → u.fld PH_MSTAT.STATE p = phNone) ∧
            (s.live n = true → s.rst n ≠ stFault → u.fld PH_MSTAT.STATE p = phShed ∧
              ∀ q : Fin 48, q ≠ p → u.fld PH_MSTAT.STATE q = s.fld PH_MSTAT.STATE q) ∧
            (s.rst n = stFault → (u.rst n = stFault ∧ u.fld PH_MSTAT.STATE p = phShed) ∨
              (u.rst n = stOff ∧ u.fld PH_MSTAT.STATE p = phNone)))

/-- Rows ROTATION and BALANCE_INTERVAL_END (R187, R189, R191 to R193): a rotation that is due adds the least-worn shed phase when it is
less worn than the phase that would be shed; at the end of an interval every sum of the rail starts anew, and every trim decided is the
one R192 gives (a step of at most BSTEP against the difference from the mean, the mean of the trims removed, within 256) and comes into
force 16 ticks later; an interval that is discarded moves no trim. A request of the responder that is due is served first. (Where the
rules leave a reading open it is the model's: log entries 35, 36, 52.) -/
def Obligations.RotationAndBalance : Prop :=
  ∀ (s : State) (n : Fin 12), s.power.mode = .running →
    (let t := s.respTo n s.now
     (t.rotationDue n = false → Lands (.rotation n) s t) ∧
     ∀ (a w : Fin 48) (r : List (Fin 48)), t.rotationDue n = true → t.allOff n = false →
      (t.rail n).man.shedCnt = 0 → (t.rail n).man.addCnt = 0 → t.fld RL_TRSTAT.ACT n = 0 → (t.rail n).man.rotPh = none →
      t.addable n = a :: r → t.shedPick (t.shedable n) = some w →
      ((t.phase a).wear < (t.phase w).wear →
        Ends (.rotation n) s fun u =>
          u.fld PH_MSTAT.STATE a = phActive ∧ (u.rail n).man.rotPh = some (a, none) ∧ (u.rail n).man.rotBell = 0 ∧
            ∀ q : Fin 48, q ≠ a → u.fld PH_MSTAT.STATE q = t.fld PH_MSTAT.STATE q) ∧
      ((t.phase w).wear ≤ (t.phase a).wear → Lands (.rotation n) s t)) ∧
    (s.live n = false → Lands (.balanceIntervalEnd n) s s) ∧
    (s.live n = true →
      let v := s.advance (s.nextGrid s.now (4096 * 2 ^ s.fldStep RL_PMBAL.BINT n s.now) 0)
      let t := v.respTo n v.now
      Ends (.balanceIntervalEnd n) s fun u =>
        u.now = v.now ∧
          (∀ p ∈ s.railPhases n, (u.phase p).balSum = 0 ∧ (u.phase p).balCnt = 0 ∧
            ((u.phase p).trimNext = none ∨ (u.phase p).trimNext = (t.phase p).trimNext ∨
              ∃ tr, (u.phase p).trimNext = some (u.now + 16, tr) ∧ -256 ≤ tr ∧ tr ≤ 256)) ∧
          let act := (t.activeList n).filter fun (p : Fin 48) => (t.phase p).balCnt != 0
          let im := fun (p : Fin 48) => rhe ((t.phase p).balSum * t.active.sense[n].cslsb) (40000 * (t.phase p).balCnt)
          let mean := rhe (act.foldl (fun a p => a + im p) 0) act.length
          let held := fun (f : Fld) => t.fldStep f n t.now
          let counts := (t.rail n).man.discard = false ∧ t.fld RL_TRSTAT.ACT n = 0 ∧ t.allOff n = false ∧ held RL_PMBAL.BEN ≠ 0 ∧
            t.rst n = stRegulate ∧ 2 ≤ act.length ∧ (held RL_PMBAL.BMIN : Int) * 10 ≤ mean.natAbs
          let bstep : Int := max 1 (held RL_PMBAL.BSTEP)
          let step := fun (p : Fin 48) =>
            if (held RL_PMBAL.BDEAD : Int) < (im p - mean).natAbs then
              t.trimAt p t.now - max (-bstep) (min bstep (rhe ((im p - mean) * held RL_PMBAL.BGAIN) 64))
            else t.trimAt p t.now
          let m := rhe (act.foldl (fun a p => a + step p) 0) act.length
          (¬ counts → ∀ p ∈ act, u.fldS PH_BTRIM.TR p = t.trimAt p t.now) ∧
          (counts → (∀ p ∈ act, 8 * (im p).natAbs < mean.natAbs ∨ im p * mean < 0 → (t.phase p).dead = 0) →
            ∀ p ∈ act, (u.phase p).trimNext = some (u.now + 16, max (-256) (min 256 (step p - m)))))

/-- Rows ALL_ON_TIMEOUT, ALL_OFF_TIMEOUT and REVERSE_WATCH (R198 to R200, R207): TONMAX ticks after its request a responder action ends,
once the requests due before then are served; eight samples of forbidden reverse current ask for an all-off with contactor release, which
at its tick sets REVBLK and is a fault of cause 7. (Where the rules leave a reading open it is the model's: log entries 36, 52.) -/
def Obligations.TransientResponder : Prop :=
  ∀ (s : State) (n : Fin 12), s.power.mode = .running →
    (∀ act : Fin 2, let k := act.val + 1
      let cmd : Instr := if act = 0 then .allOnTimeout n else .allOffTimeout n
      let w := if s.fld RL_TRSTAT.ACT n = k then s else s.respTo n (s.now + 2)
      let end_ := (w.rail n).man.respAt + w.tonMax n (w.rail n).man.respAt
      let v := if w.fld RL_TRSTAT.ACT n = k then w.respTo n end_ else w
      (v.fld RL_TRSTAT.ACT n ≠ k → Lands cmd s v) ∧
      (v.fld RL_TRSTAT.ACT n = k →
        Ends cmd s fun u =>
          u.now = max v.now end_ ∧ u.fld RL_TRSTAT.ACT n = 0 ∧ u.rst n = v.rst n ∧
            (k = 1 → (u.rail n).man.ended = some ((v.rail n).loop.count + bit ((v.advance end_).sampleDue n))) ∧
            (k = 2 → ∀ m : Fin 12, u.rail m = v.rail m))) ∧
    (let t := s.respTo n s.now
     let c := match (t.rail n).loop.lastAt with
       | some x => x + 2
       | none => t.now
     ((t.rail n).man.revRun < 8 ∨ t.live n = false → Lands (.reverseWatch n) s t) ∧
     (8 ≤ (t.rail n).man.revRun → t.live n = true → (∀ r ∈ (t.rail n).man.reqs, t.now < r.at_) →
       let z := ({ t with now := c } : State).unmove n
       (t.now < c → Ends (.reverseWatch n) s fun u =>
         (u.rail n).man.revRun = 0 ∧ { at_ := c, kind := .off, cause := 6, fault := some 7 } ∈ (u.rail n).man.reqs ∧
           u.regs = t.regs ∧ u.now = t.now) ∧
       (c ≤ t.now → t.rst n ≠ stFault → CanFault z n →
         Ends (.reverseWatch n) s fun u =>
           u.flag RL_PMSTAT.REVBLK n = true ∧ u.flag RL_TRSTAT.OFFF n = true ∧ u.flag RL_TRSTAT.RELF n = true ∧
             u.fld RL_TRSTAT.ACT n = 0 ∧ (u.rail n).man.revRun = 0 ∧ FaultAt z u n 7 c)))

/-- Rows PROFILE_STEP and PROFILE_OUTPUT_IN_FORCE (R137 to R143): a step falls on a tick T with T mod 256 = 0; there both generators of a
live rail take their step towards the targets of that tick by the limits of that tick, the rounded values come into force 16 ticks later,
and a rail that is not live takes no step. At that time the value is shown in RL_PSET and RL_PISET. A FAULT that leaves no way back is
followed by RETIRED at the next step, at a later tick. (Where the rules leave a reading open it is the model's: log entries 10, 13, 33,
49.) -/
def Obligations.ProfileSteps : Prop :=
  ∀ (s : State), s.power.mode = .running →
    (Ends .profileStep s fun u =>
      s.now ≤ u.now ∧ u.absAt u.now % 256 = 0 ∧ u.time.lastStep = some u.now ∧
        (∀ n : Fin 12, s.live n = false → (s.rail n).man.reqs = [] → u.rail n = s.rail n) ∧
        (∀ n : Fin 12, s.rst n = stFault → (s.rail n).life.permanent = true → (s.rail n).life.entry < u.now →
          (s.rail n).man.reqs = [] → u.rst n = stRetired) ∧
        let w := ((s.advance (s.nextGrid (match s.time.lastStep with
          | some t => max s.now (t + 1)
          | none => s.now) 256 0)).modTime fun x => { x with lastStep := some u.now }).pruneLog
        u.now = w.now ∧
        ∀ n : Fin 12, s.live n = true → s.rst n ≠ stRampdown → (s.rail n).life.permanent = false →
          (s.rail n).life.noStrand = false → (s.rail n).man.reqs = [] →
          let lim := fun (f : Fld) => w.fldAt f n w.now
          let near := fun (x : Rat) (k : Int) => (k : Rat) - x ≤ 501 / 1000 ∧ x - (k : Rat) ≤ 501 / 1000
          let v := (s.rail n).mode.vgen.step (w.voltTarget n w.now) (lim RL_VSLEW.LIMIT) (lim RL_VACC.LIMIT) (lim RL_VJERK.LIMIT)
          let i := (s.rail n).mode.igen.step ((w.stepRamp n w.now).currentTarget n w.now) (lim RL_ISLEW.LIMIT) (lim RL_IACC.LIMIT)
            (lim RL_IJERK.LIMIT)
          (∃ k, near v.p k ∧ (u.rail n).mode.vgen = { v with next := some (u.now + 16, k) }) ∧
            (s.follower n = false → w.fldStep RL_REVS.SHEN n w.now = 0 →
              ∃ k, near (i.p / 10) k ∧ (u.rail n).mode.igen = { i with next := some (u.now + 16, k) })) ∧
    ∀ (n : Fin 12) (t : Nat) (v : Int), (s.rail n).mode.vgen.next = some (t, v) →
      Ends (.profileOutputInForce n) s fun u =>
        u.now = max s.now t ∧ u.fld RL_PSET.VSET n = unsignedOf 20 v ∧ (u.rail n).mode.vgen.next = none ∧
          (∀ i, (s.rail n).mode.igen.next = some (t, i) → u.fld RL_PISET.ISET n = unsignedOf 16 i) ∧
          OnlyRegs s u [⟨.RL_PSET, n⟩, ⟨.RL_PISET, n⟩]

/-- Row RAIL_SAMPLE (R22, R67, R76, R77, R105): a live rail samples at the next tick with (T − OFFSET) mod PERIOD = 0, once at each; the
sample joins the queue of its strands with the error word of the converter, whose input is the local pair where Table 3-1 selects it, and
the first conversion after the converter powered up is never blanked. A cell error found at that read is corrected or reported. The
requests of the responder due by the sample are served first. (Where the rules leave a reading open it is the model's: log entries 26, 29,
47.) -/
def Obligations.RailSamples : Prop :=
  ∀ (s : State) (n : Fin 12) (vr vl : Int) (cell : CellRead), s.power.mode = .running →
    let first := match (s.rail n).loop.lastAt with
      | some t => max s.now (t + 1)
      | none => s.now
    let t := s.nextGrid first (s.period n) (s.fld TB_RSMP.OFFSET n % s.period n)
    let v := (((s.respTo n t).seenTo t).advance t).cellRead n cell
    (s.live n = false → Lands (.railSample n ⟨vr, vl, cell⟩) s s) ∧
    (s.live n = true →
      Ends (.railSample n ⟨vr, vl, cell⟩) s fun u =>
        (u.rail n).loop.count = (v.rail n).loop.count + 1 ∧ (u.rail n).loop.lastAt = some (max s.now t) ∧ u.now = max s.now t ∧
          (∃ y, (u.rail n).loop.jobs = (v.rail n).loop.jobs ++ [y] ∧ y.at_ = u.now ∧ y.vec.e = (u.rail n).err.e ∧
            y.vec.ovr = (u.rail n).err.ovr) ∧
          (cell = .corrected → u.flag RG_EVENT.CORR 0 = true) ∧
          (∀ word dev, cell = .lost word dev → u.flag RG_EVENT.DBE 0 = true) ∧
          ((v.rail n).err.fresh = false → (v.rail n).mode.vgen.next = none → (v.rail n).sense.fbkAt = none →
            (u.rail n).err.e =
              (errorCode (if v.inLocal n then vl else vr) (v.refOf n (v.fld RL_PSET.VSET n)) s.active.sense[n].elsb).1)) ∧
    ((t : Int) + s.skew) % (s.period n : Int) = ((s.fld TB_RSMP.OFFSET n % s.period n : Nat) : Int)

/-- Rows CURRENT_TRIGGER and UNSPLICED_CONVERSION (R84 to R88): the common trigger forms the sum of the corrected codes of the rail's
phases that are not retired; a phase spliced to no rail is converted and corrected and never blanked. The requests of the responder due by
the trigger are served first. (Where the rules leave a reading open it is the model's: log entries 7, 9, 29.) -/
def Obligations.PhaseCurrents : Prop :=
  ∀ (s : State), s.power.mode = .running →
    (∀ (n : Fin 12) (volts : List Int),
      let first := match (s.rail n).sense.sums with
        | [] => s.now
        | e :: _ => max s.now (e.1 + 1)
      let t := s.nextGrid first (s.period n) ((s.fld TB_RSMP.OFFSET n + 255 * s.period n - s.itrig n) % s.period n)
      let v := (s.respTo n t).advance t
      (s.live n = false → Lands (.currentTrigger n volts) s s) ∧
      (s.live n = true →
        Ends (.currentTrigger n volts) s fun u =>
          u.now = max s.now t ∧
            (u.rail n).sense.sums = ((u.now, (s.railPhases n).foldl
              (fun a (p : Fin 48) => if u.phRet p then a else a + u.fldS PH_IRAW.CORR p) 0,
              ((s.railPhases n).filter fun (p : Fin 48) => v.phState p == phActive).length) :: (v.rail n).sense.sums).take 40 ∧
            ∀ m : Fin 12, m ≠ n → u.rail m = v.rail m)) ∧
    ∀ (p : Fin 48) (v : Int), s.phRail p = none →
      Ends (.unsplicedConversion p v) s fun u =>
        u.fld PH_IRAW.RAW p = unsignedOf 12 (phaseCode v).1 ∧ u.flag PH_IRAW.BLK p = false ∧
          u.flag PH_IRAW.OVR p = (phaseCode v).2 ∧
          u.fld PH_IRAW.CORR p = unsignedOf 14 (correctPhase (phaseCode v).1 (s.fldS PH_ICAL.OFS p) (s.fld PH_ICAL.GAIN p)) ∧
          ((phaseCode v).2 = true → u.flag PH_ISTAT.OVRF p = true) ∧ u.rails = s.rails ∧
          OnlyRegs s u [⟨.PH_IRAW, p⟩, ⟨.PH_ISTAT, p⟩]

/-- Rows MODEL_DISAGREEMENT and AUTOTUNE_NO_OSCILLATION (R157, R260): the count that reaches MCNT64 × 64 sets DISF and starts anew, and
the rail moves to local sense where FBKACT and its FALLBACK say so; 4096 samples without a switch end the auto-tune with CODE 5 in CV.
(Where the rules leave a reading open it is the model's: log entries 32, 53.) -/
def Obligations.ModelAndTune : Prop :=
  ∀ (s : State) (n : Fin 12), s.power.mode = .running →
    (max 1 (s.fld MS_LIM.MCNT64 n) * 64 ≤ s.fld MS_STAT.COUNT n →
      Ends (.modelDisagreement n) s fun u =>
        u.flag MS_STAT.DISF n = true ∧ u.fld MS_STAT.COUNT n = 0 ∧ u.fld MS_STAT.LASTRES n = s.fld MS_STAT.LASTRES n ∧
          u.flag FM_STATUS.TRANS 0 = true ∧ u.rst n = s.rst n ∧
          (u.rail n).sense.fbkAt = (if s.flag MS_LIM.FBKACT n && s.active.sense[n].fallback && !s.flag CV_SNS.FBK n
            then some (s.now + 2, true) else (s.rail n).sense.fbkAt)) ∧
    ∀ v, (s.rail n).mode.tune = some v → 4096 ≤ v.idle →
      Ends (.autotuneNoOscillation n) s fun u =>
        u.fld RL_ATRES.CODE n = 5 ∧ (u.rail n).mode.tune = none ∧ (u.rail n).mode.cc = false ∧
          (u.rail n).mode.preAt = some s.now ∧ u.fld RL_MCTL.REQ n = 0 ∧ bitAt (u.fld ALR_EVT.AT 0) n = true ∧
          ∀ m : Fin 12, m ≠ n → u.rail m = s.rail m

/-- Rows WINDOW_LEVEL_CHANGE, COMPARATOR_BLANK_END, PROT_WINDOW_FAULT and OPEN_LINE_DETECT (R81 to R83, R97, R229 to R232): the live level
is judged on the window's input against the thresholds in force; blanking freezes what consumers see, and its end shows the live level; a
PROT window outside for 16 ticks is a fault of cause 8, 9 or 10; an armed detector that has seen D and L differ for 40 µs without a break
moves the rail to local sense where FALLBACK is 1 and is a fault of cause 16 otherwise; before that it keeps the time since which they
differ, or agree. (Where the rules leave a reading open it is the model's: log entries 37, 47, 53.) -/
def Obligations.WindowsAndOpenLine : Prop :=
  ∀ (s : State), s.power.mode = .running →
    (∀ (x : Fin 72) (volts : List Int),
      (s.active.loaded = false → Lands (.windowLevelChange x volts) s s ∧ Lands (.comparatorBlankEnd x) s s) ∧
      (s.active.loaded = true →
        (Ends (.windowLevelChange x volts) s fun u =>
          let v := s.winInput x volts
          let l := levelOf (s.win x).live v.1 (dacLevel x (s.fldNext CMP_THR.UPPER x) * v.2)
            (dacLevel x (s.fldNext CMP_THR.LOWER x) * v.2) (dacHalf x * v.2)
          (u.win x).live = l ∧ (u.win x).seen = (if s.now * 64 < (s.win x).blankTo then (s.win x).seen else l) ∧ u.now = s.now ∧
            ∀ y : Fin 72, y ≠ x → u.win y = s.win y) ∧
        Ends (.comparatorBlankEnd x) s fun u =>
          (u.win x).live = (s.win x).live ∧ (u.win x).seen = (s.win x).live ∧ u.now = max s.now (((s.win x).blankTo + 63) / 64) ∧
            ∀ y : Fin 72, y ≠ x → u.win y = s.win y)) ∧
    (∀ (x : Fin 72) (n : Fin 12) (volt : Bool), winRail x = some (n, volt) → s.winSeen x ≠ .inside →
      bitAt s.active.comp[x].cons 2 = true → stClose ≤ s.rst n → s.rst n ≤ stRampdown →
      let t := (s.advance ((s.win x).since + 16)).unmove n
      CanFault t n →
      Ends (.protWindowFault x) s fun u =>
        u.now = max s.now ((s.win x).since + 16) ∧
          FaultEntered t u n (if volt then (if s.winSeen x = .above then 8 else 9) else 10)) ∧
    ∀ (n : Fin 12) (d l : Int),
      let armed := s.flag CV_SNS.FBK n = false ∧ s.active.sense[n].bias = true ∧
        (s.rst n = stRamp ∨ s.rst n = stRegulate ∨ s.rst n = stRampdown) ∧ (s.rail n).sense.fbkAt = none ∧ 250000000 ≤ l
      (¬ (armed ∧ openDiffers d l = true) → Lands (.openLineDetect n d l) s
        (s.modSense n fun x =>
          { x with goodSince := if openDiffers d l then none else some (x.goodSince.getD s.now), badSince := none })) ∧
      (armed → openDiffers d l = true → (s.rail n).sense.badSince = none → Lands (.openLineDetect n d l) s
        (s.modSense n fun x => { x with goodSince := none, badSince := some s.now })) ∧
      ∀ b, armed → openDiffers d l = true → (s.rail n).sense.badSince = some b →
        let t := (s.advance (b + 40 * us)).unmove n
        Ends (.openLineDetect n d l) s fun u =>
          u.flag CV_SNS.OPEN n = true ∧ u.flag CV_STATUS.OPENL 0 = true ∧ u.now = max s.now (b + 40 * us) ∧
            (s.active.sense[n].fallback = true →
              (u.rail n).sense.fbkAt = some (u.now + 2, true) ∧ (u.rail n).sense.goodSince = none ∧
                (u.rail n).sense.badSince = none ∧ u.rst n = s.rst n) ∧
            (s.active.sense[n].fallback = false → CanFault t n → FaultEntered t u n 16)

/-- Rows TC0_SLOT, TC0_FRAME_END and TRIGGERED_CONVERSION (R8, R89 to R94, R100): a slot stores the raw and the corrected code of its
channel, code 0 for one of an absent element; the end of a frame shows the mean VBUS and starts the next frame; a triggered conversion
takes one slot more of its converter's frame and is stored in its CV_TRES register, TM0's first of two asked for in one slot of a
converter. The die temperature is a free value. (Where the rules leave a reading open it is the model's: log entries 7, 9, 29, 38.) -/
def Obligations.TelemetryFrames : Prop :=
  ∀ (s : State) (v : Int), s.power.mode = .running →
    (64 ≤ s.tele.slot → Lands (.tc0Slot v) s s) ∧
    (s.tele.slot < 64 →
      Ends (.tc0Slot v) s fun u =>
        u.now = max s.now (s.tele.slotAt + s.slotLen) ∧ u.tele.slot = s.tele.slot + 1 ∧ u.tele.slotAt = s.tele.slotAt + s.slotLen ∧
          ∀ ch, slotChan s.tele.slot = some ch → ∀ h : ch < 96,
            u.tele.raw[ch] = (if (s.small && absentChan ch) = true then 0 else telCode v) ∧
              u.tele.corr[ch] = (if (s.small && absentChan ch) = true then 0 else s.telCorrect ch (telCode v))) ∧
    (Ends .tc0FrameEnd s fun u =>
      let end_ := s.tele.slotAt + (64 - s.tele.slot) * s.slotLen
      u.tele.slot = 0 ∧ u.tele.slotAt = end_ ∧ u.tele.frameAt = end_ ∧ u.tele.frame = s.tele.frame + 1 ∧ u.tele.vbSum = 0 ∧
        u.tele.frameLen = end_ - s.tele.frameAt ∧
        u.fld CV_VBUS.MV 0 = (rhe (s.tele.vbSum : Int) 4).toNat % 2 ^ 32 ∧ u.fld TH_DIE.T 0 = (Config.freeValue 16 s.frees).toNat) ∧
    let t := s.seenAll
    let slot0 := t.trigSlot true
    let slot1 := t.trigSlot false
    let same := t.fld CV_TRIG.CH0 0 < 48 ↔ t.fld CV_TRIG.CH1 0 < 48
    let turn0 := slot0 = some (t.trigGrid true).1 ∧ ∀ a, slot1 = some a → same → (t.trigGrid true).1 ≤ a
    let turn1 := slot1 = some (t.trigGrid false).1 ∧ ∀ a, slot0 = some a → same → (t.trigGrid false).1 < a
    (¬ turn0 → Lands (.triggeredConversion 0 v) s t) ∧ (¬ turn1 → Lands (.triggeredConversion 1 v) s t) ∧
    (turn0 →
      Ends (.triggeredConversion 0 v) s fun u =>
        u.tele.pend0 = t.tele.pend0.drop 1 ∧ u.fld CV_TRES0.COUNT 0 = (t.fld CV_TRES0.COUNT 0 + 1) % 2 ^ 16 ∧
          u.fld CV_TRES0.CORR 0 = (t.telConvert (t.fld CV_TRIG.CH0 0) v).1 ∧
          (t.fld CV_TRIG.CH0 0 < 48 → u.tele.slotAt = t.tele.slotAt + t.slotLen ∧ u.now = max t.now u.tele.slotAt) ∧
          (48 ≤ t.fld CV_TRIG.CH0 0 → u.tele.slotAt1 = t.tele.slotAt1 + t.slotLen1 ∧ u.now = max t.now u.tele.slotAt1) ∧
          OnlyRegs t u [⟨.CV_TRES0, 0⟩]) ∧
    (turn1 →
      Ends (.triggeredConversion 1 v) s fun u =>
        u.tele.pend1 = t.tele.pend1.drop 1 ∧ u.fld CV_TRES1.COUNT 0 = (t.fld CV_TRES1.COUNT 0 + 1) % 2 ^ 16 ∧
          u.fld CV_TRES1.CORR 0 = (t.telConvert (t.fld CV_TRIG.CH1 0) v).1 ∧
          (t.fld CV_TRIG.CH1 0 < 48 → u.tele.slotAt = t.tele.slotAt + t.slotLen ∧ u.now = max t.now u.tele.slotAt) ∧
          (48 ≤ t.fld CV_TRIG.CH1 0 → u.tele.slotAt1 = t.tele.slotAt1 + t.slotLen1 ∧ u.now = max t.now u.tele.slotAt1) ∧
          OnlyRegs t u [⟨.CV_TRES1, 0⟩])

/-- Rows TC1_DAC_READBACK and XREF_CHECK (R90, R97 to R99): a readback takes the next slot of TC1's frame that reads a DAC; one within its
tolerance ends the run of failures, and the second failure in a row sets DACFAIL with the DAC's number; the second XREF conversion in a
row beyond XTOL sets the converter's drift flag, and one that is made while the check is off breaks the row. TC0's XREF conversion is slot
29 of its frame. (Where the rules leave a reading open it is the model's: log entries 9, 38.) -/
def Obligations.ConverterChecks : Prop :=
  ∀ (s : State) (v : Int), s.power.mode = .running →
    let t := s.tc1Seek s.dacSlot 150
    let d := slotDac t.tele.slot1
    let code := (s.telConvert (48 + (if d < 96 then d / 2 else d - 96)) v).1
    let want := (if 96 ≤ d ∧ d < 120 then 60 else 40) *
      (if d % 2 = 0 then s.fld CMP_THR.UPPER (dacWin d) else s.fld CMP_THR.LOWER (dacWin d))
    let tol := (if 96 ≤ d ∧ d < 120 then 15 else 10) * max 1 (s.fld CV_SCRUB.DTOL 0)
    let off := fun (c : Fin 2) => decide (max 1 (s.fld CV_SCRUB.XTOL 0) <
      ((Config.xrefCorrect c (telCode v) : Int) - Config.xrefCode c).natAbs)
    (s.flag CV_CTRL.DSCRUB 0 = false ∨ s.active.loaded = false → Lands (.tc1DacReadback v) s s) ∧
    (s.flag CV_CTRL.DSCRUB 0 = true → s.active.loaded = true →
      (((code : Int) - want).natAbs ≤ tol →
        Ends (.tc1DacReadback v) s fun u =>
          u.tele.slot1 = (t.tele.slot1 + 1) % 150 ∧ u.tele.slotAt1 = t.tele.slotAt1 + t.slotLen1 ∧ u.now = max t.now u.tele.slotAt1 ∧
            u.dacRun d = 0 ∧ u.regs = s.regs ∧ u.wins = s.wins) ∧
      (tol < ((code : Int) - want).natAbs → s.flag CV_STATUS.TC1DRIFT 0 = false → s.dacRun d = 1 →
        Ends (.tc1DacReadback v) s fun u =>
          u.tele.slot1 = (t.tele.slot1 + 1) % 150 ∧ u.flag CV_STATUS.DACFAIL 0 = true ∧ u.fld CV_SCRUB.LASTDAC 0 = d % 256 ∧
            u.flag FM_STATUS.PERM 0 = true ∧ (48 ≤ (dacWin d).val → (u.win (dacWin d)).failed = true))) ∧
    (s.tele.slot ≠ 29 → Lands (.xrefCheck 0 v) s s) ∧
    (s.flag CV_CTRL.XCHKEN 0 = false → (s.tele.slot = 29 → Lands (.xrefCheck 0 v) s (s.tc0Slot.modTele fun x => { x with xref0 := 0 })) ∧
      Lands (.xrefCheck 1 v) s ((s.tc1Seek (fun k => k % 25 == 24) 150).tc1Slot.modTele fun x => { x with xref1 := 0 })) ∧
    (s.flag CV_CTRL.XCHKEN 0 = true →
      (s.tele.slot = 29 →
        Ends (.xrefCheck 0 v) s fun u =>
          u.tele.slot = 30 ∧ u.tele.xref0 = (if off 0 = true then s.tele.xref0 + 1 else 0) ∧ u.tele.xref1 = s.tele.xref1 ∧
            u.flag CV_STATUS.TC0DRIFT 0 = (s.flag CV_STATUS.TC0DRIFT 0 || (off 0 && decide (1 ≤ s.tele.xref0)))) ∧
      Ends (.xrefCheck 1 v) s fun u =>
        u.tele.xref1 = (if off 1 = true then s.tele.xref1 + 1 else 0) ∧ u.tele.xref0 = s.tele.xref0 ∧
          u.flag CV_STATUS.TC1DRIFT 0 = (s.flag CV_STATUS.TC1DRIFT 0 || (off 1 && decide (1 ≤ s.tele.xref1))))

/-- Row SLOT_GRANT (R216, R218): where a slot is free, the head of the queue has room in the budget and the ring permits it, that rail
enters PREMATCH with its cap and holds the slot, at the next tick where it has entered OFF at this one; a rail without a spliced phase is
never granted; where none may start, nothing changes. (Where the rules leave a reading open it is the model's: log entry 28.) -/
def Obligations.SlotGrant : Prop :=
  ∀ s : State, s.power.mode = .running →
    (∀ n : Fin 12, s.grantable = some n → s.tokenPermits n = true → (s.railStrands n).all (fun k => !s.flag ST_CFG.RETIRED k) = true →
      s.lead n = false →
      Ends .slotGrant s fun u =>
        u.now = s.now + bit (s.movedNow n) ∧ s.rst n = stOff ∧ s.railPhases n ≠ [] ∧ u.rst n = stPrematch ∧
        u.flag RL_STATUS.SLOT n = true ∧ u.flag RL_STATUS.QUEUED n = false ∧ u.fld RL_STATUS.PREV n = s.rst n ∧
          u.fld RL_PSTAT.CAP n = s.grantCap n % 2 ^ RL_PSTAT.CAP.width ∧ (u.rail n).carrier.waiting = some (u.now + 2) ∧
          (u.rail n).loop.count = 0 ∧ (u.rail n).life.entry = u.now ∧
          u.fld RL_SCNT.STARTCNT n = satNat (2 ^ RL_SCNT.STARTCNT.width - 1) (s.fld RL_SCNT.STARTCNT n + 1) ∧
          ∀ m : Fin 12, m ≠ n → u.reg .RL_STATUS m = s.reg .RL_STATUS m ∧ u.rail m = s.rail m) ∧
    (s.grantable = none → Lands .slotGrant s s) ∧
    ∀ n : Fin 12, s.grantable = some n → s.tokenPermits n = false → Lands .slotGrant s s

/-- Rows RESTORE, RELOAD FACTORY CALIBRATION, CLEAR PEAKS, CLEAR ENERGY, CLEAR PEAKS AND ENERGY and CLRW (R28, R83, R91, R103): each is a
write of its register whose word is taken. RESTORE moves the rail back to its remote pair 2 ticks later once the condition of R83 has held
for 100 ms, and is discarded earlier. A clear in the tick in which a frame ends leaves that frame's energy, and CLRW in the tick of a
delivery leaves that delivery's slack. (Where the rules leave a reading open it is the model's: log entries 1, 9, 13, 43.) -/
def Obligations.SensingWrites : Prop :=
  ∀ (s : State) (n : Fin 12) (w : Word),
    (Taken s .CV_SNS n (setBits w 27 1 1) →
      HostEnds (.restore n w) s fun u =>
        u.fld CV_SNS.BCOMP n = CV_SNS.BCOMP.of w ∧ OnlyRegs s u [⟨.CV_SNS, n⟩, ⟨.RL_STATUS, n⟩, ⟨.HB_STATUS, 0⟩] ∧ u.now = s.now ∧
          (∀ t, (s.rail n).sense.goodSince = some t → t + 100 * ms ≤ s.now → s.flag CV_SNS.FBK n = true →
            (u.rail n).sense.fbkAt = some (s.now + 2, false)) ∧
          ((s.rail n).sense.goodSince = none ∨ s.flag CV_SNS.FBK n = false → u.rails = s.rails) ∧
          ∀ t, (s.rail n).sense.goodSince = some t → s.now < t + 100 * ms → u.rails = s.rails) ∧
    (Taken s .CV_CTRL 0 (withCmd w 1) →
      HostEnds (.reloadFactoryCalibration w) s fun u =>
        (∀ c < 96, u.reg .CV_CALDATA c =
          BitVec.ofNat 32 ((Config.factoryTelemetry c).2 % 65536 * 65536 + unsignedOf 12 (Config.factoryTelemetry c).1)) ∧
        (∀ p : Fin 48, u.reg .PH_ICAL p =
          BitVec.ofNat 32 ((Config.factoryPhase p).2 % 65536 * 65536 + unsignedOf 10 (Config.factoryPhase p).1)) ∧
        u.rails = s.rails ∧ u.phases = s.phases ∧ u.tele = s.tele) ∧
    (Taken s .RL_TCTL n (withCmd w 1) →
      HostEnds (.clearPeaks n w) s fun u =>
        u.fld CV_PKMAX.I n = 0 ∧ u.fld CV_PKMIN.I n = 0 ∧ (u.rail n).sense = { (s.rail n).sense with peaks := false } ∧
          OnlyRegs s u [⟨.RL_TCTL, n⟩, ⟨.CV_PKMAX, n⟩, ⟨.CV_PKMIN, n⟩]) ∧
    (let cleared := (s.setFlds n [(RL_EFWD_HI.E, 0), (RL_EFWD_LO.E, 0), (RL_EREV_HI.E, 0), (RL_EREV_LO.E, 0)]).modSense n
        fun x => { x with resF := 0, resR := 0 }
      let z := if s.tele.frameAt = s.now ∧ s.tele.frameLen ≠ 0 then cleared.addEnergy n s.tele.frameLen else cleared
      let energies : List Reg := [.RL_EFWD_HI, .RL_EFWD_LO, .RL_EREV_HI, .RL_EREV_LO]
      (∀ r ∈ energies, cleared.reg r n = 0) ∧
      (Taken s .RL_TCTL n (withCmd w 2) →
        HostEnds (.clearEnergy n w) s fun u =>
          (∀ r ∈ energies, u.reg r n = z.reg r n) ∧ u.rails = z.rails ∧
            OnlyRegs s u [⟨.RL_TCTL, n⟩, ⟨.RL_EFWD_HI, n⟩, ⟨.RL_EFWD_LO, n⟩, ⟨.RL_EREV_HI, n⟩, ⟨.RL_EREV_LO, n⟩]) ∧
      (Taken s .RL_TCTL n (withCmd w 3) →
        HostEnds (.clearPeaksAndEnergy n w) s fun u =>
          u.fld CV_PKMAX.I n = 0 ∧ u.fld CV_PKMIN.I n = 0 ∧ (∀ r ∈ energies, u.reg r n = z.reg r n) ∧
            (u.rail n).sense = { (z.rail n).sense with peaks := false } ∧ u.fld RL_TCTL.WIN n = RL_TCTL.WIN.of w)) ∧
    (Taken s .TB_RSLK n (setBits w 31 1 1) →
      HostEnds (.clrw n w) s fun u =>
        u.fld TB_RSLK.WORST n = (if bitAt (s.hotBits .TB_RSLK n) TB_RSLK.WORST.lo = true then s.fld TB_RSLK.LAST n else 0) ∧
          u.fld TB_RSLK.LAST n = s.fld TB_RSLK.LAST n ∧ OnlyWrite s u ∧
          OnlyRegs s u [⟨.TB_RSLK, n⟩])

/-- Rows TARGET_WRITE, VOC_WRITE, MODE_REQUEST_WRITE, FACET_FORCE_WRITE, AUTOTUNE START and AUTOTUNE ABANDON (R136, R137, R144, R147, R155
to R157, R214): a target or a loop word is in force from 2 ticks after its write; a request for manual duty loads the duty in force; an
auto-tune starts in REGULATE in CV at rest, and ends with CODE 7 when it is abandoned; while one runs, and for the source that TSRC does
not select, a target write is discarded. (Where the rules leave a reading open it is the model's: log entries 13, 31, 32, 49.) -/
def Obligations.SetPointWrites : Prop :=
  ∀ (s : State) (n : Fin 12) (w : Word),
    (∀ current : Bool, let r : Reg := if current then .RL_ITGT else .RL_VTGT
      Taken s r n w →
        HostEnds (.targetWrite n current w) s fun u =>
          (if current then u.fld RL_ITGT.ITGT n = RL_ITGT.ITGT.of w else u.fld RL_VTGT.VTGT n = RL_VTGT.VTGT.of w) ∧
            OnlyRegs s u [⟨r, n⟩, ⟨.RL_STATUS, n⟩] ∧ u.rst n = s.rst n ∧ u.now = s.now ∧
            (∀ t < s.now + 2, u.regAt r n t = s.regAt r n t) ∧
            ((∀ e ∈ s.wlog, e.2.2 ≤ s.now) → ∀ t, s.now + 2 ≤ t → u.regAt r n t = u.reg r n)) ∧
    (∀ current : Bool, let r : Reg := if current then .RL_ITGT else .RL_VTGT
      s.ready = true → s.power.mode = .running → s.absentReg r (s.keyOf r n) = false →
        s.flag RL_MCTL.TSRC n = true ∨ s.tuning n = true →
        HostEnds (.targetWrite n current w) s fun u =>
          u.reg r n = s.reg r n ∧ (s.flag RL_MCTL.TSRC n = true → u.flag RL_MCTL.TWERR n = true) ∧
            (s.tuning n = true → u.flag RL_MCTL.CFGERR n = true) ∧ u.rails = s.rails ∧ OnlyRegs s u [⟨.RL_MCTL, n⟩]) ∧
    (Taken s .RL_VOC n w →
      HostEnds (.vocWrite n w) s fun u =>
        u.fld RL_VOC.VOC n = RL_VOC.VOC.of w ∧ u.flag RL_VOC.VALID n = true ∧ u.rst n = s.rst n ∧
          OnlyRegs s u [⟨.RL_VOC, n⟩, ⟨.RL_STATUS, n⟩]) ∧
    (Taken s .RL_MCTL n w → (s.rail n).mode.tune = none → RL_MCTL.TSRC.of w = s.fld RL_MCTL.TSRC n →
      HostEnds (.modeRequestWrite n w) s fun u =>
        u.fld RL_MCTL.REQ n = RL_MCTL.REQ.of w ∧ u.fld RL_MCTL.XCNT n = RL_MCTL.XCNT.of w ∧ u.fld RL_MCTL.MODE n = s.fld RL_MCTL.MODE n ∧
          (if s.fld RL_MCTL.REQ n ≠ 2 ∧ RL_MCTL.REQ.of w = 2 then u.reg .RL_MDUTY n = BitVec.ofNat 32 (s.rail n).loop.st.dp
            else u.reg .RL_MDUTY n = s.reg .RL_MDUTY n) ∧
          u.rails = s.rails ∧ OnlyRegs s u [⟨.RL_MCTL, n⟩, ⟨.RL_MDUTY, n⟩, ⟨.HB_STATUS, 0⟩]) ∧
    (Taken s .RL_MCTL n w → s.tuning n = true →
      HostEnds (.modeRequestWrite n w) s fun u =>
        u.fld RL_MCTL.REQ n = s.fld RL_MCTL.REQ n ∧ (u.rail n).mode.tune = (s.rail n).mode.tune ∧
          (RL_MCTL.REQ.of w ≠ s.fld RL_MCTL.REQ n → u.flag RL_MCTL.CFGERR n = true)) ∧
    (Taken s .RL_FCTL n w →
      HostEnds (.facetForceWrite n w) s fun u =>
        u.fld RL_FCTL.FORCE n = RL_FCTL.FORCE.of w ∧ u.fld RL_FCTL.FSEL n = RL_FCTL.FSEL.of w ∧
          u.fld RL_FCTL.FDWELL n = RL_FCTL.FDWELL.of w ∧ u.fld RL_FCTL.FACET n = s.fld RL_FCTL.FACET n ∧ u.rails = s.rails ∧
          (∀ t < s.now + 2, u.fldAt RL_FCTL.FORCE n t = s.fldAt RL_FCTL.FORCE n t) ∧
          OnlyRegs s u [⟨.RL_FCTL, n⟩, ⟨.HB_STATUS, 0⟩]) ∧
    (let mayTune := s.rst n = stRegulate ∧ s.fld RL_MCTL.REQ n = 0 ∧ s.fld RL_MCTL.MODE n = 0 ∧ s.flag RL_PSET.VREST n = true ∧
        s.flag RL_MCTL.TSRC n = false ∧ s.follower n = false ∧ (s.rail n).mode.tune = none;
      Taken s .RL_ATCTL n (withCmd w 1) →
        (mayTune →
          HostEnds (.autotuneStart n w) s fun u =>
            u.fld RL_ATRES.CODE n = 1 ∧ (u.rail n).mode.tune = some { d0 := (s.rail n).loop.st.dp, fromTick := s.now + 2 } ∧
              OnlyRegs s u [⟨.RL_ATCTL, n⟩, ⟨.RL_ATRES, n⟩]) ∧
        (¬ mayTune → HostEnds (.autotuneStart n w) s fun u => u.fld RL_ATRES.CODE n = 3 ∧ u.rails = s.rails)) ∧
    (Taken s .RL_ATCTL n (withCmd w 2) →
      (∀ v, (s.rail n).mode.tune = some v →
        HostEnds (.autotuneAbandon n w) s fun u =>
          u.fld RL_ATRES.CODE n = 7 ∧ (u.rail n).mode.tune = none ∧ u.fld RL_MCTL.REQ n = 0 ∧ (u.rail n).mode.cc = false ∧
            (u.rail n).mode.preAt = some s.now ∧ bitAt (u.fld ALR_EVT.AT 0) n = true) ∧
      ((s.rail n).mode.tune = none →
        HostEnds (.autotuneAbandon n w) s fun u => u.fld RL_ATRES.CODE n = s.fld RL_ATRES.CODE n ∧ u.rails = s.rails))

/-- Rows ACQ, TB_SRC_WRITE, PAIR_OVERRIDE_WRITE, WEAR_WRITE, THRESHOLD_WRITE and ALERT_MASK_WRITE (R35, R36, R180, R190, R232, R326): SRC
1 to 0 enters holdover and 0 to 1 starts acquisition; SWAP and INV act only on an idle pair, from the next tick on and with the pair
both-off; a wear count is set; the thresholds go to the selected window and act from the next tick on; a new mask makes an acknowledged
alert unacknowledged. (Where the rules leave a reading open it is the model's: log entries 13, 39, 43.) -/
def Obligations.ElementWrites : Prop :=
  ∀ (s : State) (w : Word),
    (let x := setBits w 5 1 1;
      Taken s .TB_CTRL 0 x → s.flag TB_CTRL.SRC 0 = true → TB_CTRL.SRC.of w = 1 →
        (TB_CTRL.RELOCK.of w = 1 → s.flag TB_STATUS.HOLD 0 = true →
          HostEnds (.acq w) s fun u =>
            u.time = { s.time with soWritten := true, acquiring := true, edge := none, drift := 0, onRef := 0, misses := 0, relock := 0 } ∧
              OnlyRegs s u [⟨.TB_CTRL, 0⟩]) ∧
        (TB_CTRL.RELOCK.of w = 0 ∨ s.flag TB_STATUS.HOLD 0 = false →
          HostEnds (.acq w) s fun u => u.time = { s.time with soWritten := true } ∧ OnlyRegs s u [⟨.TB_CTRL, 0⟩])) ∧
    (Taken s .TB_CTRL 0 w → TB_CTRL.ACQ.of w = 0 →
      (s.flag TB_CTRL.SRC 0 = true → TB_CTRL.SRC.of w = 0 →
        HostEnds (.tbSrcWrite w) s fun u =>
          u.flag TB_STATUS.HOLD 0 = true ∧ u.flag TB_STATUS.HOLDIN 0 = true ∧ u.flag TB_STATUS.LOCK 0 = false ∧
            u.time.acquiring = false ∧ u.time.edge = none ∧ u.now = s.now ∧ u.T = s.T ∧
            u.fld TB_MCNT.COUNT 0 = s.fld TB_MCNT.COUNT 0) ∧
      (s.flag TB_CTRL.SRC 0 = false → TB_CTRL.SRC.of w = 1 →
        HostEnds (.tbSrcWrite w) s fun u =>
          u.time.acquiring = true ∧ u.time.edge = none ∧ u.reg .TB_STATUS 0 = s.reg .TB_STATUS 0 ∧ u.now = s.now ∧ u.T = s.T) ∧
      (TB_CTRL.SRC.of w = s.fld TB_CTRL.SRC 0 →
        HostEnds (.tbSrcWrite w) s fun u => u.time = { s.time with soWritten := true } ∧ OnlyRegs s u [⟨.TB_CTRL, 0⟩])) ∧
    (∀ p : Fin 48, Taken s .PH_OVR p w →
      (s.pairIdle p = true →
        HostEnds (.pairOverrideWrite p w) s fun u =>
          u.fld PH_OVR.INV p = PH_OVR.INV.of w ∧
            u.fld PH_OVR.SWAP p = (if p.val % 2 = 0 then PH_OVR.SWAP.of w else s.fld PH_OVR.SWAP p) ∧
            u.fldNext PH_OVR.INV p = s.fldNext PH_OVR.INV p ∧ u.fldNext PH_OVR.SWAP p = s.fldNext PH_OVR.SWAP p ∧
            (u.fld PH_OVR.INV p ≠ s.fld PH_OVR.INV p ∨ u.fld PH_OVR.SWAP p ≠ s.fld PH_OVR.SWAP p →
              ∀ q : Fin 48, q.val / 2 = p.val / 2 → u.lastOut q = .off) ∧
            OnlyRegs s u [⟨.PH_OVR, p⟩, ⟨.HB_STATUS, 0⟩]) ∧
      (s.pairIdle p = false →
        PH_OVR.INV.of w ≠ s.fld PH_OVR.INV p ∨ (p.val % 2 = 0 ∧ PH_OVR.SWAP.of w ≠ s.fld PH_OVR.SWAP p) →
        HostEnds (.pairOverrideWrite p w) s fun u =>
          u.fld PH_OVR.INV p = s.fld PH_OVR.INV p ∧ u.fld PH_OVR.SWAP p = s.fld PH_OVR.SWAP p ∧ u.flag PH_OVR.OVERR p = true)) ∧
    (∀ p : Fin 48, Taken s .PH_WEAR p w →
      HostEnds (.wearWrite p w) s fun u =>
        (u.phase p).wear = w.toNat * 4096 ∧ (∀ q : Fin 48, q ≠ p → u.phase q = s.phase q) ∧ OnlyRegs s u [⟨.PH_WEAR, p⟩]) ∧
    (let x := s.fld CMP_SEL.WIN 0;
      Taken s .CMP_THR 0 w →
        HostEnds (.thresholdWrite w) s fun u =>
          u.fld CMP_THR.UPPER x = CMP_THR.UPPER.of w ∧ u.fld CMP_THR.LOWER x = CMP_THR.LOWER.of w ∧
            u.fldNext CMP_THR.UPPER x = s.fldNext CMP_THR.UPPER x ∧ u.fldNext CMP_THR.LOWER x = s.fldNext CMP_THR.LOWER x ∧
            u = { s with regs := u.regs, hot := u.hot, bus := u.bus, wlog := u.wlog } ∧
            OnlyRegs s u [⟨.CMP_THR, x⟩]) ∧
    (Taken s .ALR_MASK 0 w →
      HostEnds (.alertMaskWrite w) s fun u =>
        u.fld ALR_MASK.MASK 0 = ALR_MASK.MASK.of w ∧ u.flag HB_STATUS.ACKD 0 = false ∧ OnlyWrite s u ∧
          OnlyRegs s u [⟨.ALR_MASK, 0⟩, ⟨.HB_STATUS, 0⟩])

/-- Rows DEVICE RESET, ENTER DEEP STANDBY, COUNTER_LATCH, UNBIND and LINK_ENABLE_WRITE (R286, R289, R290, R392, R417, R418): a device
reset waits for the next START or STOP; deep standby is asked for where R418 permits it; the selected counter is latched; an unbound link
goes to SEARCH with its identity cleared; EN moves the link between OFF and SEARCH while the rail is OFF. (Where the rules leave a reading
open it is the model's: log entries 16, 21, 41.) -/
def Obligations.GlobalCommands : Prop :=
  ∀ (s : State) (w : Word),
    (Taken s .GLB_CTRL 0 (withCmd w 1) →
      HostEnds (.deviceReset w) s fun u =>
        u.power = { s.power with resetReq := true } ∧ OnlyRegs s u [] ∧ u.rails = s.rails ∧ u.flash = s.flash ∧ u.now = s.now) ∧
    (Taken s .GLB_CTRL 0 (withCmd w 2) →
      (s.standbyOk = true →
        HostEnds (.enterDeepStandby w) s fun u => u.power = { s.power with standbyReq := true } ∧ OnlyRegs s u []) ∧
      (s.standbyOk = false →
        HostEnds (.enterDeepStandby w) s fun u =>
          u.flag GLB_STATUS.DSBYERR 0 = true ∧ u.power = s.power ∧ OnlyRegs s u [⟨.GLB_STATUS, 0⟩])) ∧
    (Taken s .LC_SEL 0 w →
      HostEnds (.counterLatch w) s fun u =>
        let i := LC_SEL.IDX.of w
        let v := if 55 ≤ i ∨ (7 ≤ i ∧ s.absentRail ((i - 7) % 12) = true) then 0 else keptNat u.flash.counters i
        u.fld LC_VAL_HI.VALUE 0 = v / 2 ^ 32 % 2 ^ 32 ∧ u.fld LC_VAL_LO.VALUE 0 = v % 2 ^ 32 ∧ u.fld LC_SEL.IDX 0 = i ∧
          (i < 7 → keptNat u.flash.counters i = keptNat s.flash.counters i) ∧
          OnlyRegs s u [⟨.LC_SEL, 0⟩, ⟨.LC_VAL_HI, 0⟩, ⟨.LC_VAL_LO, 0⟩]) ∧
    (∀ n : Fin 12, Taken s .LK_CTRL n (withCmd w 1) → LK_CTRL.EN.of w = s.fld LK_CTRL.EN n →
      (s.lst n = lkBound →
        HostEnds (.unbind n w) s fun u =>
          u.lst n = lkSearch ∧ u.reg .LK_ID_HI n = 0 ∧ u.reg .LK_ID_LO n = 0 ∧ u.reg .LK_PINFO n = 0 ∧ u.reg .LK_PTEMP n = 0 ∧
            u.flag LK_STATUS.CHG n = false ∧ u.flag LK_STATUS.REV n = false ∧ u.flag LK_STATUS.TAGE n = true ∧
            (u.link n).accepted = none ∧ (u.link n).limit = 0 ∧ (u.link n).out = none ∧ (u.link n).queue = [] ∧
            (u.link n).report = none ∧ ∀ m : Fin 12, m ≠ n → u.link m = s.link m) ∧
      (s.lst n ≠ lkBound →
        HostEnds (.unbind n w) s fun u =>
          u.link n = { (s.linkBegun n s.now).link n with params := none } ∧ (∀ m : Fin 12, m ≠ n → u.link m = s.link m) ∧
            u.lst n = s.lst n)) ∧
    ∀ n : Fin 12, Taken s .LK_CTRL n w → LK_CTRL.CMD.of w = 0 →
      (s.rst n = stOff →
        (s.flag LK_CTRL.EN n = false → LK_CTRL.EN.of w = 1 → s.lst n = lkOff →
          HostEnds (.linkEnableWrite n w) s fun u =>
            u.lst n = lkSearch ∧ u.flag LK_CTRL.EN n = true ∧ u.fld LK_CTRL.WDOG n = LK_CTRL.WDOG.of w) ∧
        (s.flag LK_CTRL.EN n = true → LK_CTRL.EN.of w = 0 →
          HostEnds (.linkEnableWrite n w) s fun u => u.lst n = lkOff ∧ u.flag LK_CTRL.EN n = false)) ∧
      (s.rst n ≠ stOff → LK_CTRL.EN.of w ≠ s.fld LK_CTRL.EN n →
        HostEnds (.linkEnableWrite n w) s fun u =>
          u.flag RL_STATUS.WERR n = true ∧ u.fld LK_CTRL.EN n = s.fld LK_CTRL.EN n ∧ u.lst n = s.lst n ∧
            u.link n = { (s.linkBegun n s.now).link n with params := none } ∧ ∀ m : Fin 12, m ≠ n → u.link m = s.link m)

/-- Rows TIMER_COUNT_WRITE, TIMER_TOP_WRITE, COMPARE_VALUE_WRITE, CHANNEL_MODE_WRITE, TIMER_STEP, TIMER_CAPTURE and
ECONOMISER_DELAY_EXPIRY (R360 to R364, R366). A count written restarts the prescaler, a TOP waits for the wrap, a compare value is used
from the first step after its write, and a mode sets OUT to OINIT. A step counts up or wraps and sets the EVF bit of every match channel
that the new count meets, and time then stands behind its tick; a slave in reset mode is reset at its master's event. An edge of a pulse
of 20 ns or more is seen 2 ticks after it reaches its pin, and a selected edge captures the count as it is seen, the one before a count
write of that tick. (Where the rules leave a reading open it is the model's: log entry 46.) -/
def Obligations.TimersAndChannels : Prop :=
  ∀ (s : State) (w : Word), let y := s.keyOf .TM_CHCFG 0; let ky := railOf (y / 4)
    (∀ k : Fin 12, Taken s .TM_CNT k w →
      HostEnds (.timerCountWrite k w) s fun u =>
        u.fld TM_CNT.COUNT k = w.toNat ∧ (u.timer k).from_ = s.now ∧ (u.timer k).pre = 0 ∧
          (∀ j : Fin 12, j ≠ k → u.timer j = s.timer j) ∧ OnlyRegs s u [⟨.TM_CNT, k⟩]) ∧
    (∀ k : Fin 12, Taken s .TM_TOP k w →
      HostEnds (.timerTopWrite k w) s fun u =>
        u.fld TM_TOP.TOP k = w.toNat ∧ u.flag TM_STAT.TOPPEND k = true ∧ u.timers = s.timers ∧
          OnlyRegs s u [⟨.TM_TOP, k⟩, ⟨.TM_STAT, k⟩]) ∧
    (Taken s .TM_CHVAL 0 w →
      HostEnds (.compareValueWrite w) s fun u =>
        u.fld TM_CHVAL.VALUE y = w.toNat ∧ OnlyRegs s u [⟨.TM_CHVAL, y⟩] ∧
          ((vget (s.timer ky).chans (y % 4)).at_ ≠ some s.now →
            (u.timer ky).chans[chanOf (y % 4)] = { old := s.fld TM_CHVAL.VALUE y, at_ := some s.now })) ∧
    (Taken s .TM_CHCFG 0 w → s.fld TM_CHSEL.TIMER 0 < 12 →
      HostEnds (.channelModeWrite w) s fun u =>
        u.fld TM_CHCFG.MODE y = TM_CHCFG.MODE.of w ∧ u.fld TM_CHCFG.OINIT y = TM_CHCFG.OINIT.of w ∧
          u.tmOut ky (y % 4) = (TM_CHCFG.OINIT.of w == 1) ∧ 
          OnlyRegs s u (⟨.TM_CHCFG, y⟩ :: ⟨.TM_STAT, ky⟩ :: ⟨.FAN_DERATE, 0⟩ :: (List.range 4).map fun f => ⟨.FAN_STAT, f⟩)) ∧
    (∀ k : Fin 12, (s.timer k).slaveAt = [] → s.timerRuns k = true → s.fld TM_CTRL.SLV k ≠ 3 → s.pins.tioQ = [] →
      let d := s.stepDue k
      Ends (.timerStep k) s fun u =>
        u.now = max s.now (d + 1) ∧
          u.fld TM_CNT.COUNT k = (if s.fld TM_CNT.COUNT k = (s.timer k).top then 0 else (s.fld TM_CNT.COUNT k + 1) % 2 ^ 32) ∧
          (s.fld TM_CNT.COUNT k = (s.timer k).top →
            u.flag TM_STAT.WRAPF k = true ∧ u.flag TM_STAT.TOPPEND k = false ∧ (u.timer k).top = s.fld TM_TOP.TOP k) ∧
          ∀ c : Fin 4, s.chMode k c = 1 →
            (if (s.timer k).chans[c].at_.any (fun e => decide (d ≤ e)) then (s.timer k).chans[c].old
              else s.fld TM_CHVAL.VALUE (chanKey k c)) =
              u.fld TM_CNT.COUNT k → bitAt (u.fld TM_STAT.EVF k) c = true) ∧
    (∀ (k : Fin 12) (e : Nat) (q : List Nat), (s.timer k).slaveAt = e :: q → e ≤ s.stepDue k → s.fld TM_CTRL.SLV k = 2 →
      s.timerAwake k = true → s.power.mode = .running → s.pins.tioQ = [] →
      Ends (.timerStep k) s fun u => u.now = max s.now (e + 1) ∧ u.fld TM_CNT.COUNT k = 0) ∧
    (∀ (i : Fin 8) (x : TioEdge), s.power.mode = .running →
      let t := s.seenAll
      (4 ≤ x.held → bitAt t.pins.tioSeen i ≠ x.rising →
        Ends (.timerCapture i x) s fun u =>
          u = { t with pins := u.pins } ∧ u.pins.tioQ = t.pins.tioQ ++ [(t.now + 2, i, x.rising)] ∧
            bitAt u.pins.tioIn i = x.rising ∧ bitAt u.pins.tioSeen i = x.rising) ∧
      (x.held < 4 ∨ bitAt t.pins.tioSeen i = x.rising →
        Ends (.timerCapture i x) s fun u =>
          bitAt u.pins.tioIn i = x.rising ∧ u = { t with pins := { t.pins with tioIn := u.pins.tioIn } }) ∧
      (∀ (a : Nat) (j : Fin 8) (rising : Bool), s.pins.tioQ = [(a, j, rising)] → a ≤ s.now →
        let k := railOf (s.fld TIO_AUX.SEL j); let c := s.active.tio[j].chan % 4
        let edge := s.fld TM_CHCFG.EDGE (chanKey k c)
        s.fld TIO_AUX.FUNC j = 2 → s.capturePin k c = some j → s.chMode k c = 2 → s.power.halted = false →
        ¬ (edge = 0 ∧ rising = false) → ¬ (edge = 1 ∧ rising = true) →
        Ends (.timerCapture i x) s fun u =>
          u.fld TM_CHVAL.VALUE (chanKey k c) = (match (s.timer k).wrote with
              | some e => if e.1 = a then e.2 else s.fld TM_CNT.COUNT k
              | none => s.fld TM_CNT.COUNT k) ∧
            bitAt (u.fld TM_STAT.EVF k) c = true ∧
            (bitAt (s.fld TM_STAT.EVF k) c = true → bitAt (u.fld TM_STAT.OVRF k) c = true))) ∧
    ∀ (i : Fin 8) (t : Nat), (s.rail (railOf (s.fld TIO_AUX.SEL i))).life.contAt = some t → s.power.mode = .running →
      s.fld TIO_AUX.FUNC i = 3 → s.flag TIO_AUX.ECO i = true →
      Lands (.economiserDelayExpiry i) s
        ((s.advance (t + max 1 (s.fld TIO_AUX.ECODLY i) * ms)).modPins fun p => { p with ecoOn := p.ecoOn.set i true })

/-- Rows ACTIVATE of a swap, ACTIVATE of firmware, ACTIVATE and ACTRES (R357, R358): an activation is issued at least 64 bells ahead, sent
four times, and run here as its receivers run it; a member runs each once; a result marks its sender's bit. (Where the rules leave a
reading open it is the model's: log entry 44.) -/
def Obligations.Activations : Prop :=
  ∀ (s : State) (w : Word),
    let e := s.fld LY_ACTE_HI.EPOCH_H 0 * 2 ^ 32 + s.fld LY_ACTE_LO.EPOCH_L 0
    let id := (s.lan.nextAct + 1) % 256
    (∀ firmware : Bool, let kind := if firmware then 2 else 1
      let cmd : Instr := if firmware then .activateFirmware w else .activateSwap w
      let a : ActX := { src := s.me, actid := id, kind := kind, epoch := e };
      Taken s .LY_ACT 0 (withCmd w kind) →
        (e < s.E + 64 → HostEnds cmd s fun u => u.flag LY_EVENT.ACTERR 0 = true ∧ u.lan = s.lan ∧ OnlyRegs s u [⟨.LY_EVENT, 0⟩]) ∧
        (s.E + 64 ≤ e → s.lan.acts.contains (s.me, id) = false →
          HostEnds cmd s fun u =>
            u.lan.nextAct = id ∧ u.lan.latest = some a ∧ u.fld LY_ACT.LASTID 0 = id ∧
              u.lan.repeats = s.lan.repeats ++
                (List.range 4).map (fun k => (s.now + 64 * (if s.lyMode = lyWrap then 480 else 200) * k, a)) ∧
              (firmware = true →
                u.fld LY_ACT.RESULT 0 = s.actRequest e ∧
                  (s.actRequest e = 0 → u.flash.pendAct = some (e, true, some (s.me, id))) ∧
                  (s.actRequest e ≠ 0 → u.flash = s.flash ∧ u.flag SV_EVENT.REFUSED 0 = true ∧ u.fld FU_STATUS.CODE 0 = s.actRequest e)) ∧
              (firmware = false →
                (u.fld RG_STATUS.STATE 0 = rgPending ∧ u.rig.swap = some { epoch := e, act := some a } ∧ u.fld LY_ACT.RESULT 0 = 0) ∨
                  (u.rig = s.rig ∧ u.flag RG_EVENT.REFUSED 0 = true)))) ∧
    (∀ src actid kind epoch : Nat, s.power.mode = .running → s.lyUp = true →
      let a : ActX := { src := src, actid := actid, kind := kind, epoch := epoch };
      (s.lan.acts.contains (src, actid) = true → Lands (.activate src actid kind epoch) s s) ∧
      (s.lan.acts.contains (src, actid) = false →
        Ends (.activate src actid kind epoch) s fun u =>
          u.lan.acts = ((src, actid) :: s.lan.acts).take 32 ∧ u.lan.latest = some a ∧ u.fld LY_ACT.LASTID 0 = actid % 256 ∧
            (kind = 2 → u.fld LY_ACT.RESULT 0 = s.actRequest epoch ∧
              (s.actRequest epoch = 0 → u.flash.pendAct = some (epoch, true, some (src, actid))) ∧
              (s.actRequest epoch ≠ 0 → u.flash = s.flash ∧ u.flag SV_EVENT.REFUSED 0 = true ∧
                u.fld FU_STATUS.CODE 0 = s.actRequest epoch)) ∧
            (kind = 1 →
              (u.rig.swap = some { epoch := epoch, act := some a } ∧ u.fld LY_ACT.RESULT 0 = 0) ∨
                (u.rig = s.rig ∧ u.flag RG_EVENT.REFUSED 0 = true)))) ∧
    ∀ (src kind result : Nat) (a : ActX), s.power.mode = .running → s.lyUp = true → s.lan.latest = some a → a.kind = kind → src < 64 →
      Ends (.actres src a.actid kind result) s fun u =>
        u.flag LY_EVENT.ACTRES 0 = true ∧ u.lan = s.lan ∧
          (result = 1 → bitAt (u.fld LY_ACTOK_HI.MAP 0 * 2 ^ 32 + u.fld LY_ACTOK_LO.MAP 0) src = true) ∧
          (2 ≤ result → bitAt (u.fld LY_ACTNO_HI.MAP 0 * 2 ^ 32 + u.fld LY_ACTNO_LO.MAP 0) src = true) ∧
          (result = 0 → OnlyRegs s u [⟨.LY_EVENT, 0⟩]) ∧
          OnlyRegs s u [⟨.LY_EVENT, 0⟩, ⟨.LY_ACTOK_HI, 0⟩, ⟨.LY_ACTOK_LO, 0⟩, ⟨.LY_ACTNO_HI, 0⟩, ⟨.LY_ACTNO_LO, 0⟩]

/-- Rows IDENT, STATUS and TEMP (R214, R282, R285, R287, R288, R291, R292, R299, R300): an IDENT binds, refreshes or rebinds the pack, a
STATUS updates VOC and PFLAGS and is answered with the slot report, a TEMP stores the report; each new frame is answered by an ACK with
its result: DONE, FORMAT, UNBOUND for a STATUS or TEMP in SEARCH, and SEQERR for the SEQ of the accepted frame with other content. What a
frame that is not received leaves behind is its light, and what that light holds back. A VOC wider than its register is a free value.
(Where the rules leave a reading open it is the model's: log entries 7, 41.) -/
def Obligations.PackReports : Prop :=
  ∀ (s : State) (n : Fin 12) (seq : Fin 16) (p : List Byte) (li : LightIn), s.power.mode = .running →
    Unheard (.ident n seq ⟨p, li⟩) s n p.length li ∧ Unheard (.status n seq ⟨p, li⟩) s n p.length li ∧
      Unheard (.temp n seq ⟨p, li⟩) s n p.length li ∧
    ∀ x : State, Heard s n p.length li x →
    (∀ (e : Byte × Instr) (a : Nat × Nat × Nat),
      e ∈ [((1 : Byte), Instr.ident n seq ⟨p, li⟩), (2, .status n seq ⟨p, li⟩), (3, .temp n seq ⟨p, li⟩)] →
      (x.link n).accepted = some a → a.1 = seq.val → a.2.1 ≠ crc16 (linkBody 0 e.1.toNat seq.val p) →
      Ends e.2 s fun u =>
        Answered x u n seq ([5, e.1] ++ if e.1 = 2 then x.slotReport n else []) ∧ u.regs = x.regs ∧ u.rails = x.rails ∧
          (u.link n).accepted = (x.link n).accepted) ∧
    ((∀ a, (x.link n).accepted = some a → a.1 ≠ seq.val) →
      let hi := BitVec.ofNat 32 (payNat p 0 4)
      let lo := BitVec.ofNat 32 (payNat p 4 4)
      let good := payNat p 10 1 = 1 ∧ 1 ≤ payNat p 8 1 ∧ payNat p 8 1 ≤ 24 ∧ payNat p 14 2 ≠ 0
      let voc := payNat p 0 4
      let t := fun i => signedOf 16 (payNat p i 2);
      (p.length = 16 → x.lst n = lkSearch ∨ x.lst n = lkBound →
        (good →
          Ends (.ident n seq ⟨p, li⟩) s fun u =>
            u.lst n = lkBound ∧ u.reg .LK_ID_HI n = hi ∧ u.reg .LK_ID_LO n = lo ∧ u.fld LK_PINFO.CELLS n = payNat p 8 1 ∧
              u.fld LK_PINFO.CHEM n = payNat p 9 1 ∧ u.fld LK_PINFO.VMAX n = payNat p 14 2 ∧ u.fld LK_STATUS.LASTSEQ n = seq.val ∧
              Answered x u n seq [0, 1] ∧ (u.link n).heardAt = s.now ∧
              (x.lst n = lkSearch → u.flag LK_EVENT.BOUND n = true ∧ (u.link n).limit = 0 ∧ (u.link n).queue = []) ∧
              (x.lst n = lkBound → x.reg .LK_ID_HI n = hi → x.reg .LK_ID_LO n = lo →
                u.flag LK_STATUS.CHG n = x.flag LK_STATUS.CHG n ∧ u.flag LK_STATUS.REV n = x.flag LK_STATUS.REV n) ∧
              (x.lst n = lkBound → x.reg .LK_ID_HI n ≠ hi ∨ x.reg .LK_ID_LO n ≠ lo →
                u.flag LK_EVENT.REBIND n = true ∧ u.flag LK_STATUS.CHG n = false ∧ u.flag LK_STATUS.REV n = false)) ∧
        (¬ good →
          Ends (.ident n seq ⟨p, li⟩) s fun u =>
            u.lst n = x.lst n ∧ u.reg .LK_ID_HI n = x.reg .LK_ID_HI n ∧ u.reg .LK_ID_LO n = x.reg .LK_ID_LO n ∧
              Answered x u n seq [3, 1])) ∧
      (p.length = 8 → x.lst n = lkBound →
        Ends (.status n seq ⟨p, li⟩) s fun u =>
          u.fld LK_STATUS.PFLAGS n = payNat p 6 2 % 16 ∧ Answered x u n seq ([0, 2] ++ u.slotReport n) ∧
            (bitAt (payNat p 6 2) 0 = true ∨ bitAt (payNat p 6 2) 2 = true →
              u.flag LK_STATUS.CHG n = false ∧ u.flag LK_STATUS.REV n = false) ∧
            (x.flag RL_MCTL.TSRC n = true → 0 < voc → x.rst n ≠ stPrematch →
              u.fld RL_VOC.VOC n = (if voc < 2 ^ 20 then voc else (Config.freeValue 20 x.frees).toNat) ∧
                u.flag RL_VOC.VALID n = true) ∧
            (x.flag RL_MCTL.TSRC n = false → 0 < voc → u.flag RL_MCTL.TWERR n = true) ∧
            (x.flag RL_MCTL.TSRC n = false ∨ voc = 0 → u.fld RL_VOC.VOC n = x.fld RL_VOC.VOC n)) ∧
      (p.length = 8 → x.lst n = lkSearch →
        Ends (.status n seq ⟨p, li⟩) s fun u =>
          Answered x u n seq ([4, 2] ++ x.slotReport n) ∧ u.regs = x.regs ∧ (u.link n).accepted = (x.link n).accepted) ∧
      (p.length = 6 → x.lst n = lkSearch →
        Ends (.temp n seq ⟨p, li⟩) s fun u =>
          Answered x u n seq [4, 3] ∧ u.regs = x.regs ∧ (u.link n).report = (x.link n).report ∧
            (u.link n).accepted = (x.link n).accepted) ∧
      (p.length = 6 → x.lst n = lkBound →
        (t 4 ≤ t 0 → t 0 ≤ t 2 →
          Ends (.temp n seq ⟨p, li⟩) s fun u =>
            (u.link n).report = some { tavg := t 0, tmax := t 2, tmin := t 4, at_ := s.now } ∧ u.fldS LK_PTEMP.TMAX n = t 2 ∧
              u.fldS LK_PTEMP.TMIN n = t 4 ∧ u.flag LK_STATUS.TAGE n = false ∧ Answered x u n seq [0, 3] ∧
              OnlyRegs x u [⟨.LK_PTEMP, n⟩, ⟨.LK_STATUS, n⟩]) ∧
        (t 0 < t 4 ∨ t 2 < t 0 →
          Ends (.temp n seq ⟨p, li⟩) s fun u =>
            (u.link n).report = (x.link n).report ∧ Answered x u n seq [3, 3] ∧ OnlyRegs x u [⟨.LK_STATUS, n⟩])))

/-- Rows VTARGET, ILIMIT, CHGEN, REVEN and LINK_FORMAT_FRAME (R157, R285, R287, R291, R292, R296 to R298): each new frame in BOUND is
executed or answered with its refusal: HOSTCTL with TSRC 0, RANGE for a target outside its limits, STATE for a reverse enable that the
rigging forbids, FORMAT for a bad value, type or length; in SEARCH the answer is UNBOUND, and for the SEQ of the accepted frame with other
content SEQERR. While an auto-tune runs no target changes and CFGERR is set. A repeat of the accepted frame is answered as before and not
executed. (Where the rules leave a reading open it is the model's: log entries 7, 41.) -/
def Obligations.PackCommands : Prop :=
  ∀ (s : State) (n : Fin 12) (seq : Fin 16) (p : List Byte) (li : LightIn), s.power.mode = .running →
    (∀ cmd ∈ [Instr.vtarget n seq ⟨p, li⟩, .ilimit n seq ⟨p, li⟩, .chgen n seq ⟨p, li⟩, .reven n seq ⟨p, li⟩],
      Unheard cmd s n p.length li) ∧
    (∀ type : Fin 16, Unheard (.linkFormatFrame n type seq ⟨p, li⟩) s n p.length li) ∧
    ∀ x : State, Heard s n p.length li x →
    let ack := fun (u : State) (type result : Byte) => Answered x u n seq [result, type]
    let v := payNat p 0 4
    let on := payNat p 0 1
    let inRange := x.fld RL_UV.MV n < v ∧ v < x.fld RL_OV.MV n ∧ v ≤ x.fld LK_PINFO.VMAX n * 10 ∧ v ≤ 1048575;
    let four := [((4 : Byte), 4, Instr.vtarget n seq ⟨p, li⟩), (5, 2, .ilimit n seq ⟨p, li⟩), (6, 1, .chgen n seq ⟨p, li⟩),
      (7, 1, .reven n seq ⟨p, li⟩)]
    ((∀ e ∈ four, (∀ a, (x.link n).accepted = some a → a.1 ≠ seq.val) → p.length = e.2.1 → x.lst n = lkSearch →
        Ends e.2.2 s fun u => ack u e.1 4 ∧ u.regs = x.regs ∧ u.rails = x.rails ∧ (u.link n).accepted = (x.link n).accepted) ∧
      (∀ (e : Byte × Nat × Instr) (a : Nat × Nat × Nat), e ∈ four → (x.link n).accepted = some a → a.1 = seq.val →
        a.2.1 ≠ crc16 (linkBody 0 e.1.toNat seq.val p) →
        Ends e.2.2 s fun u => ack u e.1 5 ∧ u.regs = x.regs ∧ u.rails = x.rails ∧ (u.link n).accepted = (x.link n).accepted) ∧
      ((∀ a, (x.link n).accepted = some a → a.1 ≠ seq.val) → x.lst n = lkBound →
        (p.length = 4 →
          (x.flag RL_MCTL.TSRC n = false → Ends (.vtarget n seq ⟨p, li⟩) s fun u => ack u 4 6 ∧ u.reg .RL_VTGT n = x.reg .RL_VTGT n) ∧
          (x.flag RL_MCTL.TSRC n = true → inRange →
            Ends (.vtarget n seq ⟨p, li⟩) s fun u =>
              ack u 4 0 ∧ (x.tuning n = false → u.fld RL_VTGT.VTGT n = v) ∧
                (x.tuning n = true → u.flag RL_MCTL.CFGERR n = true ∧ u.reg .RL_VTGT n = x.reg .RL_VTGT n)) ∧
          (x.flag RL_MCTL.TSRC n = true → ¬ inRange →
            Ends (.vtarget n seq ⟨p, li⟩) s fun u => ack u 4 1 ∧ u.reg .RL_VTGT n = x.reg .RL_VTGT n)) ∧
        (p.length = 2 → let l := signedOf 16 (payNat p 0 2)
          (x.flag RL_MCTL.TSRC n = false →
            Ends (.ilimit n seq ⟨p, li⟩) s fun u =>
              ack u 5 6 ∧ u.reg .RL_ITGT n = x.reg .RL_ITGT n ∧ (u.link n).limit = (x.link n).limit) ∧
          (x.flag RL_MCTL.TSRC n = true →
            Ends (.ilimit n seq ⟨p, li⟩) s fun u =>
              ack u 5 0 ∧ (u.link n).limit = l ∧
                (x.tuning n = false → u.fldS RL_ITGT.ITGT n =
                  (if (0 < l ∧ x.flag LK_STATUS.CHG n = true) ∨ (l < 0 ∧ x.flag LK_STATUS.REV n = true) then l else 0)) ∧
                (x.tuning n = true → u.flag RL_MCTL.CFGERR n = true ∧ u.reg .RL_ITGT n = x.reg .RL_ITGT n))) ∧
        (p.length = 1 →
          (on = 1 →
            Ends (.chgen n seq ⟨p, li⟩) s fun u =>
              ack u 6 0 ∧ u.flag LK_STATUS.CHG n = true ∧ u.flag LK_STATUS.WDRUN n = true ∧ u.rst n = x.rst n ∧
                (u.rail n).life.stopReq = (x.rail n).life.stopReq) ∧
          (on = 0 →
            Ends (.chgen n seq ⟨p, li⟩) s fun u =>
              ack u 6 0 ∧ u.flag LK_STATUS.CHG n = false ∧ u.flag LK_STATUS.REV n = x.flag LK_STATUS.REV n ∧
                (x.flag LK_STATUS.CHG n = true → x.flag LK_STATUS.REV n = false → x.rst n = stRegulate → x.follower n = false →
                  (x.rail n).life.stopReq = none → (u.rail n).life.stopReq = some s.now ∧ u.flag LK_STATUS.WDRUN n = false)) ∧
          (1 < on → Ends (.chgen n seq ⟨p, li⟩) s fun u => ack u 6 3 ∧ u.rails = x.rails) ∧
          (1 < on → Ends (.reven n seq ⟨p, li⟩) s fun u => ack u 7 3 ∧ u.rails = x.rails) ∧
          (on = 1 → s.active.loop[n].revallow = true →
            Ends (.reven n seq ⟨p, li⟩) s fun u => ack u 7 0 ∧ u.flag LK_STATUS.REV n = true ∧ u.flag LK_STATUS.WDRUN n = true) ∧
          (on = 1 → s.active.loop[n].revallow = false →
            Ends (.reven n seq ⟨p, li⟩) s fun u => ack u 7 2 ∧ u.flag LK_STATUS.REV n = x.flag LK_STATUS.REV n ∧ u.rails = x.rails) ∧
          (on = 0 →
            Ends (.reven n seq ⟨p, li⟩) s fun u =>
              ack u 7 0 ∧ u.flag LK_STATUS.REV n = false ∧ u.flag LK_STATUS.CHG n = x.flag LK_STATUS.CHG n))) ∧
      (∀ type : Fin 16, (∀ a, (x.link n).accepted = some a → a.1 ≠ seq.val) → x.lst n ≠ lkOff →
        Ends (.linkFormatFrame n type seq ⟨p, li⟩) s fun u =>
          Answered x u n seq ([3, BitVec.ofNat 8 type.val] ++ if type.val = 2 then u.slotReport n else []) ∧
            (u.link n).accepted = some (seq.val, crc16 (linkBody 0 type.val seq.val p), 3) ∧ u.rails = x.rails ∧
            OnlyRegs x u [⟨.LK_STATUS, n⟩]) ∧
      ∀ (res : Nat) (e : Byte × Nat × Instr), e ∈ four →
        (x.link n).accepted = some (seq.val, crc16 (linkBody 0 e.1.toNat seq.val p), res) →
        Ends e.2.2 s fun u =>
          ack u e.1 (BitVec.ofNat 8 res) ∧ u.rails = x.rails ∧ OnlyRegs x u [⟨.LK_ERRC, n⟩] ∧
            u.fld LK_ERRC.DUPCNT n = satNat 255 (x.fld LK_ERRC.DUPCNT n + 1))

/-- Rows NOTIFY, NOTIFY_RETRY, NOTIFY_ACK, BEACON, PACK_ABSENCE, LINK_WATCHDOG_EXPIRY, PACK_TEMP_REPORT_STALE and LINK_FRAME_DISCARD
(R279, R282, R285, R287, R289, R294, R300, R301): one event at a time is sent, as soon as the line discipline allows, again up to RETRY
times, and dropped then or at its acknowledgement within the window; a beacon leaves at its grid or as soon after it as the discipline
allows; an absent pack loses its binding and its enables; a watchdog expiry, of which a frame of the same tick would have been heard
first, withdraws the enables; a stale report shows in TAGE; a discarded frame, or stray light, shows its light and holds back what the
slot was to send, and a frame counts by its reason. The SEQ of a beacon is a free value. (Where the rules leave a reading open it is the
model's: log entries 7, 41.) -/
def Obligations.LinkEvents : Prop :=
  ∀ (s : State) (n : Fin 12), s.power.mode = .running →
    let sends := fun (t u : State) (e : NoteEvent) (q tries : Nat) =>
      let close := t.now + frameTicks 4 + 400 * us
      u.now = t.now ∧ (u.link n).tx = some (t.now, t.now + frameTicks 4) ∧
        (u.link n).sent = linkBytes 1 9 q [BitVec.ofNat 8 e.event, BitVec.ofNat 8 e.cause, BitVec.ofNat 8 e.state, 0] ∧
        (u.link n).out = some { ev := e, seq := q, tries := tries, close := close,
                                due := if tries < t.fld LK_CTRL.RETRY n then close + 5 * ms + n.val * 250 * us else close };
    (s.lst n ≠ lkBound ∨ (s.link n).queue = [] ∨ (s.link n).out ≠ none → Lands (.notify n) s s) ∧
    (∀ (e : NoteEvent) (r : List NoteEvent), s.lst n = lkBound → (s.link n).queue = e :: r → (s.link n).out = none →
      let t := s.lineTake n
      Ends (.notify n) s fun u =>
        sends t u e (s.link n).nextSeq 0 ∧ u.now = s.lineFree n ∧ (u.link n).queue = r ∧
          (u.link n).nextSeq = ((s.link n).nextSeq + 1) % 16 ∧ u.fld LK_STATUS.SLOTSEQ n = (s.link n).nextSeq % 16 ∧
          OnlyRegs t u [⟨.LK_STATUS, n⟩]) ∧
    ((s.link n).out = none → Lands (.notifyRetry n) s s) ∧
    (∀ o, (s.link n).out = some o →
      let t := (s.advance o.due).lineTake n
      (o.tries < s.linkRetry n →
        Ends (.notifyRetry n) s fun u => sends t u o.ev o.seq (o.tries + 1) ∧ o.due ≤ u.now ∧ u.regs = t.regs) ∧
      (s.linkRetry n ≤ o.tries →
        Lands (.notifyRetry n) s (((s.advance o.due).modLink n fun l => { l with out := none }).raise LK_EVENT.NOTFAIL n))) ∧
    (∀ (seq : Fin 16) (p : List Byte) (li : LightIn), let t := ((s.atEnd n p.length).linkTaken n li).linkHeard n
      Unheard (.notifyAck n seq ⟨p, li⟩) s n p.length li ∧
      (s.lst n ≠ lkOff → (s.atEnd n p.length).deaf n (frameTicks p.length) = false → spoiling li = false →
        (∀ o, (t.link n).out = some o →
          let closes := t.svRuns = true ∧ p.length = 2 ∧ o.seq = seq.val ∧ t.now ≤ o.close + 6 * 16 * us
          (closes → Lands (.notifyAck n seq ⟨p, li⟩) s (t.modLink n fun l => { l with out := none })) ∧
          (¬ closes → Lands (.notifyAck n seq ⟨p, li⟩) s t)) ∧
        ((t.link n).out = none → Lands (.notifyAck n seq ⟨p, li⟩) s t))) ∧
    (s.lst n ≠ lkSearch → Lands (.beacon n) s s) ∧
    (s.lst n = lkSearch →
      let grid := s.nextGrid (match (s.link n).beaconAt with
        | none => s.now
        | some e => if s.E = e then s.now + 1 else s.now) (2441 * 4096) 0
      let t := ((s.advance grid).modLink n fun l => { l with beaconAt := some (s.advance grid).E }).lineTake n
      ((grid : Int) + s.skew) % (2441 * 4096) = 0 ∧
      Ends (.beacon n) s fun u =>
        u.now = t.now ∧ grid ≤ u.now ∧ u.regs = t.regs ∧ (u.link n).tx = some (t.now, t.now + frameTicks 4) ∧
          (u.link n).sent = linkBytes 1 0 (Config.freeValue 4 s.frees).toNat
            [BitVec.ofNat 8 (if s.flag LY_STATUS.NUMV 0 = true then s.fld LY_STATUS.MEMBER 0 else 0xFF), BitVec.ofNat 8 n.val, 1,
              BitVec.ofNat 8 (bit (s.rst n == stOff && !s.flag RL_STATUS.LOCKOUT n))]) ∧
    (s.lst n ≠ lkBound → Lands (.packAbsence n) s s) ∧
    (s.lst n = lkBound →
      Ends (.packAbsence n) s fun u =>
        u.now = max s.now ((s.link n).heardAt + 2 * (s.link n).wdog * ms) ∧ u.lst n = lkSearch ∧ u.flag LK_EVENT.GONE n = true ∧
          u.flag LK_STATUS.CHG n = false ∧ u.flag LK_STATUS.REV n = false ∧ u.reg .LK_ID_HI n = 0 ∧ u.reg .LK_ID_LO n = 0) ∧
    (s.flag LK_STATUS.WDRUN n = false → Lands (.linkWatchdogExpiry n) s s) ∧
    (s.flag LK_STATUS.WDRUN n = true →
      Ends (.linkWatchdogExpiry n) s fun u =>
        u.now = max s.now ((s.link n).heardAt + (s.link n).wdog * ms + 1) ∧ u.flag LK_EVENT.WDX n = true ∧
          u.flag LK_STATUS.CHG n = false ∧ u.flag LK_STATUS.REV n = false ∧ u.lst n = s.lst n) ∧
    ((s.link n).report = none ∨ s.flag LK_STATUS.TAGE n = true → Lands (.packTempReportStale n) s s) ∧
    (∀ r, (s.link n).report = some r → s.flag LK_STATUS.TAGE n = false →
      Lands (.packTempReportStale n) s ((s.advance (r.at_ + s.linkWdog n * ms)).setFld LK_STATUS.TAGE n 1)) ∧
    ∀ (why : Discard) (dur : Nat) (li : LightIn), let t := s.linkBegun n (s.now - dur)
      (s.lst n = lkOff → Lands (.linkFrameDiscard n why dur li) s s) ∧
      (s.lst n ≠ lkOff → why = .stray ∨ t.deaf n dur = true → Lands (.linkFrameDiscard n why dur li) s (t.linkGlimpse n li)) ∧
      (s.lst n ≠ lkOff → why ≠ .stray → t.deaf n dur = false → spoiling li = true →
        Lands (.linkFrameDiscard n why dur li) s ((t.linkTaken n li).linkDiscard n .light)) ∧
      (s.lst n ≠ lkOff → why ≠ .stray → t.deaf n dur = false → spoiling li = false →
        Ends (.linkFrameDiscard n why dur li) s fun u =>
          u.fld LK_STATUS.AMB n = min 255 li.amb ∧ u.flag LK_STATUS.SAT n = blinded li.amb li.total ∧
            (u.link n).rxAt = some s.now ∧ (u.link n).edgeAt = some s.now ∧ (u.link n).params = none ∧
            (∀ e ∈ (u.link n).acks, s.now + 40 * us ≤ e.1) ∧
            (why = .light → u.flag LK_EVENT.SATF n = true ∧ u.fld LK_ERRC.SATCNT n = satNat 255 (s.fld LK_ERRC.SATCNT n + 1)) ∧
            (why = .code → u.flag LK_EVENT.FRMERR n = true ∧ u.fld LK_ERRC.VIOLCNT n = satNat 255 (s.fld LK_ERRC.VIOLCNT n + 1)) ∧
            (why = .check → u.flag LK_EVENT.FRMERR n = true ∧ u.fld LK_ERRC.CRCCNT n = satNat 255 (s.fld LK_ERRC.CRCCNT n + 1)) ∧
            (∀ m : Fin 12, m ≠ n → u.link m = s.link m) ∧ OnlyRegs s u [⟨.LK_STATUS, n⟩, ⟨.LK_EVENT, n⟩, ⟨.LK_ERRC, n⟩])

/-- Rows POINTER_SET, REGISTER_WRITE, W1C_WRITE and COUNTER_CLEAR_WRITE (R13, R99, R308, R309, R313, R314, R316, R317, R415): a device
that is not ready refuses every byte; a misaligned address sets ALIGNERR and moves nothing; a PEC byte that fails or is missing discards
the word or the address, and one that fails is counted; a word is written at its address, acknowledged, and the pointer goes on by 4; a 1
clears a W1C flag and a 0 leaves it, in every register that has one, and so does any write what hardware sets in the same tick, and a
drift flag whose condition stands (R99); any value clears a counter register. (Where the rules leave a reading open it is the model's: log
entries 1, 42.) -/
def Obligations.BusWrites : Prop :=
  ∀ (s : State) (a : Nat) (w : Word), s.power.mode = .running → a < 65536 →
    let code := crc8 (s.openBytes a)
    let wcode := crc8 (s.openBytes a ++ bytesBE w.toNat)
    let began := fun (acks : List Bool) => s.modBus fun b => { b with snap := [], block := false, reading := false, acks := acks }
    let pointed := fun (k : Nat) => (began (List.replicate k true)).modBus fun b => { b with ptr := a }
    let opened := fun (k : Nat) => s.modBus fun b =>
      { b with ptr := nextPtr a, snap := [], block := true, reading := false, inStaging := decide (0x4000 ≤ a ∧ a < 0x8000), past := false
               acks := List.replicate k true }
    let ended := fun (t : State) => t.modBus fun b => { b with block := false };
    (s.ready = false → ∀ (c : Option Byte) (cont : Bool),
      Lands (.pointerSet a c) s (s.answer (List.replicate (3 + bit c.isSome) false)) ∧
      HostLands (.registerWrite a w c cont) s (s.answer (List.replicate ((if cont then 4 else 7) + bit c.isSome) false)) ∧
      HostLands (.w1cWrite a w) s (s.answer (s.answers 7 false)) ∧ HostLands (.counterClearWrite a w) s (s.answer (s.answers 7 false))) ∧
    (s.ready = true → a % 4 ≠ 0 → ∀ c : Option Byte,
      Lands (.pointerSet a c) s ((began ([true, true, false] ++ List.replicate (bit c.isSome) false)).raise HB_STATUS.ALIGNERR 0) ∧
      HostLands (.registerWrite a w c false) s
        ((began ([true, true] ++ List.replicate (5 + bit c.isSome) false)).raise HB_STATUS.ALIGNERR 0)) ∧
    (s.ready = true → a % 4 = 0 → s.bus.pec < 2 →
      Lands (.pointerSet a none) s (pointed 3) ∧ (∀ c, Lands (.pointerSet a (some c)) s ((pointed 4).raise HB_STATUS.PARTIAL 0)) ∧
        HostLands (.registerWrite a w none false) s ((opened 7).hostWrite a w) ∧
        ∀ c, HostLands (.registerWrite a w (some c) false) s (ended (((opened 8).hostWrite a w).raise HB_STATUS.PARTIAL 0))) ∧
    (s.ready = true → a % 4 = 0 → 2 ≤ s.bus.pec →
      Lands (.pointerSet a none) s (began [true, true, true]) ∧
      (HostEnds (.registerWrite a w none false) s fun u =>
        u.flag HB_STATUS.PARTIAL 0 = true ∧ u.bus.ptr = a ∧ u.bus.block = false ∧ u.rails = s.rails ∧ OnlyRegs s u [⟨.HB_STATUS, 0⟩]) ∧
      ∀ c : Byte,
        (c.toNat = code → Lands (.pointerSet a (some c)) s (pointed 4)) ∧
        (c.toNat ≠ code → Lands (.pointerSet a (some c)) s (began [true, true, true, false]).pecFail) ∧
        (c.toNat = wcode → HostLands (.registerWrite a w (some c) false) s ((opened 8).hostWrite a w)) ∧
        (c.toNat ≠ wcode →
          HostEnds (.registerWrite a w (some c) false) s fun u =>
            u.flag HB_STATUS.PECERR 0 = true ∧ u.fld HB_CNT.PECCNT 0 = satNat 65535 (s.fld HB_CNT.PECCNT 0 + 1) ∧
              u.bus.block = false ∧ u.bus.ptr = a ∧ u.bus.acks = List.replicate 7 true ++ [false] ∧ u.rails = s.rails ∧
              OnlyRegs s u [⟨.HB_STATUS, 0⟩, ⟨.HB_CNT, 0⟩])) ∧
    (s.ready = true → s.bus.block = false → ∀ (b : Nat) (c : Option Byte),
      HostLands (.registerWrite b w c true) s (s.answer (List.replicate (4 + bit c.isSome) false))) ∧
    (s.ready = true → s.bus.block = true → s.bus.ptr = a → a % 4 = 0 →
      let gone := s.bus.past = true ∨ (s.bus.inStaging = true ∧ ¬(0x4000 ≤ a ∧ a < 0x8000))
      let goes := fun (k : Nat) => s.modBus fun b => { b with ptr := nextPtr a, acks := List.replicate k true };
      ∀ b,
        (s.bus.pec < 2 → ¬ gone → HostLands (.registerWrite b w none true) s ((goes 4).hostWrite a w)) ∧
        (s.bus.pec < 2 → gone →
          HostLands (.registerWrite b w none true) s (((goes 4).raise RG_EVENT.WERR 0).modBus fun b => { b with past := true })) ∧
        ∀ c : Byte, 2 ≤ s.bus.pec → c.toNat = crc8 (bytesBE w.toNat) → ¬ gone →
          HostLands (.registerWrite b w (some c) true) s ((goes 5).hostWrite a w)) ∧
    ∀ (r : Reg) (n : Nat), regAtAddr a = some (r, n) → Taken s r n w →
      let hot := BitVec.ofNat 32 (s.hotBits r n)
      (r = .TB_STATUS ∨ r = .FM_STATUS ∨ r = .PR_STATUS ∨ r = .SV_EVENT ∨ r = .LY_EVENT ∨ r = .RG_EVENT ∨ r = .LK_EVENT →
        HostEnds (.w1cWrite a w) s fun u =>
          u.reg r n = (s.reg r n &&& ~~~(BitVec.ofNat 32 r.row.w1c &&& w &&& ~~~hot)) ∧ u.flag HB_STATUS.ACKD 0 = false ∧
            u.bus.ptr = nextPtr a ∧ u.bus.acks = s.answers 7 true ∧ OnlyRegs s u [⟨r, n⟩, ⟨.HB_STATUS, 0⟩]) ∧
      (let k := s.keyOf r n;
        r.row.w1c ≠ 0 → r.counter = false → (r = .PH_OVR → s.pairIdle k = true) → (r = .RL_MCTL → s.tuning k = false) →
        HostEnds (.w1cWrite a w) s fun u =>
          (∀ i < 32, bitAt r.row.w1c i = true →
            bitAt (u.reg r k).toNat i = (bitAt (s.reg r k).toNat i &&
              (!bitAt w.toNat i || bitAt (s.hotBits r k) i ||
                decide (r = .CV_STATUS ∧ ((i = 3 ∧ 2 ≤ s.tele.xref0) ∨ (i = 4 ∧ 2 ≤ s.tele.xref1)))))) ∧
            u.flag HB_STATUS.ACKD 0 = false ∧ u.bus.ptr = nextPtr a) ∧
      (r.counter = true →
        HostEnds (.counterClearWrite a w) s fun u =>
          u.reg r n = (if r = .PR_QSTAT then s.reg r n &&& 0xFFF00000#32 else 0) ||| hot ∧ u.bus.ptr = nextPtr a ∧
            u.bus.acks = s.answers 7 true ∧ u.rails = s.rails ∧ OnlyRegs s u [⟨r, n⟩])

/-- Rows SNAPSHOT_READ, LB_STATUS_READ, BUS_START_STOP, ALERT_RESPONSE and BUS_TIMEOUT (R307, R310 to R312, R316 to R318, R324, R325, R327
to R329, R417): an addressed read begins at its address, a current one at the pointer, and one that goes on takes the next word; a read
changes only the bus's own record, and the SUPP count of LB_STATUS; one that the host cuts off before its word leaves the pointer at it;
the lowest address of a group captures it whole; a START or STOP ends every transaction; the lowest address wins the alert response and is
acknowledged. (Where the rules leave a reading open it is the model's: log entry 42.) -/
def Obligations.BusReads : Prop :=
  ∀ (s : State), s.power.mode = .running →
    let own := s.fld HB_ADDR.ADDR 0 * 2 + 1
    let opened := fun (acks : List Bool) => s.modBus fun b => { b with snap := [], block := false, reading := false, acks := acks }
    let took := fun (u : State) (a : Nat) (v : Word) (pre : List Nat) (acks : List Bool) =>
      OnlyFile { s with bus := u.bus } u ∧ u.bus.ptr = nextPtr a ∧ u.bus.reading = true ∧ u.bus.acks = acks ∧
        u.bus.lastRead = some (v, if s.bus.pec = 0 then none else some (BitVec.ofNat 8 (crc8 (pre ++ bytesBE v.toNat))))
    let caught := fun (t u : State) (a : Nat) =>
      1 < snapWords a → u.bus.snap = (List.range (snapWords a)).map fun k => (a + 4 * k, t.hostRead (a + 4 * k))
    let stays := fun (u : State) (a : Nat) =>
      u = { s with bus := u.bus } ∧ u.bus.ptr = a ∧ u.bus.reading = false ∧ u.bus.lastRead = none ∧ u.bus.snap = [];
    (s.ready = false → ∀ (a : Nat) (cut : Bool),
      Lands (.snapshotRead ⟨.addressed a, cut⟩) s (s.answer [false, false, false, false]) ∧
      Lands (.snapshotRead ⟨.current, cut⟩) s (s.answer [false]) ∧ Lands (.snapshotRead ⟨.continues, cut⟩) s (s.answer []) ∧
      Lands .lbStatusRead s (s.answer [false, false, false, false]) ∧ Lands .busTimeout s s ∧
      ∀ stop part sending : Bool, Lands (.busStartStop stop part sending) s s) ∧
    (s.ready = true →
      (∀ a < 65536,
        (a % 4 ≠ 0 → ∀ cut : Bool, Lands (.snapshotRead ⟨.addressed a, cut⟩) s
          ((s.raise HB_STATUS.ALIGNERR 0).modBus fun b =>
            { b with snap := [], block := false, reading := false, acks := [true, true, false] })) ∧
        (a % 4 = 0 → a ≠ Reg.LB_STATUS.row.base →
          let t := opened [true, true, true, true];
          (Ends (.snapshotRead ⟨.addressed a, false⟩) s fun u =>
            took u a (t.hostRead a) (s.openBytes a ++ [own]) [true, true, true, true] ∧ caught t u a) ∧
          Ends (.snapshotRead ⟨.addressed a, true⟩) s fun u => stays u a)) ∧
      (s.bus.ptr ≠ Reg.LB_STATUS.row.base →
        (Ends (.snapshotRead ⟨.current, false⟩) s fun u =>
          took u s.bus.ptr ((opened [true]).hostRead s.bus.ptr) [own] [true] ∧ caught (opened [true]) u s.bus.ptr) ∧
        (Ends (.snapshotRead ⟨.current, true⟩) s fun u => stays u s.bus.ptr) ∧
        (s.bus.reading = true →
          ((s.bus.snap.find? fun e => e.1 == s.bus.ptr) = none →
            Ends (.snapshotRead ⟨.continues, false⟩) s fun u =>
              took u s.bus.ptr ((s.answer []).hostRead s.bus.ptr) [] [] ∧ caught (s.answer []) u s.bus.ptr) ∧
          (∀ v, (s.bus.snap.find? fun e => e.1 == s.bus.ptr) = some (s.bus.ptr, v) →
            Ends (.snapshotRead ⟨.continues, false⟩) s fun u => took u s.bus.ptr v [] []) ∧
          Ends (.snapshotRead ⟨.continues, true⟩) s fun u => stays u s.bus.ptr)) ∧
      (s.bus.reading = false → ∀ cut, Lands (.snapshotRead ⟨.continues, cut⟩) s (s.answer [])) ∧
      (let a := Reg.LB_STATUS.row.base;
        Ends .lbStatusRead s fun u =>
          u.fld LB_STATUS.SUPP 0 = 0 ∧ OnlyRegs s u [⟨.LB_STATUS, 0⟩] ∧
            took u a ((opened [true, true, true, true]).hostRead a) (s.openBytes a ++ [own]) [true, true, true, true]) ∧
      (∀ stop part sending : Bool,
        (s.power.resetReq = false →
          Ends (.busStartStop stop part sending) s fun u =>
            OnlyWrite s u ∧ u.bus.snap = [] ∧ u.bus.block = false ∧ u.bus.reading = false ∧ u.bus.acks = [] ∧
              u.bus.pec = (if stop then min 2 (s.fld HB_CTRL.PEC 0) else s.bus.pec) ∧
              (part = true → u.flag HB_STATUS.PARTIAL 0 = true) ∧ (sending = true → u.flag HB_STATUS.ARBSP 0 = true) ∧
              OnlyRegs s u [⟨.HB_STATUS, 0⟩]) ∧
        (s.power.resetReq = true →
          Ends (.busStartStop stop part sending) s fun u =>
            u.power.mode = .held ∧ u.power.ready = false ∧ u.regs = [] ∧ u.power.causes = 32)) ∧
      (s.flag HB_CTRL.TOEN 0 = true →
        Ends .busTimeout s fun u =>
          u.flag HB_STATUS.TIMEOUT 0 = true ∧ u.bus.snap = [] ∧ u.bus.block = false ∧ u.bus.reading = false ∧
            OnlyRegs s u [⟨.HB_STATUS, 0⟩]) ∧
      (s.flag HB_CTRL.TOEN 0 = false → Lands .busTimeout s s)) ∧
    ∀ x : AraIn, let adr := s.fld HB_ADDR.ADDR 0
      (s.alertLine = false → HostLands (.alertResponse x) s (s.answer [])) ∧
      (s.alertLine = true → (∀ a ∈ x.others, adr < a) →
        HostEnds (.alertResponse x) s fun t =>
          t.flag HB_STATUS.ACKD 0 = true ∧ t.alertLine = false ∧
            t.fld HB_ARA.WONCNT 0 = satNat 65535 (s.fld HB_ARA.WONCNT 0 + 1) ∧ t.bus.acks = [true] ∧
            t.bus.ara = some (adr * 2, if s.bus.pec = 0 ∨ x.ack = false then none
              else some (BitVec.ofNat 8 (crc8 [0x19, adr * 2])))) ∧
      (s.alertLine = true → (∀ a ∈ x.others, adr < a) → s.dueAll = s →
        ∃ t, exec (.alertResponse x) s = .next t ∧ t.flag HB_STATUS.ACKD 0 = true ∧ t.alertLine = false) ∧
      (s.alertLine = true → (∃ a ∈ x.others, a ≤ adr) →
        HostLands (.alertResponse x) s ((s.answer [true]).bump HB_ARA.LOSTCNT 0))

/-- Rows RESET_RELEASE, PLL_LOCK_TIMEOUT, SUPERVISOR_START, PIN_BOTH_OFF, WAKE_PIN, WAKE_BY_ADDRESS and DEEP_STANDBY_ENTRY (R246, R305,
R319, R393, R394, R398, R433 to R436, R442 to R444): the release takes the address from its straps, a path that locks is enough, a
both-off puts every register back to its reset word and gathers its causes, of its registers deep standby keeps the address alone, a wake
goes on once a path has locked, and the host interface is ready within the bounds that R393 and R444 give. (Where the rules leave a
reading open it is the model's: log entries 6, 7, 14, 15, 16, 21.) -/
def Obligations.PowerStates : Prop :=
  ∀ s : State, let empty := s.flash.rigA.bytes = [] ∧ s.flash.rigB.bytes = [];
    (∀ l0 l1 l2 : Fin 4, s.power.mode = .held →
      Ends (.resetRelease l0 l1 l2) s fun u =>
        u.fld HB_ADDR.ADDR 0 = 0x10 + 16 * l2.val + 4 * l1.val + l0.val ∧
          (empty → u.power.mode = .running ∧ u.power.ready = true ∧ u.power.readyAt ≤ 60500 * us ∧ u.now = 0 ∧ u.skew = 0 ∧
            u.reg .FM_RSTC 0 = BitVec.ofNat 32 s.power.causes)) ∧
    (∀ a b : Bool, s.power.mode = .held →
      Ends (.pllLockTimeout a b) s fun u =>
        u.power.mode = .held ∧ u.regs = s.regs ∧
          (if (a || b) = true then u.time.okA = a ∧ u.time.okB = b ∧ u.power.pllOff = false else u.power.pllOff = true)) ∧
    (∀ a b : Bool, s.power.mode = .standby →
      ((a || b) = false ∨ s.power.waking = none →
        Ends (.pllLockTimeout a b) s fun u =>
          u.power.mode = .standby ∧ u.power.pllOff = !(a || b) ∧ u.power.waking = s.power.waking ∧ u.regs = s.regs) ∧
      ∀ x, s.power.waking = some x → (a || b) = true →
        Ends (.pllLockTimeout a b) s fun u =>
          u.reg .HB_ADDR 0 = s.reg .HB_ADDR 0 ∧ u.flag HB_STATUS.WAKEA 0 = x ∧
            (empty → u.power.mode = .running ∧ u.power.waking = none ∧ u.flag TB_STATUS.TBLOSS 0 = !(a && b))) ∧
    (s.power.mode = .running → s.power.halted = false →
      (s.fld SV_STATUS.STATE 0 = 0 →
        Ends .supervisorStart s fun u =>
          u.flag SV_STATUS.SETAPPL 0 = true ∧
            (s.flash.journal = [] → u.fld SV_STATUS.STATE 0 = 1 ∧ u.fault.wdogAt = s.now ∧ u.rails = s.rails)) ∧
      (s.fld SV_STATUS.STATE 0 = 2 →
        (s.fwCheck s.flash.runSlot = 0 → s.flag SV_STATUS.SETAPPL 0 = true ∨ s.flash.journal = [] →
          Ends .supervisorStart s fun u =>
            u.fld SV_STATUS.STATE 0 = 1 ∧ u.flag SV_STATUS.SETAPPL 0 = true ∧ u.fault.wdogAt = s.now ∧ u.rails = s.rails ∧
              (s.flag SV_STATUS.SETAPPL 0 = true → OnlyRegs s u [⟨.SV_STATUS, 0⟩])) ∧
        (s.fwCheck s.flash.runSlot ≠ 0 →
          Ends .supervisorStart s fun u =>
            u.fld SV_STATUS.STATE 0 = 3 ∧ u.fault = s.fault ∧ u.rails = s.rails ∧ OnlyRegs s u [⟨.SV_STATUS, 0⟩]))) ∧
    (∀ pin vin v5 vcore clk : Bool, let c := causeBits vin v5 vcore clk pin
      (s.power.mode ≠ .standby → c ≠ 0 →
        Ends (.pinBothOff pin vin v5 vcore clk) s fun u =>
          u.power.mode = .held ∧ u.power.causes = (if s.power.mode = .held then s.power.causes ||| c else c) ∧
            u.flash.fwA.st = s.flash.fwA.st ∧ u.flash.fwB.st = s.flash.fwB.st ∧ u.pending = s.pending ∧
            (s.power.mode ≠ .held → u.regs = [] ∧ u.power.ready = false ∧ u.rails = State.reset.rails ∧
              u.phases = State.reset.phases)) ∧
      (s.power.mode = .standby → vin = false → Lands (.pinBothOff pin vin v5 vcore clk) s s) ∧
      (s.power.mode = .standby → vin = true →
        Ends (.pinBothOff pin vin v5 vcore clk) s fun u => u.power.mode = .held ∧ u.power.causes = 2)) ∧
    (s.power.mode = .standby → s.power.pllOff = true →
      Lands .wakePin s (s.modPower fun p => { p with waking := some false }) ∧
      Lands .wakeByAddress s ((s.modPower fun p => { p with waking := some true }).modBus fun b => { b with acks := [false] })) ∧
    (s.power.mode = .standby → s.power.pllOff = false →
      (Ends .wakePin s fun u =>
        u.reg .HB_ADDR 0 = s.reg .HB_ADDR 0 ∧ u.flag HB_STATUS.WAKEA 0 = false ∧ (empty → u.power.mode = .running)) ∧
      Ends .wakeByAddress s fun u =>
        u.reg .HB_ADDR 0 = s.reg .HB_ADDR 0 ∧ u.flag HB_STATUS.WAKEA 0 = true ∧ u.bus.acks = [false] ∧
          u.power.readyAt ≤ 102 * us ∧ (empty → u.power.mode = .running)) ∧
    (s.power.mode ≠ .standby → Lands .wakeByAddress s s) ∧
    (s.power.mode = .running → Lands .wakePin s s) ∧
    (s.power.mode = .sleep →
      Ends .wakePin s fun u => u.power.mode = .running ∧ u.now = s.now ∧ u.rails = s.rails) ∧
    (s.power.mode = .running →
      (s.power.standbyReq = true → s.flash.ops = [] →
        (Ends (.deepStandbyEntry false) s fun u =>
          u.power.mode = .standby ∧ u.power.ready = false ∧ u.reg .HB_ADDR 0 = s.reg .HB_ADDR 0 ∧
            ∀ k : RKey, k ≠ ⟨.HB_ADDR, 0⟩ → u.regs.get k = k.dflt) ∧
        Ends (.deepStandbyEntry true) s fun u => u.reg .HB_ADDR 0 = s.reg .HB_ADDR 0 ∧ (empty → u.power.mode = .running)) ∧
      (s.power.standbyReq = false ∨ s.flash.ops ≠ [] → ∀ wake, Lands (.deepStandbyEntry wake) s s))

/-- Rows BELL_BOUNDARY, TB_PATH_FAIL, SLEEP_ENTRY, SLEEP_EXIT and LP_CLOCK_EDGE (R19, R37, R38, R161, R190, R246, R371, R439 to R441): a
bell ends at a tick with T mod 4096 = 0, starts the carriers that wait and wears the active phases; a failed path leaves TBCLK on the
other one in holdover after a gap, to whose end the edges inside it are held, and a second failure is a both-off; sleep begins at the end
of a bell throughout which its conditions have held; in sleep an edge of the low-power clock adds 390625 / 64 ticks. (Where the rules
leave a reading open it is the model's: log entries 7, 12, 15, 20, 39, 52.) -/
def Obligations.Clocks : Prop :=
  ∀ s : State,
    (s.power.mode = .running →
      (Ends .bellBoundary s fun u =>
        s.now ≤ u.now ∧ ((u.now : Int) + s.skew) % 4096 = 0 ∧ u.time.lastBell = some u.now ∧
          (s.flag LY_STATUS.HEAD 0 = true ∨ s.lan.stamped = false → u.skew = s.skew) ∧
          (∀ (n : Fin 12) (w : Nat), (s.rail n).carrier.waiting = some w → w ≤ u.now → (u.rail n).carrier.running = true) ∧
          ∀ (p : Fin 48) (n : Fin 12), s.phRail p = some n → s.fld PH_MSTAT.STATE p = phActive → (s.phase p).since ≤ s.now →
            (s.rail n).carrier.running = true → (∀ m, (s.rail m).man.reqs = []) → (s.phase p).wear < 2 ^ 44 - 1 →
            (u.phase p).wear = (s.phase p).wear + 1) ∧
      (s.flag TB_STATUS.PATHFAIL 0 = false →
        let gap := (s.takeFree 16).1.toNat % 8
        Ends .tbPathFail s fun u =>
          u.fld TB_STATUS.PATH 0 = 1 - s.fld TB_STATUS.PATH 0 ∧ u.flag TB_STATUS.TBLOSS 0 = true ∧ u.flag TB_STATUS.PATHFAIL 0 = true ∧
            u.flag TB_STATUS.HOLD 0 = true ∧ u.flag FM_STATUS.PERM 0 = true ∧ u.now = s.now + gap ∧ u.rails = s.rails ∧
            ∀ p : Fin 48, (u.phase p).edges = (s.phase p).edges.map fun e => (max (u.now * 64) e.1, e.2)) ∧
      (s.flag TB_STATUS.PATHFAIL 0 = true →
        Ends .tbPathFail s fun u => u.power.mode = .held ∧ u.regs = [] ∧ u.power.causes = 16) ∧
      (let bell := s.nextGrid s.now 4096 0
        let held := s.sleepOk = true ∧ (∃ q, s.quiet = some q ∧ q + 4096 ≤ bell) ∧ ∀ n : Fin 12, s.beaconNear n bell = false
        ((bell : Int) + s.skew) % 4096 = 0 ∧
        (held →
          Ends .sleepEntry s fun u =>
            u.power.mode = .sleep ∧ u.power.lpAcc = 0 ∧ u.now = bell ∧
              (s.pins.tioQ = [] → u.regs = s.regs ∧ ∀ k : Fin 12, (u.timer k).lpAcc = (u.timer k).pre * 64)) ∧
        (¬ held → Lands .sleepEntry s s)) ∧
      Lands .sleepExit s s) ∧
    (s.power.mode = .sleep →
      (Ends .sleepExit s fun u =>
        u.power.mode = .running ∧ u.power.lpAcc = 0 ∧ u.now = s.now ∧ ∀ k : Fin 12, (u.timer k).from_ = s.now) ∧
      Ends .lpClockEdge s fun u =>
        u.now = s.now + (s.power.lpAcc + 390625) / 64 ∧ u.power.lpAcc = (s.power.lpAcc + 390625) % 64 ∧ u.power.mode = .sleep ∧
          u.flash.upBells = s.flash.upBells + ((s.T + (s.power.lpAcc + 390625) / 64) / 4096 - s.T / 4096) ∧
          (∀ k : Fin 12, s.timerAwake k = true → s.fld TM_CTRL.SLV k = 0 →
            (u.timer k).lpAcc = ((s.timer k).lpAcc + 390625) % (64 * 2 ^ s.fld TM_CTRL.PSC k)) ∧
          ∀ k : Fin 12, s.timerAwake k = false → u.fld TM_CNT.COUNT k = s.fld TM_CNT.COUNT k)

/-- Rows TAP_RESET, BYPASS, IDCODE, SAMPLE/PRELOAD, EXTEST, HIGHZ, CLAMP, SVHALT and SVRUN (R451 to R454): the instructions that drive the
balls act at debug level 2 with every rail OFF or RETIRED and are BYPASS otherwise; SAMPLE/PRELOAD takes what the balls show and loads the
cells that drive; the supervisor core halts and resumes at level 2, and the timers without DBGRUN stop and go on with it. (Where the rules
leave a reading open it is the model's: log entry 22.) -/
def Obligations.TestPort : Prop :=
  ∀ s : State, s.power.mode ≠ .standby →
    let port := fun (c : Instr) (i : TapInstr) =>
      Ends c s fun u => u.power.tap = i ∧ u.power.mode = s.power.mode ∧ u.now = s.now ∧ ∀ n : Fin 12, u.rst n = s.rst n;
    port .tapReset .idcode ∧ port .bypass .bypass ∧ port .idcode .idcode ∧
      (∀ x : Boundary, Ends (.samplePreload x) s fun u =>
        u.power.tap = .samplePreload ∧ u.power.cells = x.load ∧ u.power.sampled = (s.tapLoad .samplePreload).sampleBalls x.balls ∧
          u.now = s.now ∧ u.regs = (s.tapLoad .samplePreload).regs) ∧
      port .extest (if s.tapAllowed = true then .extest else .bypass) ∧
      port .highz (if s.tapAllowed = true then .highz else .bypass) ∧
      port .clamp (if s.tapAllowed = true then .clamp else .bypass) ∧
      (Ends .svhalt s fun u =>
        u.power.halted = (if s.fld DBG_STATUS.LEVEL 0 = 2 then true else s.power.halted) ∧ u.power.tap = .bypass ∧ u.now = s.now ∧
          (s.fld DBG_STATUS.LEVEL 0 = 2 → s.power.mode = .running → s.pins.tioQ = [] →
            ∀ k : Fin 12, s.flag TM_CTRL.DBGRUN k = false → u.timerAwake k = false)) ∧
      Ends .svrun s fun u =>
        u.power.halted = (if s.fld DBG_STATUS.LEVEL 0 = 2 then false else s.power.halted) ∧ u.power.tap = .bypass ∧
          (s.fld DBG_STATUS.LEVEL 0 = 2 → s.power.halted = true → u.fault.wdogAt = s.now ∧
            (s.pins.tioQ = [] → ∀ k : Fin 12, s.timerAwake k = false → (u.timer k).slaveAt = []))

/-- Rows FAN_CONTROL_WRITE, FAN_CURVE_UPDATE, TACH_EDGE, FAN_START_TIMEOUT, FAN_KICK_END, FAN_BLOCKED_RETRY, FAN_STOPPED and
FAN_TIMER_SOURCE_LAPSE (R372 to R376): what each does to the fan's supervisor, its commanded duty, its speed and the flags. (Where the
rules leave a reading open it is the model's: log entries 7, 46.) -/
def Obligations.Fans : Prop :=
  ∀ (s : State) (f : Fin 4),
    (∀ w : Word, Taken s .FAN_CTRL f w → FAN_CTRL.SRC.of w = 0 →
      (s.active.fan[f].en = true → FAN_CTRL.MODE.of w = 1 →
        HostEnds (.fanControlWrite f w) s fun u =>
          (u.fan f).cmd = min 1000 (FAN_CTRL.DUTY.of w) ∧ u.fld FAN_CTRL.DUTY f = FAN_CTRL.DUTY.of w ∧
            ((s.fan f).cmd = 0 → FAN_CTRL.DUTY.of w ≠ 0 → u.fld FAN_STAT.STATE f = fnStarting ∧ u.fld FAN_STAT.KICKS f = 0)) ∧
      (FAN_CTRL.MODE.of w = 0 →
        HostEnds (.fanControlWrite f w) s fun u => (u.fan f).cmd = 0 ∧ u.fld FAN_STAT.STATE f = fnOff)) ∧
    (s.power.mode = .running →
      Ends .fanCurveUpdate s fun u =>
        s.now ≤ u.now ∧ ((u.now : Int) + s.skew) % (256 * 4096) = 0 ∧
          (s.fld FAN_CURVE.TSEL f = 0 → (u.fan f).autoDuty = 1000) ∧
          ((∃ i : Fin 16, bitAt (s.fld FAN_CURVE.TSEL f) i = true ∧ s.flag TH_TEMP.INV i = true) → (u.fan f).autoDuty = 1000) ∧
          (s.fld FAN_CURVE.TSEL f ≠ 0 →
            (∀ i : Fin 16, bitAt (s.fld FAN_CURVE.TSEL f) i = true →
              s.flag TH_TEMP.INV i = false ∧ s.fldS TH_TEMP.T i / 8 ≤ s.fldS FAN_CURVE.TLO f) →
            (u.fan f).autoDuty = s.fld FAN_CTRL.DMIN f)) ∧
    (s.fanLive f = false → Lands (.tachEdge f) s s) ∧
    (∀ t, s.fanLive f = false → s.power.mode = .running → (s.fan f).edge = some t →
      Ends (.fanStopped f) s fun u =>
        u.now = max s.now (t + 2000 * ms) ∧ u.fld FAN_TACH.RPM f = 0 ∧ OnlyRegs s u [⟨.FAN_TACH, f⟩]) ∧
    (s.fanLive f = true →
      (∀ t, (s.fan f).edge = some t →
        (t + 100 * us ≤ s.now →
          Ends (.tachEdge f) s fun u =>
            u.fld FAN_TACH.RPM f = min 65535 (rhe 12000000000 ((s.now - t) * (s.fld FAN_CTRL.PPR f + 1))).toNat ∧
              (u.fan f).edge = some s.now ∧
              (s.fld FAN_STAT.STATE f = fnKick → u.fld FAN_STAT.KICKS f = 0) ∧
              (s.fld FAN_STAT.STATE f = fnStarting ∨ s.fld FAN_STAT.STATE f = fnKick ∨ s.fld FAN_STAT.STATE f = fnTachlost ∨
                  (s.fld FAN_STAT.STATE f = fnBlocked ∧ (s.fan f).retry = true) →
                u.fld FAN_STAT.STATE f = fnRunning)) ∧
        (s.now < t + 100 * us → Lands (.tachEdge f) s s) ∧
        Ends (.fanStopped f) s fun u =>
          u.now = max s.now (t + 2000 * ms) ∧ u.fld FAN_TACH.RPM f = 0 ∧
            (s.fld FAN_STAT.STATE f = fnRunning → s.fanInBand f = true →
              u.fld FAN_STAT.STATE f = fnTachlost ∧ u.flag FAN_STAT.TLOSTF f = true) ∧
            (s.fld FAN_STAT.STATE f = fnRunning → s.fanInBand f = false →
              u.fld FAN_STAT.STATE f = fnKick ∧ u.fld FAN_STAT.KICKS f = 1)) ∧
      (s.fld FAN_STAT.STATE f = fnStarting →
        Ends (.fanStartTimeout f) s fun u =>
          u.fld FAN_STAT.STATE f = fnKick ∧ u.fld FAN_STAT.KICKS f = 1 ∧ u.flag FAN_STAT.KICKF f = true ∧
            u.now = max s.now ((s.fan f).at_ + 2000 * ms)) ∧
      (s.fld FAN_STAT.STATE f = fnKick →
        Ends (.fanKickEnd f) s fun u =>
          (s.fld FAN_STAT.KICKS f < 3 →
            u.fld FAN_STAT.STATE f = fnKick ∧ u.fld FAN_STAT.KICKS f = s.fld FAN_STAT.KICKS f + 1) ∧
          (s.fld FAN_STAT.KICKS f = 3 →
            u.fld FAN_STAT.STATE f = fnBlocked ∧ u.flag FAN_STAT.BLOCKF f = true ∧
              min 100 s.active.fan[f].weight ≤ u.fld FAN_DERATE.DERATE 0)) ∧
      (s.fld FAN_STAT.STATE f = fnBlocked →
        ((s.fan f).retry = false →
          Ends (.fanBlockedRetry f) s fun u =>
            (u.fan f).retry = true ∧ u.fld FAN_STAT.DOUT f = 1000 ∧ u.now = max s.now ((s.fan f).at_ + 60000 * ms) ∧
              u.fld FAN_STAT.STATE f = fnBlocked) ∧
        ((s.fan f).retry = true →
          Ends (.fanKickEnd f) s fun u =>
            (u.fan f).retry = false ∧ u.fld FAN_STAT.STATE f = fnBlocked ∧ u.fld FAN_STAT.DOUT f = 0)) ∧
      ∀ t, (s.fan f).srcAt = some t → s.flag FAN_CTRL.SRC f = true →
        s.tmOut (s.fld FAN_CTRL.TM f) (s.fld FAN_CTRL.CHAN f) = false →
        Ends (.fanTimerSourceLapse f) s fun u =>
          (u.fan f).srcAt = none ∧ (u.fan f).cmd = 0 ∧ u.fld FAN_STAT.STATE f = fnOff ∧ u.now = max s.now (t + ms))

/-- Rows RING_FORM_START, CLAIM, NUMBER, MEMBER_JOIN, HOP_LOSS, WRAP, PROBE, RING_RESTORE and HOP_DELAY_MARKER (R338 to R340, R351 to
R353): the steps by which a ring forms, loses a hop and is restored. A message goes to the end of the queue of messages. (Where the rules
leave a reading open it is the model's: log entries 44, 45.) -/
def Obligations.RingForming : Prop :=
  ∀ s : State, s.power.mode = .running → s.flag LY_CTRL.EN 0 = true →
    let own := s.fld HB_ADDR.ADDR 0
    let sends := fun (u : State) (type : Nat) (p : List Byte) =>
      ∃ m, u.lan.msgs = s.lan.msgs ++ [m] ∧ m.type = type ∧ m.dst = 0xFF ∧ m.payload = p
    let said := fun (m : LyMsg) => (m.type, m.payload)
    let lossOf : List Byte := [BitVec.ofNat 8 s.me, 0, 0, 0, 0, 0, 0, 0];
    (∀ rt, s.lyMode < lyRing →
      Ends (.ringFormStart rt) s fun u =>
        u.lyMode = lyForming ∧ u.flag LY_STATUS.HEAD 0 = false ∧ u.flag LY_STATUS.NUMV 0 = false ∧ u.lan.claimed = true ∧
          u.fld LY_HOPD.INDLY 0 = min 65535 ((rt - 2560) / 2) ∧
          u.flag LY_STATUS.LSTART 0 = !hopOk rt ∧
          (hopOk rt = false → u.flag LY_EVENT.HOPIN 0 = true ∧ u.lan.losses.head? = some (0, s.now)) ∧
          (hopOk rt = true → u.lan.losses = s.lan.losses) ∧ sends u 1 [BitVec.ofNat 8 own]) ∧
    (s.lyMode = lyForming → ∀ addr,
      (addr = own → s.lan.claimed = true →
        Ends (.claim addr) s fun u =>
          u.flag LY_STATUS.HEAD 0 = true ∧ u.flag LY_STATUS.NUMV 0 = true ∧ u.me = 0 ∧ sends u 2 [0]) ∧
      (addr = own → s.lan.claimed = false → Lands (.claim addr) s s) ∧
      (addr < own → Ends (.claim addr) s fun u => u.lan.claimed = false ∧ u.regs = s.regs ∧ sends u 1 [BitVec.ofNat 8 addr]) ∧
      (own < addr → Ends (.claim addr) s fun u => u.lan.claimed = true ∧ u.regs = s.regs ∧ sends u 1 [BitVec.ofNat 8 own])) ∧
    (s.lyMode = lyForming → ∀ count, count < 64 →
      (s.flag LY_STATUS.HEAD 0 = true →
        Ends (.number count) s fun u =>
          u.ringN = count + 1 ∧ u.flag LY_EVENT.FORMED 0 = true ∧
            u.lyMode = (if s.flag LY_STATUS.LSTART 0 = true ∨ s.lan.line = true then lyWrap else lyRing) ∧
            ∃ pre, u.lan.msgs.map said = s.lan.msgs.map said ++ pre ++
                (2, [BitVec.ofNat 8 (count + 1)]) :: (List.range s.ntok).map (fun i => (4, [BitVec.ofNat 8 i])) ∧
              (s.flag LY_STATUS.LSTART 0 = true → (8, lossOf) ∈ pre) ∧
              (s.flag LY_STATUS.LSTART 0 = false → s.lan.held = [] → pre = [])) ∧
      (s.flag LY_STATUS.HEAD 0 = false → s.flag LY_STATUS.NUMV 0 = false → count < 63 →
        Ends (.number count) s fun u =>
          u.me = count + 1 ∧ u.flag LY_STATUS.NUMV 0 = true ∧ u.lyMode = lyForming ∧ sends u 2 [BitVec.ofNat 8 (count + 1)]) ∧
      (s.flag LY_STATUS.HEAD 0 = false → s.flag LY_STATUS.NUMV 0 = true →
        Ends (.number count) s fun u =>
          u.ringN = max 1 count ∧ u.flag LY_EVENT.FORMED 0 = true ∧ u.me = s.me ∧
            u.lyMode = (if s.flag LY_STATUS.LSTART 0 = true ∨ s.lan.line = true then lyWrap else lyRing) ∧
            (s.flag LY_STATUS.LSTART 0 = false → s.lan.held = [] → u.lan.msgs = s.lan.msgs))) ∧
    (∀ srcm n rt, s.lyMode < lyRing → n ≤ 64 →
      (hopOk rt = true →
        Ends (.memberJoin srcm n rt) s fun u =>
          u.me = (srcm + 1) % max 1 n ∧ u.ringN = max 1 n ∧ u.lyMode = lyWrap ∧ u.flag LY_STATUS.NUMV 0 = true ∧
            u.flag LY_STATUS.HEAD 0 = (decide (u.me = 0) || s.flag LY_STATUS.HEAD 0) ∧
            u.fld LY_HOPD.INDLY 0 = min 65535 ((rt - 2560) / 2)) ∧
      (hopOk rt = false →
        Ends (.memberJoin srcm n rt) s fun u =>
          u.flag LY_EVENT.HOPIN 0 = true ∧ u.lan = { s.lan with losses := u.lan.losses } ∧ u.lan.losses.head? = some (0, s.now) ∧
            u.fld LY_HOPD.INDLY 0 = min 65535 ((rt - 2560) / 2) ∧ u.lyMode = s.lyMode ∧
            OnlyRegs s u ([⟨.LY_HOPD, 0⟩, ⟨.LY_EVENT, 0⟩, ⟨.LY_STATUS, 0⟩] ++ logKeys))) ∧
    (s.lyUp = true → s.flag LY_STATUS.LSTART 0 = false →
      Ends .hopLoss s fun u =>
        u.now = max s.now (s.lan.heardAt + 4 * us) ∧ u.flag LY_STATUS.LSTART 0 = true ∧ u.flag LY_EVENT.HOPIN 0 = true ∧
          u.lyMode = lyWrap ∧ (s.lan.held = [] → sends u 8 lossOf) ∧ (u.lan.msgs.map said).getLast? = some (8, lossOf) ∧
          (s.flag LY_STATUS.PERMWRAP 0 = true → u.flag LY_STATUS.PERMWRAP 0 = true) ∧
          (2 ≤ ((s.lan.losses.filter fun e => decide (u.now < e.2 + 60000 * ms)).filter fun e => e.1 == 0).length →
            u.flag LY_STATUS.PERMWRAP 0 = true)) ∧
    (∀ src start epoch, s.lyUp = true → src < 64 →
      Lands (.wrap src start 1 epoch) s (s.modLan fun l => { l with restoreAt := some epoch }) ∧
      (start = (s.me + 1) % s.ringN → s.flag LY_STATUS.LEND 0 = false →
        Ends (.wrap src start 0 epoch) s fun u =>
          u.flag LY_STATUS.LEND 0 = true ∧ u.flag LY_EVENT.HOPOUT 0 = true ∧ u.lyMode = lyWrap ∧ u.now = s.now) ∧
      (Ends (.wrap src start 0 epoch) s fun u =>
        u.lyMode = lyWrap ∧ u.lan.breaks.contains start = true ∧
          ∀ k : Fin 12, s.lead k = true → ∀ e ∈ (u.group k).reports, u.pastBreak e.1 = true →
            ∃ b ∈ s.lan.breaks, 0 < (b + s.ringN - s.me) % s.ringN ∧ (b + s.ringN - s.me) % s.ringN ≤ e.1)) ∧
    (s.lyMode = lyWrap →
      (s.flag LY_STATUS.LEND 0 = true →
        Ends (.probe none) s fun u =>
          u.now = max s.now (s.lan.probeAt + ms) ∧ u.lan.probeAt = u.now ∧ u.lan.sentAt = u.now ∧
            (u.lan.sent.map fun f => (f.wrap, f.rev, f.srcm)) = some (true, false, s.srcm) ∧ u.regs = s.regs) ∧
      (∀ x rt, s.flag LY_STATUS.LSTART 0 = true → hopOk rt = true → s.flag LY_STATUS.PERMWRAP 0 = false → s.lan.restoreAt = none →
        Ends (.probe (some (x, rt))) s fun u =>
          u.lan.restoreAt = some ((s.E + 8) % 2 ^ 48) ∧ OnlyRegs s u [⟨.LY_HOPD, 0⟩] ∧
            u.fld LY_HOPD.INDLY 0 = min 65535 ((rt - 2560) / 2) ∧
            sends u 8 ([BitVec.ofNat 8 s.me, 1] ++ (beBytes 6 ((s.E + 8) % 2 ^ 48)).map (BitVec.ofNat 8)))) ∧
    (∀ e, s.lan.restoreAt = some e →
      Ends .ringRestore s fun u =>
        u.lyMode = lyRing ∧ u.flag LY_STATUS.LSTART 0 = false ∧ u.flag LY_STATUS.LEND 0 = false ∧ u.flag LY_EVENT.RESTORED 0 = true ∧
          u.lan.restoreAt = none ∧ u.lan.breaks = [] ∧ u.now = max s.now (s.now + (s.ticksTo e).toNat)) ∧
    Lands .hopDelayMarker s (s.modLan fun l => { l with marker := some (s.now + 40) })

/-- Rows LANYARD_FRAME_START, LANYARD_FRAME_RECEIVE, SPANRPT, SPANRPT_SEND, SPAN_ATTACH_TIMEOUT, SPAN_SLOT_TIMEOUT, TOKEN, MEMBER and
MEMBER_BROADCAST (R333, R334, R341, R344, R346, R350, R354 to R356): the head starts a frame every 200 ticks; a member counts a frame
whose HCRC fails and passes it on unused, and a good one 40 ticks later with the stamp carried forward; reports, tokens and MEMBER keep
their records; the lowest member of a line takes the head's duties, and gives them up to a lower one. (Where the rules leave a reading
open it is the model's: log entries 7, 44, 45.) -/
def Obligations.RingMessages : Prop :=
  ∀ s : State, s.power.mode = .running → s.lyUp = true →
    (s.lyMode = lyRing → s.flag LY_STATUS.HEAD 0 = true →
      Ends .lanyardFrameStart s fun u =>
        s.now ≤ u.now ∧ ((u.now : Int) + s.skew) % 200 = 0 ∧ u.lan.sentAt = u.now ∧
          (let whole := s.lan.carried.find? fun e => decide (e.1 + 200 ≤ u.now)
           u.lan.carried = (match whole with
            | some e => s.lan.carried.erase e
            | none => s.lan.carried)) ∧
          (u.lan.sent.map fun f => (f.form, f.wrap, f.rev, f.srcm, f.stamp)) =
            some (false, false, false, s.srcm, s.absAt u.now * 64 % 2 ^ 64)) ∧
    (∀ (tap : Fin 64) (x : LyWire), let f := frameOf x.bytes
      (f.hcrcOk = false →
        Ends (.lanyardFrameReceive tap x) s fun u =>
          u.fld LY_ERRC.HCNT 0 = satNat 65535 (s.fld LY_ERRC.HCNT 0 + 1) ∧ OnlyRegs s u [⟨.LY_ERRC, 0⟩] ∧
            u.lan.heardAt = s.lan.heardAt ∧ u.lan.stamped = s.lan.stamped ∧
            (f.rev = false → s.flag LY_STATUS.LSTART 0 = false → s.flag LY_STATUS.LEND 0 = false →
              (s.flag LY_STATUS.HEAD 0 = false → u.lan.sent = some f ∧ u.lan.sentAt = s.now + 40) ∧
              (s.flag LY_STATUS.HEAD 0 = true → s.lyMode = lyWrap → u.lan.sentAt = s.now + 40 ∧
                ∃ g, u.lan.sent = some g ∧ (∀ i : Fin 12, f.slots[i].ok = false → g.slots[i] = {}) ∧
                  g.msg = (if f.msg.ok = true then f.msg else {})) ∧
              (∀ n : Fin 12, (s.groupOf n).isSome = true → (u.group n).age = min 127 ((s.group n).age + 1))) ∧
            (f.rev = true → s.lyMode = lyRing → u.lan = { s.lan with revMiss := 0 }) ∧
            (f.rev = false → s.flag LY_STATUS.LSTART 0 = true → u.lan = s.lan)) ∧
      (f.hcrcOk = true → f.form = false → f.rev = false → s.flag LY_STATUS.HEAD 0 = false → s.flag LY_STATUS.LSTART 0 = false →
        (s.lyMode = lyRing ∧ f.wrap = false ∨ s.lyMode = lyWrap ∧ s.flag LY_STATUS.LEND 0 = false ∧ s.lan.revMiss < 4) →
        (∀ g ∈ s.active.lanyard.groups, g.role ≠ 2) →
        Ends (.lanyardFrameReceive tap x) s fun u =>
          (u.lan.sent.map fun g => (g.stamp, g.srcm, g.wrap, g.rev)) =
              some ((f.stamp + s.fld LY_HOPD.INDLY 0 + 2560) % 2 ^ 64, s.srcm, s.lyMode == lyWrap, false) ∧
            u.lan.sentAt = s.now + 40 ∧ u.lan.heardAt = s.now ∧ u.lan.stamped = true ∧
            (s.lyMode = lyWrap → u.lan.revAt = s.now + 240 ∧ (u.lan.rev.map fun g => (g.wrap, g.rev, g.srcm)) = some (true, true, s.srcm))) ∧
      (f.hcrcOk = true → f.rev = true → s.lyMode = lyWrap → s.flag LY_STATUS.LSTART 0 = false → f.msg.ok = true → f.msg.type ≠ 0 →
        f.msg.dst ≠ s.me → f.msg.src ≠ s.me →
        Ends (.lanyardFrameReceive tap x) s fun u => u.lan.back = f.msg ∧ u.regs = s.regs)) ∧
    (∀ (src : Nat) (r : SpanRpt) (g : GroupE), s.groupRail 1 r.group = some g →
      (1 ≤ r.idx → r.idx < g.nmem → src = (s.me + r.idx) % s.ringN →
        Ends (.spanrpt src r) s fun u =>
          (u.group g.rail).reports = (if s.pastBreak r.idx = true then [] else [(r.idx, r, s.now)])
              ++ (s.group g.rail).reports.filter (fun e => !(e.1 == r.idx)) ∧
            (u.group g.rail).heard.contains r.idx = true ∧ u.now = s.now) ∧
      (¬ (1 ≤ r.idx ∧ r.idx < g.nmem ∧ src = (s.me + r.idx) % s.ringN) →
        Lands (.spanrpt src r) s (s.raise LY_EVENT.GRPERR 0))) ∧
    (∀ (n : Fin 12) (g : GroupE), s.groupOf n = some g → g.role = 2 →
      let is := (s.nspl n, s.rst n, s.flag TB_STATUS.LOCK 0)
      let t := if (s.group n).rptWas = some is then s.advance ((s.group n).rptAt + 256 * 4096) else s
      Ends (.spanrptSend n) s fun u =>
        u.regs = s.regs ∧ u.now = t.now ∧ (u.group n).rptAt = t.now ∧ (u.group n).rptWas = some is ∧
        ∃ m, u.lan.msgs = s.lan.msgs ++ [m] ∧ m.type = 3 ∧ m.dst = (s.me + s.ringN - g.idx) % s.ringN ∧
          m.payload = t.spanPayload n g) ∧
    (∀ (n : Fin 12) (idx : Fin 8) (r : SpanRpt) (at_ : Nat),
      ((s.group n).reports.find? fun e => e.1 == idx.val) = some (idx.val, r, at_) →
      Ends (.spanAttachTimeout n idx) s fun u =>
        u.now = max s.now (at_ + 1024 * 4096) ∧ u.flag LY_EVENT.DETACH 0 = true ∧
          (u.group n).reports = (s.group n).reports.filter (fun e => !(e.1 == idx.val))) ∧
    (∀ n : Fin 12, s.follower n = true → (s.group n).seen = true → 64 ≤ (s.group n).age → s.rst n ≠ stFault →
      let v := (s.modGroup n fun g => { g with seen := false, allOff := false }).unmove n
      CanFault v n → Ends (.spanSlotTimeout n) s fun u => u.now = s.now ∧ FaultEntered v u n 21 ∧ (u.group n).seen = false) ∧
    (∀ i : Nat, s.flag LY_STATUS.HEAD 0 = false → s.flag PR_START.RINGTOK 0 = true →
      (s.lan.skip = true → Lands (.token i) s (s.modLan fun l => { l with skip := false })) ∧
      (∀ n : Fin 12, s.lan.skip = false → s.grantable = some n → (s.lan.held.any fun e => e.2 == n) = false →
        Ends (.token i) s fun u =>
          u.lan.held = s.lan.held ++ [(i, n)] ∧ u.lan.skip = true ∧ u.fld LY_STATUS.HELD 0 = (s.lan.held.length + 1) % 64 ∧
            holdsToken i u.lan.back = false ∧ (∀ e ∈ u.lan.carried, holdsToken i e.2.msg = false) ∧
            (s.lan.msgs = [] → ∀ f : LyFrame, u.lan.sent = some f ∨ u.lan.rev = some f → holdsToken i f.msg = false) ∧
            OnlyRegs s u [⟨.LY_STATUS, 0⟩])) ∧
    (∀ (src : Nat) (p : List Byte),
      Ends (.member src p) s fun u =>
        (s.flag LY_STATUS.HEAD 0 = false ∨ s.me ≤ src → u.regs = s.regs) ∧
          (s.flag LY_STATUS.HEAD 0 = true → src < s.me → u.flag LY_STATUS.HEAD 0 = false ∧ OnlyRegs s u [⟨.LY_STATUS, 0⟩]) ∧
          u = { s with regs := u.regs, lan := u.lan, hot := u.hot } ∧ u.lan.heardNow.contains src = true ∧
          (u.lan.masks.find? fun e => e.1 == src) = some (src, payNat p 0 4) ∧
          (u.lan.levels.find? fun e => e.1 == src) = some (src, payNat p 6 1, payNat p 7 1, bitAt (payNat p 8 1) 0)) ∧
    Ends .memberBroadcast s fun u =>
      u.now = max s.now (s.lan.memberAt + 256 * 4096) ∧ u.lan.memberAt = u.now ∧ u.lan.tokenSeen = [] ∧
        (let lower := (s.lan.heardNow ++ s.lan.heardLast).any fun m => decide (m < s.me)
         u.flag LY_STATUS.HEAD 0 = (s.flag LY_STATUS.HEAD 0 || (s.lyMode == lyWrap && !lower))) ∧
        ∃ m ∈ u.lan.msgs, m.type = 7 ∧ m.dst = 0xFF ∧ m.src = s.srcm

/-- A step runs the command at the front of the queue, with the queue's rest. (The queue and what a step does with it are the model's form
of a block, log entries 1 and 2.) -/
def Obligations.FrontCommandRuns : Prop :=
  ∀ (c : Instr) (s : State), step { s with pending := c :: s.pending } = exec c s

/-- No step of the block stops it, and an alert that is acknowledged after a step is one that is pending (R325, R326): the invariant is
kept from every state, by a step on the empty queue too (which is the model's choice, log entry 2). -/
def Obligations.AckKept : Prop :=
  ∀ s : State, AckSound s → ∃ t, step s = .next t ∧ AckSound t

/-- The block at reset (R316, R433, R455): held in reset, not ready, every register at its reset word, every rail OFF, no alert, no
command waiting; the register file and the memories are in their canonical form. Which reset words and levels the spec leaves open is in
the log (entries 3 to 6). -/
def Obligations.ResetState : Prop :=
  let s := State.reset
  s.power.mode = .held ∧ s.ready = false ∧ s.pending = [] ∧ (∀ (r : Reg) (n : Nat), s.reg r n = BitVec.ofNat 32 r.row.reset) ∧
    (∀ n : Fin 12, s.rst n = stOff ∧ s.live n = false) ∧ s.alertLine = false ∧ s.alertPending = false ∧ AckSound s ∧ s.regs.wf = true ∧
    memWf 0 s.flash.staging = true ∧ memWf erased s.flash.fwA.bytes = true ∧ memWf erased s.flash.fwB.bytes = true ∧
    memWf erased s.flash.rigA.bytes = true ∧ memWf erased s.flash.rigB.bytes = true

/-- The gates of a host write (R8, R309, R316, R321, R415, R441): a device that is not ready changes nothing, an absent element's register
discards the word with AWERR, a word that its register discards sets its flags alone, and a repeated tag is counted or sets TAGERR. Words
written read back: the register holds what the access rules leave of the word, and every other register keeps its own; the register file,
the staging memory and a slot that is programmed keep their canonical form. (Where the rules leave a reading open it is the model's: log
entries 42, 43.) -/
def Obligations.HostWriteGates : Prop :=
  ∀ (s : State) (r : Reg) (n : Nat) (w : Word), let k := s.keyOf r n
    (s.ready = false → s.regWrite r n w = s) ∧
    (s.ready = true → s.power.mode = .running →
      (s.absentReg r k = true → s.regWrite r n w = s.raise GLB_STATUS.AWERR 0 ∧ s.readWord r n = 0) ∧
      (s.absentReg r k = false →
        (∀ fs, s.refuses r k w = some fs →
          (∀ f ∈ fs, (s.regWrite r n w).flag f.1 f.2 = true) ∧ (s.regWrite r n w).rails = s.rails ∧
            OnlyRegs s (s.regWrite r n w) (⟨.HB_STATUS, 0⟩ :: fs.map fun f => ⟨f.1.reg, f.2⟩)) ∧
        (s.refuses r k w = none → s.tagSays r n w = .duplicate →
          (s.regWrite r n w).fld HB_CNT.DUPCNT 0 = satNat 65535 (s.fld HB_CNT.DUPCNT 0 + 1) ∧
            (s.regWrite r n w).flag HB_STATUS.TAGERR 0 = s.flag HB_STATUS.TAGERR 0 ∧
            OnlyRegs s (s.regWrite r n w) [⟨.HB_CNT, 0⟩, ⟨.HB_STATUS, 0⟩] ∧ (s.regWrite r n w).rails = s.rails) ∧
        (s.refuses r k w = none → s.tagSays r n w = .clash →
          (s.regWrite r n w).flag HB_STATUS.TAGERR 0 = true ∧
            OnlyRegs s (s.regWrite r n w) [⟨.HB_STATUS, 0⟩] ∧ (s.regWrite r n w).rails = s.rails))) ∧
    ((s.writeReg r k w).reg r k = w ∧ ∀ k' : RKey, k' ≠ ⟨r, k⟩ → (s.writeReg r k w).regs.get k' = s.regs.get k') ∧
    (s.regs.wf = true → (s.writeReg r k w).regs.wf = true) ∧
    (∀ a, memWf 0 s.flash.staging = true → memWf 0 (s.stagingPut a w).flash.staging = true) ∧
    ∀ (b : Bool) (ofs : Nat) (data : List Byte),
      memWf erased (s.fw b).bytes = true → memWf erased (programBytes (s.fw b).bytes ofs data) = true

/-- R420: an alert is pending while ALR_SUM.PEND is 1. A mask hides a source from ALERT# only: the source's flags set, and ALR_SUM.SRC,
ALR_RAIL, ALR_PHLO, ALR_PHHI and ALR_ST show them, as they would without the mask. A written mask decides at once, together with the flags
as they stand, and leaves no alert acknowledged. -/
def Obligations.MasksHideAlertOnly : Prop :=
  ∀ s : State,
    (s.alertPending = true ↔ bitAt (s.readWord .ALR_SUM 0).toNat 31 = true) ∧
    (s.alertPending = true ↔ ∃ k, bitAt (s.readWord .ALR_SUM 0).toNat k = true ∧ k < 15 ∧ bitAt (s.fld ALR_MASK.MASK 0) k = false) ∧
    (s.alertLine = true → s.alertPending = true) ∧
    ∀ m : Nat, let t := s.setFld ALR_MASK.MASK 0 m
      t.alertFlags = s.alertFlags ∧ (t.readWord .ALR_SUM 0).toNat % 2 ^ 15 = (s.readWord .ALR_SUM 0).toNat % 2 ^ 15 ∧
        (∀ r : Reg, r = .ALR_RAIL ∨ r = .ALR_PHLO ∨ r = .ALR_PHHI ∨ r = .ALR_ST → t.readWord r 0 = s.readWord r 0) ∧
        ((∀ k, bitAt s.alertSources k = true → bitAt (m % 2 ^ 15) k = true) → t.alertPending = false) ∧
        ∀ w : Word, s.ready = true → s.power.mode = .running →
          let u := s.regWrite .ALR_MASK 0 w
          u.alertFlags = s.alertFlags ∧ u.fld ALR_MASK.MASK 0 = w.toNat % 2 ^ 15 ∧ u.flag HB_STATUS.ACKD 0 = false

/-- R112 and R113: an accumulator of weight w_A is narrowed to round_half_even(A × 2^(w_A − w_o)), exactly when w_A ≥ w_o, to the nearest
end of the word's range where it lies outside, and then with NAR; a block takes the smallest exponent from 0 to 31 at which every
narrowing fits, 31 with NAR where none does; in fraction mode every result has the fixed weight of its stage. -/
def Obligations.NarrowAndNormalise : Prop :=
  (∀ (frac : Bool) (a wa wo : Int), let r := narrow frac ⟨a, wa⟩ wo
    let top : Int := if frac then 32768 else 131072
    ∃ v : Int, r.1 = (if v < -top then -top else if top ≤ v then top - 1 else v) ∧ r.2 = decide (v < -top ∨ top ≤ v) ∧
      (wo ≤ wa → v = a * 2 ^ (wa - wo).toNat) ∧
      (wa < wo → 2 * (a - v * 2 ^ (wo - wa).toNat).natAbs ≤ 2 ^ (wo - wa).toNat ∧
        (2 * (a - v * 2 ^ (wo - wa).toNat).natAbs = 2 ^ (wo - wa).toNat → v % 2 = 0))) ∧
  (∀ (fx : Nat) (xs : List Term), let r := settleBlock false fx xs
    let fits := fun (e : Nat) => ∀ x ∈ xs, (narrow false x ((e : Int) - 24)).2 = false
    r.2.1 ≤ 31 ∧ (∀ e < r.2.1, ¬ fits e) ∧ ((∃ e ≤ 31, fits e) → fits r.2.1 ∧ r.2.2 = false) ∧
      ((¬ ∃ e ≤ 31, fits e) → r.2.1 = 31 ∧ r.2.2 = true) ∧ r.1 = xs.map fun x => (narrow false x ((r.2.1 : Int) - 24)).1) ∧
  (∀ (fx : Nat) (xs : List Term), let r := settleBlock true fx xs
    r.2.1 = fx ∧ r.1 = xs.map fun x => (narrow true x ((fx : Int) - 22)).1) ∧
  ∀ (frac : Bool) (fx : Nat) (x : Term),
    let r := settleOne frac fx x
    let b := settleBlock frac fx [x]
    b.1 = [r.1] ∧ b.2.1 = r.2.1 ∧ b.2.2 = r.2.2
end

