-- ==== Sys2Proof/Laws/Regs.lean ====
section
/-! SUPPORT. Laws/Regs.lean: what the register file, its fields and the addressed memories do: read after write, and
that every write keeps the canonical form. -/
namespace Sys2Proof.Machine

theorem RKey.before_iff (a b : RKey) :
    a.before b = true ↔ a.reg.ctorIdx < b.reg.ctorIdx ∨ (a.reg.ctorIdx = b.reg.ctorIdx ∧ a.n < b.n) := by
  simp [RKey.before]

theorem Reg.eq_of_ctorIdx : ∀ a b : Reg, a.ctorIdx = b.ctorIdx → a = b := by
  intro a b h
  have hs : ∀ c : Reg, Reg.ofNat c.ctorIdx = c := by intro c; cases c <;> rfl
  rw [← hs a, ← hs b, h]

theorem RKey.eq_of_not_before {a b : RKey} (h : a.before b = false) (h' : b.before a = false) : a = b := by
  have h1 := mt (RKey.before_iff a b).2 (by simp [h])
  have h2 := mt (RKey.before_iff b a).2 (by simp [h'])
  obtain ⟨ra, na⟩ := a
  obtain ⟨rb, nb⟩ := b
  simp only at h1 h2
  have e : ra = rb := Reg.eq_of_ctorIdx _ _ (by omega)
  have : na = nb := by subst e; omega
  subst e this; rfl

theorem RKey.before_trans {a b c : RKey} (h : a.before b = true) (h' : b.before c = true) : a.before c = true := by
  rw [RKey.before_iff] at *; omega

theorem RKey.before_irrefl (a : RKey) : a.before a = false := by
  simp [RKey.before]

theorem RegFile.get_drop_same (f : RegFile) (k : RKey) : (f.drop k).get k = k.dflt := by
  induction f with
  | nil => rfl
  | cons e r ih =>
    by_cases h : e.1 = k
    · simp [RegFile.drop, h, ih]
    · simp [RegFile.drop, h, RegFile.get, ih]

theorem RegFile.get_drop_ne (f : RegFile) {k j : RKey} (h : j ≠ k) : (f.drop k).get j = f.get j := by
  induction f with
  | nil => rfl
  | cons e r ih =>
    by_cases hk : e.1 = k
    · have : e.1 ≠ j := fun x => h (x ▸ hk)
      simp [RegFile.drop, RegFile.get, hk, ih, Ne.symm h]
    · rw [RegFile.drop, if_neg hk, RegFile.get, RegFile.get, ih]

theorem RegFile.get_ins_same (f : RegFile) (k : RKey) (w : Word) (h : f.drop k = f) : (f.ins (k, w)).get k = w := by
  induction f with
  | nil => simp [RegFile.ins, RegFile.get]
  | cons e r ih =>
    have he : e.1 ≠ k := by
      intro he
      simp only [RegFile.drop, he, if_true] at h
      have hl : ∀ q : RegFile, (RegFile.drop q k).length ≤ q.length := by
        intro q
        induction q with
        | nil => simp [RegFile.drop]
        | cons d q iq => by_cases hd : d.1 = k <;> simp [RegFile.drop, hd] <;> omega
      have := hl r
      rw [h] at this
      simp at this
    simp only [RegFile.drop, he, if_false, List.cons.injEq, true_and] at h
    by_cases hb : k.before e.1 <;> simp [RegFile.ins, RegFile.get, hb, he, ih h]

theorem RegFile.get_ins_ne (f : RegFile) {k j : RKey} (w : Word) (h : j ≠ k) : (f.ins (k, w)).get j = f.get j := by
  induction f with
  | nil => simp [RegFile.ins, RegFile.get, Ne.symm h]
  | cons e r ih =>
    by_cases hb : k.before e.1
    · simp [RegFile.ins, RegFile.get, hb, Ne.symm h]
    · rw [RegFile.ins, if_neg hb, RegFile.get, RegFile.get, ih]

theorem RegFile.drop_drop (f : RegFile) (k : RKey) : (f.drop k).drop k = f.drop k := by
  induction f with
  | nil => rfl
  | cons e r ih => by_cases h : e.1 = k <;> simp [RegFile.drop, h, ih]

/-- A register reads the word it was set to. -/
@[simp] theorem RegFile.get_put_same (f : RegFile) (k : RKey) (w : Word) : (f.put k w).get k = w := by
  unfold RegFile.put
  split
  · rename_i h; rw [RegFile.get_drop_same, h]
  · exact RegFile.get_ins_same _ _ _ (RegFile.drop_drop f k)

/-- Setting a register leaves every other one. -/
theorem RegFile.get_put_ne (f : RegFile) {k j : RKey} (w : Word) (h : j ≠ k) : (f.put k w).get j = f.get j := by
  unfold RegFile.put
  split
  · exact RegFile.get_drop_ne f h
  · rw [RegFile.get_ins_ne _ _ h, RegFile.get_drop_ne f h]

theorem RegFile.get_put (f : RegFile) (k j : RKey) (w : Word) : (f.put k w).get j = if j = k then w else f.get j := by
  split
  · subst_vars; simp
  · rename_i h; exact RegFile.get_put_ne f w h

theorem RegFile.drop_all (f : RegFile) (k : RKey) (p : RKey × Word → Bool) (h : f.all p = true) :
    (f.drop k).all p = true := by
  induction f with
  | nil => rfl
  | cons e r ih =>
    simp only [List.all_cons, Bool.and_eq_true] at h
    by_cases hk : e.1 = k
    · simpa [RegFile.drop, hk] using ih h.2
    · simp [RegFile.drop, hk, h.1]; simpa using ih h.2

theorem RegFile.wf_drop (f : RegFile) (k : RKey) (h : f.wf = true) : (f.drop k).wf = true := by
  induction f with
  | nil => rfl
  | cons e r ih =>
    simp only [RegFile.wf, Bool.and_eq_true] at h
    by_cases hk : e.1 = k
    · simpa [RegFile.drop, hk] using ih h.2
    · simp only [RegFile.drop, hk, if_false, RegFile.wf, Bool.and_eq_true]
      exact ⟨⟨h.1.1, RegFile.drop_all r k _ h.1.2⟩, ih h.2⟩

theorem RegFile.ins_all (f : RegFile) (e : RKey × Word) (p : RKey × Word → Bool) (h : f.all p = true)
    (he : p e = true) : (f.ins e).all p = true := by
  induction f with
  | nil => simp [RegFile.ins, he]
  | cons d r ih =>
    simp only [List.all_cons, Bool.and_eq_true] at h
    by_cases hb : e.1.before d.1
    · simp [RegFile.ins, hb, he, h.1]; simpa using h.2
    · simp [RegFile.ins, hb, h.1]; simpa using ih h.2

theorem RegFile.drop_ne (f : RegFile) (k : RKey) : (f.drop k).all (fun e => decide (e.1 ≠ k)) = true := by
  induction f with
  | nil => rfl
  | cons e r ih => by_cases h : e.1 = k <;> simp [RegFile.drop, h] <;> simpa using ih

theorem RegFile.wf_ins (f : RegFile) (k : RKey) (w : Word) (h : f.wf = true) (hw : w ≠ k.dflt)
    (hk : f.all (fun e => decide (e.1 ≠ k)) = true) : (f.ins (k, w)).wf = true := by
  induction f with
  | nil => simp [RegFile.ins, RegFile.wf, hw]
  | cons d r ih =>
    simp only [RegFile.wf, Bool.and_eq_true, List.all_cons, decide_eq_true_eq] at h hk
    by_cases hb : k.before d.1
    · rw [RegFile.ins, if_pos hb]
      simp only [RegFile.wf, Bool.and_eq_true, List.all_cons, decide_eq_true_eq]
      refine ⟨⟨hw, hb, ?_⟩, h⟩
      rw [List.all_eq_true] at *
      exact fun x hx => RKey.before_trans hb (h.1.2 x hx)
    · have hd : d.1.before k = true := by
        by_contra hn
        exact hk.1 (RKey.eq_of_not_before (by simpa using hn) (by simpa using hb))
      rw [RegFile.ins, if_neg hb]
      simp only [RegFile.wf, Bool.and_eq_true, decide_eq_true_eq]
      exact ⟨⟨h.1.1, RegFile.ins_all r _ _ h.1.2 hd⟩, ih h.2 hk.2⟩

/-- Every write of a register keeps the canonical form of the register file. -/
theorem RegFile.wf_put (f : RegFile) (k : RKey) (w : Word) (h : f.wf = true) : (f.put k w).wf = true := by
  unfold RegFile.put
  split
  · exact RegFile.wf_drop f k h
  · rename_i hw; exact RegFile.wf_ins _ _ _ (RegFile.wf_drop f k h) hw (RegFile.drop_ne f k)

/-! Registers and fields of the state. -/

theorem State.reg_setReg (s : State) (r q : Reg) (n m : Nat) (w : Word) :
    (s.setReg r n w).reg q m = if (⟨q, m⟩ : RKey) = ⟨r, n⟩ then w else s.reg q m := RegFile.get_put ..

@[simp] theorem State.reg_setReg_same (s : State) (r : Reg) (n : Nat) (w : Word) : (s.setReg r n w).reg r n = w :=
  RegFile.get_put_same ..

theorem State.reg_setReg_ne (s : State) {r q : Reg} {n m : Nat} (w : Word) (h : q ≠ r ∨ m ≠ n) :
    (s.setReg r n w).reg q m = s.reg q m := by
  refine RegFile.get_put_ne _ _ ?_
  intro e; cases e; cases h <;> contradiction

@[simp] theorem State.regs_get (s : State) (k : RKey) : s.regs.get k = s.reg k.reg k.n := rfl

theorem setBits_toNat (w : Word) (lo width v : Nat) (h : lo + width ≤ 32) :
    (setBits w lo width v).toNat =
      w.toNat / 2 ^ (lo + width) * 2 ^ (lo + width) + v % 2 ^ width * 2 ^ lo + w.toNat % 2 ^ lo := by
  unfold setBits
  rw [BitVec.toNat_ofNat, Nat.mod_eq_of_lt]
  have hw := w.isLt
  have e : 2 ^ (lo + width) = 2 ^ lo * 2 ^ width := Nat.pow_add ..
  have a : v % 2 ^ width ≤ 2 ^ width - 1 := Nat.le_sub_one_of_lt (Nat.mod_lt _ (by positivity))
  have b : w.toNat % 2 ^ lo < 2 ^ lo := Nat.mod_lt _ (by positivity)
  have c : v % 2 ^ width * 2 ^ lo + w.toNat % 2 ^ lo < 2 ^ (lo + width) := by
    calc _ < v % 2 ^ width * 2 ^ lo + 2 ^ lo := by omega
      _ = (v % 2 ^ width + 1) * 2 ^ lo := by ring
      _ ≤ 2 ^ width * 2 ^ lo := Nat.mul_le_mul_right _ (by have := Nat.mod_lt v (show 0 < 2 ^ width by positivity); omega)
      _ = _ := by rw [e]; ring
  have d : w.toNat / 2 ^ (lo + width) < 2 ^ (32 - (lo + width)) := by
    rw [Nat.div_lt_iff_lt_mul (by positivity), ← Nat.pow_add]
    rwa [show 32 - (lo + width) + (lo + width) = 32 by omega]
  calc _ < w.toNat / 2 ^ (lo + width) * 2 ^ (lo + width) + 2 ^ (lo + width) := by omega
    _ = (w.toNat / 2 ^ (lo + width) + 1) * 2 ^ (lo + width) := by ring
    _ ≤ 2 ^ (32 - (lo + width)) * 2 ^ (lo + width) := Nat.mul_le_mul_right _ d
    _ = 2 ^ 32 := by rw [← Nat.pow_add]; congr 1; omega

/-- A field reads the low bits of the number it was set to. -/
theorem bitsOf_setBits_same (w : Word) (lo width v : Nat) (h : lo + width ≤ 32) :
    bitsOf (setBits w lo width v).toNat lo width = v % 2 ^ width := by
  rw [setBits_toNat w lo width v h, bitsOf]
  have e : 2 ^ (lo + width) = 2 ^ width * 2 ^ lo := by rw [Nat.add_comm, Nat.pow_add]
  have p : 0 < 2 ^ lo := by positivity
  rw [e, ← Nat.mul_assoc, ← Nat.add_mul, Nat.add_comm, Nat.add_mul_div_right _ _ p,
    Nat.div_eq_of_lt (Nat.mod_lt _ p), Nat.zero_add, Nat.mul_comm, Nat.add_comm, Nat.add_mul_mod_self_left]
  exact Nat.mod_mod ..

/-- Setting a field leaves every bit outside it. -/
theorem testBit_setBits (w : Word) (lo width v i : Nat) (h : lo + width ≤ 32) :
    (setBits w lo width v).toNat.testBit i =
      if lo ≤ i ∧ i < lo + width then v.testBit (i - lo) else w.toNat.testBit i := by
  rw [setBits_toNat w lo width v h]
  have e : 2 ^ (lo + width) = 2 ^ lo * 2 ^ width := Nat.pow_add ..
  have b : w.toNat % 2 ^ lo < 2 ^ lo := Nat.mod_lt _ (by positivity)
  have r : w.toNat / 2 ^ (lo + width) * 2 ^ (lo + width) + v % 2 ^ width * 2 ^ lo + w.toNat % 2 ^ lo
      = 2 ^ lo * (2 ^ width * (w.toNat / 2 ^ (lo + width)) + v % 2 ^ width) + w.toNat % 2 ^ lo := by
    rw [e]; ring
  rw [r, Nat.testBit_two_pow_mul_add _ b]
  by_cases h1 : i < lo
  · simp [h1, Nat.testBit_mod_two_pow]
  · rw [if_neg h1, Nat.testBit_two_pow_mul_add _ (Nat.mod_lt _ (by positivity)), Nat.testBit_mod_two_pow]
    by_cases h2 : i - lo < width
    · have : lo ≤ i ∧ i < lo + width := by omega
      simp [h2, this]
    · have : ¬ (lo ≤ i ∧ i < lo + width) := by omega
      rw [if_neg h2, if_neg this, Nat.testBit_div_two_pow]
      congr 1; omega

theorem bitsOf_setBits_ne (w : Word) (lo width v lo' width' : Nat) (h : lo + width ≤ 32)
    (d : lo' + width' ≤ lo ∨ lo + width ≤ lo') :
    bitsOf (setBits w lo width v).toNat lo' width' = bitsOf w.toNat lo' width' := by
  unfold bitsOf
  apply Nat.eq_of_testBit_eq
  intro i
  rw [Nat.testBit_mod_two_pow, Nat.testBit_mod_two_pow, Nat.testBit_div_two_pow, Nat.testBit_div_two_pow,
    testBit_setBits _ _ _ _ _ h]
  by_cases hi : i < width'
  · have : ¬ (lo ≤ i + lo' ∧ i + lo' < lo + width) := by omega
    rw [if_neg this]
  · simp [hi]

theorem State.reg_setFld (s : State) (f : Fld) (q : Reg) (n v m : Nat) :
    (s.setFld f n v).reg q m =
      if (⟨q, m⟩ : RKey) = ⟨f.reg, n⟩ then setBits (s.reg f.reg n) f.lo f.width v else s.reg q m :=
  State.reg_setReg ..

theorem State.reg_setFld_ne (s : State) (f : Fld) {q : Reg} {n m : Nat} (v : Nat) (h : q ≠ f.reg ∨ m ≠ n) :
    (s.setFld f n v).reg q m = s.reg q m := State.reg_setReg_ne s _ h

/-- A field set to a number reads its low bits. -/
theorem State.fld_setFld_same (s : State) (f : Fld) (n v : Nat) (h : f.lo + f.width ≤ 32) :
    (s.setFld f n v).fld f n = v % 2 ^ f.width := by
  rw [State.fld, State.reg_setFld, if_pos rfl]
  exact bitsOf_setBits_same _ _ _ _ h

/-- Setting a field leaves every field that shares no bit with it. -/
theorem State.fld_setFld_ne (s : State) (f g : Fld) (n m v : Nat) (h : f.lo + f.width ≤ 32)
    (d : g.reg ≠ f.reg ∨ m ≠ n ∨ g.lo + g.width ≤ f.lo ∨ f.lo + f.width ≤ g.lo) :
    (s.setFld f n v).fld g m = s.fld g m := by
  simp only [State.fld, State.reg_setFld]
  split
  · rename_i e
    cases g with | mk gr gl gw =>
    cases e
    simp only [ne_eq, not_true_eq_false, false_or] at d
    exact bitsOf_setBits_ne _ _ _ _ _ _ h d
  · rfl

/-! Addressed memories. -/

theorem memGet_drop_same (fill : Byte) (m : List Host.Cell) (a : Nat) : memGet fill (memDrop m a) a = fill := by
  induction m with
  | nil => rfl
  | cons e r ih => by_cases h : e.1 = a <;> simp [memDrop, memGet, h, ih]

theorem memGet_drop_ne (fill : Byte) (m : List Host.Cell) {a b : Nat} (h : b ≠ a) :
    memGet fill (memDrop m a) b = memGet fill m b := by
  induction m with
  | nil => rfl
  | cons e r ih =>
    by_cases ha : e.1 = a
    · simp [memDrop, memGet, ha, ih, Ne.symm h]
    · rw [memDrop, if_neg ha, memGet, memGet, ih]

theorem memDrop_ne (m : List Host.Cell) (a : Nat) : (memDrop m a).all (fun e => decide (e.1 ≠ a)) = true := by
  induction m with
  | nil => rfl
  | cons e r ih => by_cases h : e.1 = a <;> simp [memDrop, h] <;> simpa using ih

theorem memGet_ins (fill : Byte) (m : List Host.Cell) (a b : Nat) (v : Byte)
    (h : m.all (fun e => decide (e.1 ≠ a)) = true) :
    memGet fill (memIns m (a, v)) b = if b = a then v else memGet fill m b := by
  induction m with
  | nil => simp only [memIns, memGet, eq_comm]
  | cons e r ih =>
    simp only [List.all_cons, Bool.and_eq_true, decide_eq_true_eq] at h
    by_cases hl : a < e.1
    · rw [memIns, if_pos hl, memGet]; simp only [eq_comm]
    · by_cases he : e.1 = b
      · have : b ≠ a := he ▸ h.1
        rw [memIns, if_neg hl, memGet, memGet, if_pos he, if_neg this, if_pos he]
      · simp [memIns, memGet, hl, he, ih h.2]

/-- Read after write: the byte at the address, every other byte as before. -/
theorem memGet_put (fill : Byte) (m : List Host.Cell) (a b : Nat) (v : Byte) :
    memGet fill (memPut fill m a v) b = if b = a then v else memGet fill m b := by
  unfold memPut
  by_cases hv : v = fill
  · by_cases hb : b = a
    · simp [hv, hb, memGet_drop_same]
    · simp [hv, hb, memGet_drop_ne fill m hb]
  · rw [if_neg hv, memGet_ins fill _ a b v (memDrop_ne m a)]
    by_cases hb : b = a
    · simp [hb]
    · simp [hb, memGet_drop_ne fill m hb]

theorem memDrop_all (m : List Host.Cell) (a : Nat) (p : Host.Cell → Bool) (h : m.all p = true) :
    (memDrop m a).all p = true := by
  induction m with
  | nil => rfl
  | cons e r ih =>
    simp only [List.all_cons, Bool.and_eq_true] at h
    by_cases hk : e.1 = a
    · simpa [memDrop, hk] using ih h.2
    · simp [memDrop, hk, h.1]; simpa using ih h.2

theorem memWf_drop (fill : Byte) (m : List Host.Cell) (a : Nat) (h : memWf fill m = true) :
    memWf fill (memDrop m a) = true := by
  induction m with
  | nil => rfl
  | cons e r ih =>
    simp only [memWf, Bool.and_eq_true] at h
    by_cases hk : e.1 = a
    · simpa [memDrop, hk] using ih h.2
    · simp only [memDrop, hk, if_false, memWf, Bool.and_eq_true]
      exact ⟨⟨h.1.1, memDrop_all r a _ h.1.2⟩, ih h.2⟩

theorem memIns_all (m : List Host.Cell) (e : Host.Cell) (p : Host.Cell → Bool) (h : m.all p = true)
    (he : p e = true) : (memIns m e).all p = true := by
  induction m with
  | nil => simp [memIns, he]
  | cons d r ih =>
    simp only [List.all_cons, Bool.and_eq_true] at h
    by_cases hb : e.1 < d.1
    · simp [memIns, hb, he, h.1]; simpa using h.2
    · simp [memIns, hb, h.1]; simpa using ih h.2

theorem memWf_ins (fill : Byte) (m : List Host.Cell) (a : Nat) (v : Byte) (h : memWf fill m = true) (hv : v ≠ fill)
    (hk : m.all (fun e => decide (e.1 ≠ a)) = true) : memWf fill (memIns m (a, v)) = true := by
  induction m with
  | nil => simp [memIns, memWf, hv]
  | cons d r ih =>
    simp only [memWf, Bool.and_eq_true, List.all_cons, decide_eq_true_eq] at h hk
    by_cases hb : a < d.1
    · rw [memIns, if_pos hb]
      simp only [memWf, Bool.and_eq_true, List.all_cons, decide_eq_true_eq]
      refine ⟨⟨hv, hb, ?_⟩, h⟩
      rw [List.all_eq_true] at *
      intro x hx
      have := h.1.2 x hx
      simp only [decide_eq_true_eq] at *
      omega
    · have hd : d.1 < a := by omega
      rw [memIns, if_neg hb]
      simp only [memWf, Bool.and_eq_true, decide_eq_true_eq]
      exact ⟨⟨h.1.1, memIns_all r _ _ h.1.2 (by simpa using hd)⟩, ih h.2 hk.2⟩

/-- Every write of a byte keeps the canonical form of a memory. -/
theorem memWf_put (fill : Byte) (m : List Host.Cell) (a : Nat) (v : Byte) (h : memWf fill m = true) :
    memWf fill (memPut fill m a v) = true := by
  unfold memPut
  split
  · exact memWf_drop fill m a h
  · rename_i hv; exact memWf_ins fill _ a v (memWf_drop fill m a h) hv (memDrop_ne m a)

/-- Every write of bytes keeps the canonical form of a memory. -/
theorem memWf_putAll (fill : Byte) (bs : List Byte) : ∀ (m : List Host.Cell) (a : Nat), memWf fill m = true →
    memWf fill (memPutAll fill m a bs) = true := by
  induction bs with
  | nil => exact fun m a h => h
  | cons b r ih => exact fun m a h => ih _ _ (memWf_put fill m a b h)

/-- The bytes outside the ones written are as before. -/
theorem memGet_putAll_out (fill : Byte) (bs : List Byte) : ∀ (m : List Host.Cell) (a b : Nat),
    b < a ∨ a + bs.length ≤ b → memGet fill (memPutAll fill m a bs) b = memGet fill m b := by
  induction bs with
  | nil => exact fun m a b h => rfl
  | cons x r ih =>
    intro m a b h
    simp only [List.length_cons] at h
    rw [memPutAll, ih _ _ _ (by omega), memGet_put, if_neg (by omega)]

end Sys2Proof.Machine
end

