-- ==== Sys2Proof/Laws/State.lean ====
section
/-! SUPPORT. Laws/State.lean: what each named update of the state leaves unchanged, one lemma for each field and update. -/
namespace Sys2Proof.Machine

variable (s : State)

@[simp] theorem State.setReg_wlog (r : Reg) (n : Nat) (w : Word) : (s.setReg r n w).wlog = s.wlog := rfl
@[simp] theorem State.setReg_hot (r : Reg) (n : Nat) (w : Word) : (s.setReg r n w).hot = s.hot := rfl
@[simp] theorem State.setReg_now (r : Reg) (n : Nat) (w : Word) : (s.setReg r n w).now = s.now := rfl
@[simp] theorem State.setReg_skew (r : Reg) (n : Nat) (w : Word) : (s.setReg r n w).skew = s.skew := rfl
@[simp] theorem State.setReg_quiet (r : Reg) (n : Nat) (w : Word) : (s.setReg r n w).quiet = s.quiet := rfl
@[simp] theorem State.setReg_small (r : Reg) (n : Nat) (w : Word) : (s.setReg r n w).small = s.small := rfl
@[simp] theorem State.setReg_frees (r : Reg) (n : Nat) (w : Word) : (s.setReg r n w).frees = s.frees := rfl
@[simp] theorem State.setReg_pending (r : Reg) (n : Nat) (w : Word) : (s.setReg r n w).pending = s.pending := rfl
@[simp] theorem State.setReg_active (r : Reg) (n : Nat) (w : Word) : (s.setReg r n w).active = s.active := rfl
@[simp] theorem State.setReg_shadow (r : Reg) (n : Nat) (w : Word) : (s.setReg r n w).shadow = s.shadow := rfl
@[simp] theorem State.setReg_rails (r : Reg) (n : Nat) (w : Word) : (s.setReg r n w).rails = s.rails := rfl
@[simp] theorem State.setReg_phases (r : Reg) (n : Nat) (w : Word) : (s.setReg r n w).phases = s.phases := rfl
@[simp] theorem State.setReg_wins (r : Reg) (n : Nat) (w : Word) : (s.setReg r n w).wins = s.wins := rfl
@[simp] theorem State.setReg_strands (r : Reg) (n : Nat) (w : Word) : (s.setReg r n w).strands = s.strands := rfl
@[simp] theorem State.setReg_braids (r : Reg) (n : Nat) (w : Word) : (s.setReg r n w).braids = s.braids := rfl
@[simp] theorem State.setReg_time (r : Reg) (n : Nat) (w : Word) : (s.setReg r n w).time = s.time := rfl
@[simp] theorem State.setReg_tele (r : Reg) (n : Nat) (w : Word) : (s.setReg r n w).tele = s.tele := rfl
@[simp] theorem State.setReg_log (r : Reg) (n : Nat) (w : Word) : (s.setReg r n w).log = s.log := rfl
@[simp] theorem State.setReg_trace (r : Reg) (n : Nat) (w : Word) : (s.setReg r n w).trace = s.trace := rfl
@[simp] theorem State.setReg_fault (r : Reg) (n : Nat) (w : Word) : (s.setReg r n w).fault = s.fault := rfl
@[simp] theorem State.setReg_flash (r : Reg) (n : Nat) (w : Word) : (s.setReg r n w).flash = s.flash := rfl
@[simp] theorem State.setReg_power (r : Reg) (n : Nat) (w : Word) : (s.setReg r n w).power = s.power := rfl
@[simp] theorem State.setReg_links (r : Reg) (n : Nat) (w : Word) : (s.setReg r n w).links = s.links := rfl
@[simp] theorem State.setReg_lan (r : Reg) (n : Nat) (w : Word) : (s.setReg r n w).lan = s.lan := rfl
@[simp] theorem State.setReg_timers (r : Reg) (n : Nat) (w : Word) : (s.setReg r n w).timers = s.timers := rfl
@[simp] theorem State.setReg_fans (r : Reg) (n : Nat) (w : Word) : (s.setReg r n w).fans = s.fans := rfl
@[simp] theorem State.setReg_temps (r : Reg) (n : Nat) (w : Word) : (s.setReg r n w).temps = s.temps := rfl
@[simp] theorem State.setReg_bus (r : Reg) (n : Nat) (w : Word) : (s.setReg r n w).bus = s.bus := rfl
@[simp] theorem State.setReg_rig (r : Reg) (n : Nat) (w : Word) : (s.setReg r n w).rig = s.rig := rfl
@[simp] theorem State.setReg_pins (r : Reg) (n : Nat) (w : Word) : (s.setReg r n w).pins = s.pins := rfl
@[simp] theorem State.setReg_undo (r : Reg) (n : Nat) (w : Word) : (s.setReg r n w).undo = s.undo := rfl

@[simp] theorem State.setFld_wlog (g : Fld) (n v : Nat) : (s.setFld g n v).wlog = s.wlog := rfl
@[simp] theorem State.setFld_now (g : Fld) (n v : Nat) : (s.setFld g n v).now = s.now := rfl
@[simp] theorem State.setFld_skew (g : Fld) (n v : Nat) : (s.setFld g n v).skew = s.skew := rfl
@[simp] theorem State.setFld_quiet (g : Fld) (n v : Nat) : (s.setFld g n v).quiet = s.quiet := rfl
@[simp] theorem State.setFld_small (g : Fld) (n v : Nat) : (s.setFld g n v).small = s.small := rfl
@[simp] theorem State.setFld_frees (g : Fld) (n v : Nat) : (s.setFld g n v).frees = s.frees := rfl
@[simp] theorem State.setFld_pending (g : Fld) (n v : Nat) : (s.setFld g n v).pending = s.pending := rfl
@[simp] theorem State.setFld_active (g : Fld) (n v : Nat) : (s.setFld g n v).active = s.active := rfl
@[simp] theorem State.setFld_shadow (g : Fld) (n v : Nat) : (s.setFld g n v).shadow = s.shadow := rfl
@[simp] theorem State.setFld_rails (g : Fld) (n v : Nat) : (s.setFld g n v).rails = s.rails := rfl
@[simp] theorem State.setFld_phases (g : Fld) (n v : Nat) : (s.setFld g n v).phases = s.phases := rfl
@[simp] theorem State.setFld_wins (g : Fld) (n v : Nat) : (s.setFld g n v).wins = s.wins := rfl
@[simp] theorem State.setFld_strands (g : Fld) (n v : Nat) : (s.setFld g n v).strands = s.strands := rfl
@[simp] theorem State.setFld_braids (g : Fld) (n v : Nat) : (s.setFld g n v).braids = s.braids := rfl
@[simp] theorem State.setFld_time (g : Fld) (n v : Nat) : (s.setFld g n v).time = s.time := rfl
@[simp] theorem State.setFld_tele (g : Fld) (n v : Nat) : (s.setFld g n v).tele = s.tele := rfl
@[simp] theorem State.setFld_log (g : Fld) (n v : Nat) : (s.setFld g n v).log = s.log := rfl
@[simp] theorem State.setFld_trace (g : Fld) (n v : Nat) : (s.setFld g n v).trace = s.trace := rfl
@[simp] theorem State.setFld_fault (g : Fld) (n v : Nat) : (s.setFld g n v).fault = s.fault := rfl
@[simp] theorem State.setFld_flash (g : Fld) (n v : Nat) : (s.setFld g n v).flash = s.flash := rfl
@[simp] theorem State.setFld_power (g : Fld) (n v : Nat) : (s.setFld g n v).power = s.power := rfl
@[simp] theorem State.setFld_links (g : Fld) (n v : Nat) : (s.setFld g n v).links = s.links := rfl
@[simp] theorem State.setFld_lan (g : Fld) (n v : Nat) : (s.setFld g n v).lan = s.lan := rfl
@[simp] theorem State.setFld_timers (g : Fld) (n v : Nat) : (s.setFld g n v).timers = s.timers := rfl
@[simp] theorem State.setFld_fans (g : Fld) (n v : Nat) : (s.setFld g n v).fans = s.fans := rfl
@[simp] theorem State.setFld_temps (g : Fld) (n v : Nat) : (s.setFld g n v).temps = s.temps := rfl
@[simp] theorem State.setFld_bus (g : Fld) (n v : Nat) : (s.setFld g n v).bus = s.bus := rfl
@[simp] theorem State.setFld_rig (g : Fld) (n v : Nat) : (s.setFld g n v).rig = s.rig := rfl
@[simp] theorem State.setFld_pins (g : Fld) (n v : Nat) : (s.setFld g n v).pins = s.pins := rfl
@[simp] theorem State.setFld_undo (g : Fld) (n v : Nat) : (s.setFld g n v).undo = s.undo := rfl

@[simp] theorem State.setFldS_wlog (g : Fld) (n : Nat) (v : Int) : (s.setFldS g n v).wlog = s.wlog := rfl
@[simp] theorem State.setFldS_now (g : Fld) (n : Nat) (v : Int) : (s.setFldS g n v).now = s.now := rfl
@[simp] theorem State.setFldS_skew (g : Fld) (n : Nat) (v : Int) : (s.setFldS g n v).skew = s.skew := rfl
@[simp] theorem State.setFldS_quiet (g : Fld) (n : Nat) (v : Int) : (s.setFldS g n v).quiet = s.quiet := rfl
@[simp] theorem State.setFldS_small (g : Fld) (n : Nat) (v : Int) : (s.setFldS g n v).small = s.small := rfl
@[simp] theorem State.setFldS_frees (g : Fld) (n : Nat) (v : Int) : (s.setFldS g n v).frees = s.frees := rfl
@[simp] theorem State.setFldS_pending (g : Fld) (n : Nat) (v : Int) : (s.setFldS g n v).pending = s.pending := rfl
@[simp] theorem State.setFldS_active (g : Fld) (n : Nat) (v : Int) : (s.setFldS g n v).active = s.active := rfl
@[simp] theorem State.setFldS_shadow (g : Fld) (n : Nat) (v : Int) : (s.setFldS g n v).shadow = s.shadow := rfl
@[simp] theorem State.setFldS_rails (g : Fld) (n : Nat) (v : Int) : (s.setFldS g n v).rails = s.rails := rfl
@[simp] theorem State.setFldS_phases (g : Fld) (n : Nat) (v : Int) : (s.setFldS g n v).phases = s.phases := rfl
@[simp] theorem State.setFldS_wins (g : Fld) (n : Nat) (v : Int) : (s.setFldS g n v).wins = s.wins := rfl
@[simp] theorem State.setFldS_strands (g : Fld) (n : Nat) (v : Int) : (s.setFldS g n v).strands = s.strands := rfl
@[simp] theorem State.setFldS_braids (g : Fld) (n : Nat) (v : Int) : (s.setFldS g n v).braids = s.braids := rfl
@[simp] theorem State.setFldS_time (g : Fld) (n : Nat) (v : Int) : (s.setFldS g n v).time = s.time := rfl
@[simp] theorem State.setFldS_tele (g : Fld) (n : Nat) (v : Int) : (s.setFldS g n v).tele = s.tele := rfl
@[simp] theorem State.setFldS_log (g : Fld) (n : Nat) (v : Int) : (s.setFldS g n v).log = s.log := rfl
@[simp] theorem State.setFldS_trace (g : Fld) (n : Nat) (v : Int) : (s.setFldS g n v).trace = s.trace := rfl
@[simp] theorem State.setFldS_fault (g : Fld) (n : Nat) (v : Int) : (s.setFldS g n v).fault = s.fault := rfl
@[simp] theorem State.setFldS_flash (g : Fld) (n : Nat) (v : Int) : (s.setFldS g n v).flash = s.flash := rfl
@[simp] theorem State.setFldS_power (g : Fld) (n : Nat) (v : Int) : (s.setFldS g n v).power = s.power := rfl
@[simp] theorem State.setFldS_links (g : Fld) (n : Nat) (v : Int) : (s.setFldS g n v).links = s.links := rfl
@[simp] theorem State.setFldS_lan (g : Fld) (n : Nat) (v : Int) : (s.setFldS g n v).lan = s.lan := rfl
@[simp] theorem State.setFldS_timers (g : Fld) (n : Nat) (v : Int) : (s.setFldS g n v).timers = s.timers := rfl
@[simp] theorem State.setFldS_fans (g : Fld) (n : Nat) (v : Int) : (s.setFldS g n v).fans = s.fans := rfl
@[simp] theorem State.setFldS_temps (g : Fld) (n : Nat) (v : Int) : (s.setFldS g n v).temps = s.temps := rfl
@[simp] theorem State.setFldS_bus (g : Fld) (n : Nat) (v : Int) : (s.setFldS g n v).bus = s.bus := rfl
@[simp] theorem State.setFldS_rig (g : Fld) (n : Nat) (v : Int) : (s.setFldS g n v).rig = s.rig := rfl
@[simp] theorem State.setFldS_pins (g : Fld) (n : Nat) (v : Int) : (s.setFldS g n v).pins = s.pins := rfl
@[simp] theorem State.setFldS_undo (g : Fld) (n : Nat) (v : Int) : (s.setFldS g n v).undo = s.undo := rfl

@[simp] theorem State.raise_wlog (g : Fld) (n : Nat) : (s.raise g n).wlog = s.wlog := rfl
@[simp] theorem State.raise_now (g : Fld) (n : Nat) : (s.raise g n).now = s.now := rfl
@[simp] theorem State.raise_skew (g : Fld) (n : Nat) : (s.raise g n).skew = s.skew := rfl
@[simp] theorem State.raise_quiet (g : Fld) (n : Nat) : (s.raise g n).quiet = s.quiet := rfl
@[simp] theorem State.raise_small (g : Fld) (n : Nat) : (s.raise g n).small = s.small := rfl
@[simp] theorem State.raise_frees (g : Fld) (n : Nat) : (s.raise g n).frees = s.frees := rfl
@[simp] theorem State.raise_pending (g : Fld) (n : Nat) : (s.raise g n).pending = s.pending := rfl
@[simp] theorem State.raise_active (g : Fld) (n : Nat) : (s.raise g n).active = s.active := rfl
@[simp] theorem State.raise_shadow (g : Fld) (n : Nat) : (s.raise g n).shadow = s.shadow := rfl
@[simp] theorem State.raise_rails (g : Fld) (n : Nat) : (s.raise g n).rails = s.rails := rfl
@[simp] theorem State.raise_phases (g : Fld) (n : Nat) : (s.raise g n).phases = s.phases := rfl
@[simp] theorem State.raise_wins (g : Fld) (n : Nat) : (s.raise g n).wins = s.wins := rfl
@[simp] theorem State.raise_strands (g : Fld) (n : Nat) : (s.raise g n).strands = s.strands := rfl
@[simp] theorem State.raise_braids (g : Fld) (n : Nat) : (s.raise g n).braids = s.braids := rfl
@[simp] theorem State.raise_time (g : Fld) (n : Nat) : (s.raise g n).time = s.time := rfl
@[simp] theorem State.raise_tele (g : Fld) (n : Nat) : (s.raise g n).tele = s.tele := rfl
@[simp] theorem State.raise_log (g : Fld) (n : Nat) : (s.raise g n).log = s.log := rfl
@[simp] theorem State.raise_trace (g : Fld) (n : Nat) : (s.raise g n).trace = s.trace := rfl
@[simp] theorem State.raise_fault (g : Fld) (n : Nat) : (s.raise g n).fault = s.fault := rfl
@[simp] theorem State.raise_flash (g : Fld) (n : Nat) : (s.raise g n).flash = s.flash := rfl
@[simp] theorem State.raise_power (g : Fld) (n : Nat) : (s.raise g n).power = s.power := rfl
@[simp] theorem State.raise_links (g : Fld) (n : Nat) : (s.raise g n).links = s.links := rfl
@[simp] theorem State.raise_lan (g : Fld) (n : Nat) : (s.raise g n).lan = s.lan := rfl
@[simp] theorem State.raise_timers (g : Fld) (n : Nat) : (s.raise g n).timers = s.timers := rfl
@[simp] theorem State.raise_fans (g : Fld) (n : Nat) : (s.raise g n).fans = s.fans := rfl
@[simp] theorem State.raise_temps (g : Fld) (n : Nat) : (s.raise g n).temps = s.temps := rfl
@[simp] theorem State.raise_bus (g : Fld) (n : Nat) : (s.raise g n).bus = s.bus := rfl
@[simp] theorem State.raise_rig (g : Fld) (n : Nat) : (s.raise g n).rig = s.rig := rfl
@[simp] theorem State.raise_pins (g : Fld) (n : Nat) : (s.raise g n).pins = s.pins := rfl
@[simp] theorem State.raise_undo (g : Fld) (n : Nat) : (s.raise g n).undo = s.undo := rfl

@[simp] theorem State.raiseBit_wlog (g : Fld) (n i : Nat) : (s.raiseBit g n i).wlog = s.wlog := rfl
@[simp] theorem State.raiseBit_now (g : Fld) (n i : Nat) : (s.raiseBit g n i).now = s.now := rfl
@[simp] theorem State.raiseBit_skew (g : Fld) (n i : Nat) : (s.raiseBit g n i).skew = s.skew := rfl
@[simp] theorem State.raiseBit_quiet (g : Fld) (n i : Nat) : (s.raiseBit g n i).quiet = s.quiet := rfl
@[simp] theorem State.raiseBit_small (g : Fld) (n i : Nat) : (s.raiseBit g n i).small = s.small := rfl
@[simp] theorem State.raiseBit_frees (g : Fld) (n i : Nat) : (s.raiseBit g n i).frees = s.frees := rfl
@[simp] theorem State.raiseBit_pending (g : Fld) (n i : Nat) : (s.raiseBit g n i).pending = s.pending := rfl
@[simp] theorem State.raiseBit_active (g : Fld) (n i : Nat) : (s.raiseBit g n i).active = s.active := rfl
@[simp] theorem State.raiseBit_shadow (g : Fld) (n i : Nat) : (s.raiseBit g n i).shadow = s.shadow := rfl
@[simp] theorem State.raiseBit_rails (g : Fld) (n i : Nat) : (s.raiseBit g n i).rails = s.rails := rfl
@[simp] theorem State.raiseBit_phases (g : Fld) (n i : Nat) : (s.raiseBit g n i).phases = s.phases := rfl
@[simp] theorem State.raiseBit_wins (g : Fld) (n i : Nat) : (s.raiseBit g n i).wins = s.wins := rfl
@[simp] theorem State.raiseBit_strands (g : Fld) (n i : Nat) : (s.raiseBit g n i).strands = s.strands := rfl
@[simp] theorem State.raiseBit_braids (g : Fld) (n i : Nat) : (s.raiseBit g n i).braids = s.braids := rfl
@[simp] theorem State.raiseBit_time (g : Fld) (n i : Nat) : (s.raiseBit g n i).time = s.time := rfl
@[simp] theorem State.raiseBit_tele (g : Fld) (n i : Nat) : (s.raiseBit g n i).tele = s.tele := rfl
@[simp] theorem State.raiseBit_log (g : Fld) (n i : Nat) : (s.raiseBit g n i).log = s.log := rfl
@[simp] theorem State.raiseBit_trace (g : Fld) (n i : Nat) : (s.raiseBit g n i).trace = s.trace := rfl
@[simp] theorem State.raiseBit_fault (g : Fld) (n i : Nat) : (s.raiseBit g n i).fault = s.fault := rfl
@[simp] theorem State.raiseBit_flash (g : Fld) (n i : Nat) : (s.raiseBit g n i).flash = s.flash := rfl
@[simp] theorem State.raiseBit_power (g : Fld) (n i : Nat) : (s.raiseBit g n i).power = s.power := rfl
@[simp] theorem State.raiseBit_links (g : Fld) (n i : Nat) : (s.raiseBit g n i).links = s.links := rfl
@[simp] theorem State.raiseBit_lan (g : Fld) (n i : Nat) : (s.raiseBit g n i).lan = s.lan := rfl
@[simp] theorem State.raiseBit_timers (g : Fld) (n i : Nat) : (s.raiseBit g n i).timers = s.timers := rfl
@[simp] theorem State.raiseBit_fans (g : Fld) (n i : Nat) : (s.raiseBit g n i).fans = s.fans := rfl
@[simp] theorem State.raiseBit_temps (g : Fld) (n i : Nat) : (s.raiseBit g n i).temps = s.temps := rfl
@[simp] theorem State.raiseBit_bus (g : Fld) (n i : Nat) : (s.raiseBit g n i).bus = s.bus := rfl
@[simp] theorem State.raiseBit_rig (g : Fld) (n i : Nat) : (s.raiseBit g n i).rig = s.rig := rfl
@[simp] theorem State.raiseBit_pins (g : Fld) (n i : Nat) : (s.raiseBit g n i).pins = s.pins := rfl
@[simp] theorem State.raiseBit_undo (g : Fld) (n i : Nat) : (s.raiseBit g n i).undo = s.undo := rfl

@[simp] theorem State.bump_wlog (g : Fld) (n : Nat) : (s.bump g n).wlog = s.wlog := rfl
@[simp] theorem State.bump_now (g : Fld) (n : Nat) : (s.bump g n).now = s.now := rfl
@[simp] theorem State.bump_skew (g : Fld) (n : Nat) : (s.bump g n).skew = s.skew := rfl
@[simp] theorem State.bump_quiet (g : Fld) (n : Nat) : (s.bump g n).quiet = s.quiet := rfl
@[simp] theorem State.bump_small (g : Fld) (n : Nat) : (s.bump g n).small = s.small := rfl
@[simp] theorem State.bump_frees (g : Fld) (n : Nat) : (s.bump g n).frees = s.frees := rfl
@[simp] theorem State.bump_pending (g : Fld) (n : Nat) : (s.bump g n).pending = s.pending := rfl
@[simp] theorem State.bump_active (g : Fld) (n : Nat) : (s.bump g n).active = s.active := rfl
@[simp] theorem State.bump_shadow (g : Fld) (n : Nat) : (s.bump g n).shadow = s.shadow := rfl
@[simp] theorem State.bump_rails (g : Fld) (n : Nat) : (s.bump g n).rails = s.rails := rfl
@[simp] theorem State.bump_phases (g : Fld) (n : Nat) : (s.bump g n).phases = s.phases := rfl
@[simp] theorem State.bump_wins (g : Fld) (n : Nat) : (s.bump g n).wins = s.wins := rfl
@[simp] theorem State.bump_strands (g : Fld) (n : Nat) : (s.bump g n).strands = s.strands := rfl
@[simp] theorem State.bump_braids (g : Fld) (n : Nat) : (s.bump g n).braids = s.braids := rfl
@[simp] theorem State.bump_time (g : Fld) (n : Nat) : (s.bump g n).time = s.time := rfl
@[simp] theorem State.bump_tele (g : Fld) (n : Nat) : (s.bump g n).tele = s.tele := rfl
@[simp] theorem State.bump_log (g : Fld) (n : Nat) : (s.bump g n).log = s.log := rfl
@[simp] theorem State.bump_trace (g : Fld) (n : Nat) : (s.bump g n).trace = s.trace := rfl
@[simp] theorem State.bump_fault (g : Fld) (n : Nat) : (s.bump g n).fault = s.fault := rfl
@[simp] theorem State.bump_flash (g : Fld) (n : Nat) : (s.bump g n).flash = s.flash := rfl
@[simp] theorem State.bump_power (g : Fld) (n : Nat) : (s.bump g n).power = s.power := rfl
@[simp] theorem State.bump_links (g : Fld) (n : Nat) : (s.bump g n).links = s.links := rfl
@[simp] theorem State.bump_lan (g : Fld) (n : Nat) : (s.bump g n).lan = s.lan := rfl
@[simp] theorem State.bump_timers (g : Fld) (n : Nat) : (s.bump g n).timers = s.timers := rfl
@[simp] theorem State.bump_fans (g : Fld) (n : Nat) : (s.bump g n).fans = s.fans := rfl
@[simp] theorem State.bump_temps (g : Fld) (n : Nat) : (s.bump g n).temps = s.temps := rfl
@[simp] theorem State.bump_bus (g : Fld) (n : Nat) : (s.bump g n).bus = s.bus := rfl
@[simp] theorem State.bump_rig (g : Fld) (n : Nat) : (s.bump g n).rig = s.rig := rfl
@[simp] theorem State.bump_pins (g : Fld) (n : Nat) : (s.bump g n).pins = s.pins := rfl
@[simp] theorem State.bump_undo (g : Fld) (n : Nat) : (s.bump g n).undo = s.undo := rfl

@[simp] theorem State.advance_regs (t : Nat) : (s.advance t).regs = s.regs := rfl
@[simp] theorem State.advance_wlog (t : Nat) : (s.advance t).wlog = s.wlog := rfl
@[simp] theorem State.advance_hot (t : Nat) : (s.advance t).hot = s.hot := rfl
@[simp] theorem State.advance_skew (t : Nat) : (s.advance t).skew = s.skew := rfl
@[simp] theorem State.advance_quiet (t : Nat) : (s.advance t).quiet = s.quiet := rfl
@[simp] theorem State.advance_small (t : Nat) : (s.advance t).small = s.small := rfl
@[simp] theorem State.advance_frees (t : Nat) : (s.advance t).frees = s.frees := rfl
@[simp] theorem State.advance_pending (t : Nat) : (s.advance t).pending = s.pending := rfl
@[simp] theorem State.advance_active (t : Nat) : (s.advance t).active = s.active := rfl
@[simp] theorem State.advance_shadow (t : Nat) : (s.advance t).shadow = s.shadow := rfl
@[simp] theorem State.advance_rails (t : Nat) : (s.advance t).rails = s.rails := rfl
@[simp] theorem State.advance_phases (t : Nat) : (s.advance t).phases = s.phases := rfl
@[simp] theorem State.advance_wins (t : Nat) : (s.advance t).wins = s.wins := rfl
@[simp] theorem State.advance_strands (t : Nat) : (s.advance t).strands = s.strands := rfl
@[simp] theorem State.advance_braids (t : Nat) : (s.advance t).braids = s.braids := rfl
@[simp] theorem State.advance_time (t : Nat) : (s.advance t).time = s.time := rfl
@[simp] theorem State.advance_tele (t : Nat) : (s.advance t).tele = s.tele := rfl
@[simp] theorem State.advance_log (t : Nat) : (s.advance t).log = s.log := rfl
@[simp] theorem State.advance_trace (t : Nat) : (s.advance t).trace = s.trace := rfl
@[simp] theorem State.advance_fault (t : Nat) : (s.advance t).fault = s.fault := rfl
@[simp] theorem State.advance_flash (t : Nat) : (s.advance t).flash = s.flash := rfl
@[simp] theorem State.advance_power (t : Nat) : (s.advance t).power = s.power := rfl
@[simp] theorem State.advance_links (t : Nat) : (s.advance t).links = s.links := rfl
@[simp] theorem State.advance_lan (t : Nat) : (s.advance t).lan = s.lan := rfl
@[simp] theorem State.advance_timers (t : Nat) : (s.advance t).timers = s.timers := rfl
@[simp] theorem State.advance_fans (t : Nat) : (s.advance t).fans = s.fans := rfl
@[simp] theorem State.advance_temps (t : Nat) : (s.advance t).temps = s.temps := rfl
@[simp] theorem State.advance_bus (t : Nat) : (s.advance t).bus = s.bus := rfl
@[simp] theorem State.advance_rig (t : Nat) : (s.advance t).rig = s.rig := rfl
@[simp] theorem State.advance_pins (t : Nat) : (s.advance t).pins = s.pins := rfl
@[simp] theorem State.advance_undo (t : Nat) : (s.advance t).undo = s.undo := rfl
@[simp] theorem State.advance_reg (t : Nat) (q : Reg) (m : Nat) : (s.advance t).reg q m = s.reg q m := rfl
@[simp] theorem State.advance_fld (t : Nat) (q : Fld) (m : Nat) : (s.advance t).fld q m = s.fld q m := rfl
@[simp] theorem State.advance_flag (t : Nat) (q : Fld) (m : Nat) : (s.advance t).flag q m = s.flag q m := rfl

@[simp] theorem State.modRail_regs (n : Fin 12) (f : RailX → RailX) : (s.modRail n f).regs = s.regs := rfl
@[simp] theorem State.modRail_wlog (n : Fin 12) (f : RailX → RailX) : (s.modRail n f).wlog = s.wlog := rfl
@[simp] theorem State.modRail_hot (n : Fin 12) (f : RailX → RailX) : (s.modRail n f).hot = s.hot := rfl
@[simp] theorem State.modRail_now (n : Fin 12) (f : RailX → RailX) : (s.modRail n f).now = s.now := rfl
@[simp] theorem State.modRail_skew (n : Fin 12) (f : RailX → RailX) : (s.modRail n f).skew = s.skew := rfl
@[simp] theorem State.modRail_quiet (n : Fin 12) (f : RailX → RailX) : (s.modRail n f).quiet = s.quiet := rfl
@[simp] theorem State.modRail_small (n : Fin 12) (f : RailX → RailX) : (s.modRail n f).small = s.small := rfl
@[simp] theorem State.modRail_frees (n : Fin 12) (f : RailX → RailX) : (s.modRail n f).frees = s.frees := rfl
@[simp] theorem State.modRail_pending (n : Fin 12) (f : RailX → RailX) : (s.modRail n f).pending = s.pending := rfl
@[simp] theorem State.modRail_active (n : Fin 12) (f : RailX → RailX) : (s.modRail n f).active = s.active := rfl
@[simp] theorem State.modRail_shadow (n : Fin 12) (f : RailX → RailX) : (s.modRail n f).shadow = s.shadow := rfl
@[simp] theorem State.modRail_phases (n : Fin 12) (f : RailX → RailX) : (s.modRail n f).phases = s.phases := rfl
@[simp] theorem State.modRail_wins (n : Fin 12) (f : RailX → RailX) : (s.modRail n f).wins = s.wins := rfl
@[simp] theorem State.modRail_strands (n : Fin 12) (f : RailX → RailX) : (s.modRail n f).strands = s.strands := rfl
@[simp] theorem State.modRail_braids (n : Fin 12) (f : RailX → RailX) : (s.modRail n f).braids = s.braids := rfl
@[simp] theorem State.modRail_time (n : Fin 12) (f : RailX → RailX) : (s.modRail n f).time = s.time := rfl
@[simp] theorem State.modRail_tele (n : Fin 12) (f : RailX → RailX) : (s.modRail n f).tele = s.tele := rfl
@[simp] theorem State.modRail_log (n : Fin 12) (f : RailX → RailX) : (s.modRail n f).log = s.log := rfl
@[simp] theorem State.modRail_trace (n : Fin 12) (f : RailX → RailX) : (s.modRail n f).trace = s.trace := rfl
@[simp] theorem State.modRail_fault (n : Fin 12) (f : RailX → RailX) : (s.modRail n f).fault = s.fault := rfl
@[simp] theorem State.modRail_flash (n : Fin 12) (f : RailX → RailX) : (s.modRail n f).flash = s.flash := rfl
@[simp] theorem State.modRail_power (n : Fin 12) (f : RailX → RailX) : (s.modRail n f).power = s.power := rfl
@[simp] theorem State.modRail_links (n : Fin 12) (f : RailX → RailX) : (s.modRail n f).links = s.links := rfl
@[simp] theorem State.modRail_lan (n : Fin 12) (f : RailX → RailX) : (s.modRail n f).lan = s.lan := rfl
@[simp] theorem State.modRail_timers (n : Fin 12) (f : RailX → RailX) : (s.modRail n f).timers = s.timers := rfl
@[simp] theorem State.modRail_fans (n : Fin 12) (f : RailX → RailX) : (s.modRail n f).fans = s.fans := rfl
@[simp] theorem State.modRail_temps (n : Fin 12) (f : RailX → RailX) : (s.modRail n f).temps = s.temps := rfl
@[simp] theorem State.modRail_bus (n : Fin 12) (f : RailX → RailX) : (s.modRail n f).bus = s.bus := rfl
@[simp] theorem State.modRail_rig (n : Fin 12) (f : RailX → RailX) : (s.modRail n f).rig = s.rig := rfl
@[simp] theorem State.modRail_pins (n : Fin 12) (f : RailX → RailX) : (s.modRail n f).pins = s.pins := rfl
@[simp] theorem State.modRail_undo (n : Fin 12) (f : RailX → RailX) : (s.modRail n f).undo = s.undo := rfl
@[simp] theorem State.modRail_reg (n : Fin 12) (f : RailX → RailX) (q : Reg) (m : Nat) : (s.modRail n f).reg q m = s.reg q m := rfl
@[simp] theorem State.modRail_fld (n : Fin 12) (f : RailX → RailX) (q : Fld) (m : Nat) : (s.modRail n f).fld q m = s.fld q m := rfl
@[simp] theorem State.modRail_flag (n : Fin 12) (f : RailX → RailX) (q : Fld) (m : Nat) : (s.modRail n f).flag q m = s.flag q m := rfl

@[simp] theorem State.modLoop_regs (n : Fin 12) (f : LoopX → LoopX) : (s.modLoop n f).regs = s.regs := rfl
@[simp] theorem State.modLoop_wlog (n : Fin 12) (f : LoopX → LoopX) : (s.modLoop n f).wlog = s.wlog := rfl
@[simp] theorem State.modLoop_hot (n : Fin 12) (f : LoopX → LoopX) : (s.modLoop n f).hot = s.hot := rfl
@[simp] theorem State.modLoop_now (n : Fin 12) (f : LoopX → LoopX) : (s.modLoop n f).now = s.now := rfl
@[simp] theorem State.modLoop_skew (n : Fin 12) (f : LoopX → LoopX) : (s.modLoop n f).skew = s.skew := rfl
@[simp] theorem State.modLoop_quiet (n : Fin 12) (f : LoopX → LoopX) : (s.modLoop n f).quiet = s.quiet := rfl
@[simp] theorem State.modLoop_small (n : Fin 12) (f : LoopX → LoopX) : (s.modLoop n f).small = s.small := rfl
@[simp] theorem State.modLoop_frees (n : Fin 12) (f : LoopX → LoopX) : (s.modLoop n f).frees = s.frees := rfl
@[simp] theorem State.modLoop_pending (n : Fin 12) (f : LoopX → LoopX) : (s.modLoop n f).pending = s.pending := rfl
@[simp] theorem State.modLoop_active (n : Fin 12) (f : LoopX → LoopX) : (s.modLoop n f).active = s.active := rfl
@[simp] theorem State.modLoop_shadow (n : Fin 12) (f : LoopX → LoopX) : (s.modLoop n f).shadow = s.shadow := rfl
@[simp] theorem State.modLoop_phases (n : Fin 12) (f : LoopX → LoopX) : (s.modLoop n f).phases = s.phases := rfl
@[simp] theorem State.modLoop_wins (n : Fin 12) (f : LoopX → LoopX) : (s.modLoop n f).wins = s.wins := rfl
@[simp] theorem State.modLoop_strands (n : Fin 12) (f : LoopX → LoopX) : (s.modLoop n f).strands = s.strands := rfl
@[simp] theorem State.modLoop_braids (n : Fin 12) (f : LoopX → LoopX) : (s.modLoop n f).braids = s.braids := rfl
@[simp] theorem State.modLoop_time (n : Fin 12) (f : LoopX → LoopX) : (s.modLoop n f).time = s.time := rfl
@[simp] theorem State.modLoop_tele (n : Fin 12) (f : LoopX → LoopX) : (s.modLoop n f).tele = s.tele := rfl
@[simp] theorem State.modLoop_log (n : Fin 12) (f : LoopX → LoopX) : (s.modLoop n f).log = s.log := rfl
@[simp] theorem State.modLoop_trace (n : Fin 12) (f : LoopX → LoopX) : (s.modLoop n f).trace = s.trace := rfl
@[simp] theorem State.modLoop_fault (n : Fin 12) (f : LoopX → LoopX) : (s.modLoop n f).fault = s.fault := rfl
@[simp] theorem State.modLoop_flash (n : Fin 12) (f : LoopX → LoopX) : (s.modLoop n f).flash = s.flash := rfl
@[simp] theorem State.modLoop_power (n : Fin 12) (f : LoopX → LoopX) : (s.modLoop n f).power = s.power := rfl
@[simp] theorem State.modLoop_links (n : Fin 12) (f : LoopX → LoopX) : (s.modLoop n f).links = s.links := rfl
@[simp] theorem State.modLoop_lan (n : Fin 12) (f : LoopX → LoopX) : (s.modLoop n f).lan = s.lan := rfl
@[simp] theorem State.modLoop_timers (n : Fin 12) (f : LoopX → LoopX) : (s.modLoop n f).timers = s.timers := rfl
@[simp] theorem State.modLoop_fans (n : Fin 12) (f : LoopX → LoopX) : (s.modLoop n f).fans = s.fans := rfl
@[simp] theorem State.modLoop_temps (n : Fin 12) (f : LoopX → LoopX) : (s.modLoop n f).temps = s.temps := rfl
@[simp] theorem State.modLoop_bus (n : Fin 12) (f : LoopX → LoopX) : (s.modLoop n f).bus = s.bus := rfl
@[simp] theorem State.modLoop_rig (n : Fin 12) (f : LoopX → LoopX) : (s.modLoop n f).rig = s.rig := rfl
@[simp] theorem State.modLoop_pins (n : Fin 12) (f : LoopX → LoopX) : (s.modLoop n f).pins = s.pins := rfl
@[simp] theorem State.modLoop_undo (n : Fin 12) (f : LoopX → LoopX) : (s.modLoop n f).undo = s.undo := rfl
@[simp] theorem State.modLoop_reg (n : Fin 12) (f : LoopX → LoopX) (q : Reg) (m : Nat) : (s.modLoop n f).reg q m = s.reg q m := rfl
@[simp] theorem State.modLoop_fld (n : Fin 12) (f : LoopX → LoopX) (q : Fld) (m : Nat) : (s.modLoop n f).fld q m = s.fld q m := rfl
@[simp] theorem State.modLoop_flag (n : Fin 12) (f : LoopX → LoopX) (q : Fld) (m : Nat) : (s.modLoop n f).flag q m = s.flag q m := rfl

@[simp] theorem State.modErr_regs (n : Fin 12) (f : ErrConv → ErrConv) : (s.modErr n f).regs = s.regs := rfl
@[simp] theorem State.modErr_wlog (n : Fin 12) (f : ErrConv → ErrConv) : (s.modErr n f).wlog = s.wlog := rfl
@[simp] theorem State.modErr_hot (n : Fin 12) (f : ErrConv → ErrConv) : (s.modErr n f).hot = s.hot := rfl
@[simp] theorem State.modErr_now (n : Fin 12) (f : ErrConv → ErrConv) : (s.modErr n f).now = s.now := rfl
@[simp] theorem State.modErr_skew (n : Fin 12) (f : ErrConv → ErrConv) : (s.modErr n f).skew = s.skew := rfl
@[simp] theorem State.modErr_quiet (n : Fin 12) (f : ErrConv → ErrConv) : (s.modErr n f).quiet = s.quiet := rfl
@[simp] theorem State.modErr_small (n : Fin 12) (f : ErrConv → ErrConv) : (s.modErr n f).small = s.small := rfl
@[simp] theorem State.modErr_frees (n : Fin 12) (f : ErrConv → ErrConv) : (s.modErr n f).frees = s.frees := rfl
@[simp] theorem State.modErr_pending (n : Fin 12) (f : ErrConv → ErrConv) : (s.modErr n f).pending = s.pending := rfl
@[simp] theorem State.modErr_active (n : Fin 12) (f : ErrConv → ErrConv) : (s.modErr n f).active = s.active := rfl
@[simp] theorem State.modErr_shadow (n : Fin 12) (f : ErrConv → ErrConv) : (s.modErr n f).shadow = s.shadow := rfl
@[simp] theorem State.modErr_phases (n : Fin 12) (f : ErrConv → ErrConv) : (s.modErr n f).phases = s.phases := rfl
@[simp] theorem State.modErr_wins (n : Fin 12) (f : ErrConv → ErrConv) : (s.modErr n f).wins = s.wins := rfl
@[simp] theorem State.modErr_strands (n : Fin 12) (f : ErrConv → ErrConv) : (s.modErr n f).strands = s.strands := rfl
@[simp] theorem State.modErr_braids (n : Fin 12) (f : ErrConv → ErrConv) : (s.modErr n f).braids = s.braids := rfl
@[simp] theorem State.modErr_time (n : Fin 12) (f : ErrConv → ErrConv) : (s.modErr n f).time = s.time := rfl
@[simp] theorem State.modErr_tele (n : Fin 12) (f : ErrConv → ErrConv) : (s.modErr n f).tele = s.tele := rfl
@[simp] theorem State.modErr_log (n : Fin 12) (f : ErrConv → ErrConv) : (s.modErr n f).log = s.log := rfl
@[simp] theorem State.modErr_trace (n : Fin 12) (f : ErrConv → ErrConv) : (s.modErr n f).trace = s.trace := rfl
@[simp] theorem State.modErr_fault (n : Fin 12) (f : ErrConv → ErrConv) : (s.modErr n f).fault = s.fault := rfl
@[simp] theorem State.modErr_flash (n : Fin 12) (f : ErrConv → ErrConv) : (s.modErr n f).flash = s.flash := rfl
@[simp] theorem State.modErr_power (n : Fin 12) (f : ErrConv → ErrConv) : (s.modErr n f).power = s.power := rfl
@[simp] theorem State.modErr_links (n : Fin 12) (f : ErrConv → ErrConv) : (s.modErr n f).links = s.links := rfl
@[simp] theorem State.modErr_lan (n : Fin 12) (f : ErrConv → ErrConv) : (s.modErr n f).lan = s.lan := rfl
@[simp] theorem State.modErr_timers (n : Fin 12) (f : ErrConv → ErrConv) : (s.modErr n f).timers = s.timers := rfl
@[simp] theorem State.modErr_fans (n : Fin 12) (f : ErrConv → ErrConv) : (s.modErr n f).fans = s.fans := rfl
@[simp] theorem State.modErr_temps (n : Fin 12) (f : ErrConv → ErrConv) : (s.modErr n f).temps = s.temps := rfl
@[simp] theorem State.modErr_bus (n : Fin 12) (f : ErrConv → ErrConv) : (s.modErr n f).bus = s.bus := rfl
@[simp] theorem State.modErr_rig (n : Fin 12) (f : ErrConv → ErrConv) : (s.modErr n f).rig = s.rig := rfl
@[simp] theorem State.modErr_pins (n : Fin 12) (f : ErrConv → ErrConv) : (s.modErr n f).pins = s.pins := rfl
@[simp] theorem State.modErr_undo (n : Fin 12) (f : ErrConv → ErrConv) : (s.modErr n f).undo = s.undo := rfl
@[simp] theorem State.modErr_reg (n : Fin 12) (f : ErrConv → ErrConv) (q : Reg) (m : Nat) : (s.modErr n f).reg q m = s.reg q m := rfl
@[simp] theorem State.modErr_fld (n : Fin 12) (f : ErrConv → ErrConv) (q : Fld) (m : Nat) : (s.modErr n f).fld q m = s.fld q m := rfl
@[simp] theorem State.modErr_flag (n : Fin 12) (f : ErrConv → ErrConv) (q : Fld) (m : Nat) : (s.modErr n f).flag q m = s.flag q m := rfl

@[simp] theorem State.modMode_regs (n : Fin 12) (f : ModeX → ModeX) : (s.modMode n f).regs = s.regs := rfl
@[simp] theorem State.modMode_wlog (n : Fin 12) (f : ModeX → ModeX) : (s.modMode n f).wlog = s.wlog := rfl
@[simp] theorem State.modMode_hot (n : Fin 12) (f : ModeX → ModeX) : (s.modMode n f).hot = s.hot := rfl
@[simp] theorem State.modMode_now (n : Fin 12) (f : ModeX → ModeX) : (s.modMode n f).now = s.now := rfl
@[simp] theorem State.modMode_skew (n : Fin 12) (f : ModeX → ModeX) : (s.modMode n f).skew = s.skew := rfl
@[simp] theorem State.modMode_quiet (n : Fin 12) (f : ModeX → ModeX) : (s.modMode n f).quiet = s.quiet := rfl
@[simp] theorem State.modMode_small (n : Fin 12) (f : ModeX → ModeX) : (s.modMode n f).small = s.small := rfl
@[simp] theorem State.modMode_frees (n : Fin 12) (f : ModeX → ModeX) : (s.modMode n f).frees = s.frees := rfl
@[simp] theorem State.modMode_pending (n : Fin 12) (f : ModeX → ModeX) : (s.modMode n f).pending = s.pending := rfl
@[simp] theorem State.modMode_active (n : Fin 12) (f : ModeX → ModeX) : (s.modMode n f).active = s.active := rfl
@[simp] theorem State.modMode_shadow (n : Fin 12) (f : ModeX → ModeX) : (s.modMode n f).shadow = s.shadow := rfl
@[simp] theorem State.modMode_phases (n : Fin 12) (f : ModeX → ModeX) : (s.modMode n f).phases = s.phases := rfl
@[simp] theorem State.modMode_wins (n : Fin 12) (f : ModeX → ModeX) : (s.modMode n f).wins = s.wins := rfl
@[simp] theorem State.modMode_strands (n : Fin 12) (f : ModeX → ModeX) : (s.modMode n f).strands = s.strands := rfl
@[simp] theorem State.modMode_braids (n : Fin 12) (f : ModeX → ModeX) : (s.modMode n f).braids = s.braids := rfl
@[simp] theorem State.modMode_time (n : Fin 12) (f : ModeX → ModeX) : (s.modMode n f).time = s.time := rfl
@[simp] theorem State.modMode_tele (n : Fin 12) (f : ModeX → ModeX) : (s.modMode n f).tele = s.tele := rfl
@[simp] theorem State.modMode_log (n : Fin 12) (f : ModeX → ModeX) : (s.modMode n f).log = s.log := rfl
@[simp] theorem State.modMode_trace (n : Fin 12) (f : ModeX → ModeX) : (s.modMode n f).trace = s.trace := rfl
@[simp] theorem State.modMode_fault (n : Fin 12) (f : ModeX → ModeX) : (s.modMode n f).fault = s.fault := rfl
@[simp] theorem State.modMode_flash (n : Fin 12) (f : ModeX → ModeX) : (s.modMode n f).flash = s.flash := rfl
@[simp] theorem State.modMode_power (n : Fin 12) (f : ModeX → ModeX) : (s.modMode n f).power = s.power := rfl
@[simp] theorem State.modMode_links (n : Fin 12) (f : ModeX → ModeX) : (s.modMode n f).links = s.links := rfl
@[simp] theorem State.modMode_lan (n : Fin 12) (f : ModeX → ModeX) : (s.modMode n f).lan = s.lan := rfl
@[simp] theorem State.modMode_timers (n : Fin 12) (f : ModeX → ModeX) : (s.modMode n f).timers = s.timers := rfl
@[simp] theorem State.modMode_fans (n : Fin 12) (f : ModeX → ModeX) : (s.modMode n f).fans = s.fans := rfl
@[simp] theorem State.modMode_temps (n : Fin 12) (f : ModeX → ModeX) : (s.modMode n f).temps = s.temps := rfl
@[simp] theorem State.modMode_bus (n : Fin 12) (f : ModeX → ModeX) : (s.modMode n f).bus = s.bus := rfl
@[simp] theorem State.modMode_rig (n : Fin 12) (f : ModeX → ModeX) : (s.modMode n f).rig = s.rig := rfl
@[simp] theorem State.modMode_pins (n : Fin 12) (f : ModeX → ModeX) : (s.modMode n f).pins = s.pins := rfl
@[simp] theorem State.modMode_undo (n : Fin 12) (f : ModeX → ModeX) : (s.modMode n f).undo = s.undo := rfl
@[simp] theorem State.modMode_reg (n : Fin 12) (f : ModeX → ModeX) (q : Reg) (m : Nat) : (s.modMode n f).reg q m = s.reg q m := rfl
@[simp] theorem State.modMode_fld (n : Fin 12) (f : ModeX → ModeX) (q : Fld) (m : Nat) : (s.modMode n f).fld q m = s.fld q m := rfl
@[simp] theorem State.modMode_flag (n : Fin 12) (f : ModeX → ModeX) (q : Fld) (m : Nat) : (s.modMode n f).flag q m = s.flag q m := rfl

@[simp] theorem State.modCarrier_regs (n : Fin 12) (f : CarrierX → CarrierX) : (s.modCarrier n f).regs = s.regs := rfl
@[simp] theorem State.modCarrier_wlog (n : Fin 12) (f : CarrierX → CarrierX) : (s.modCarrier n f).wlog = s.wlog := rfl
@[simp] theorem State.modCarrier_hot (n : Fin 12) (f : CarrierX → CarrierX) : (s.modCarrier n f).hot = s.hot := rfl
@[simp] theorem State.modCarrier_now (n : Fin 12) (f : CarrierX → CarrierX) : (s.modCarrier n f).now = s.now := rfl
@[simp] theorem State.modCarrier_skew (n : Fin 12) (f : CarrierX → CarrierX) : (s.modCarrier n f).skew = s.skew := rfl
@[simp] theorem State.modCarrier_quiet (n : Fin 12) (f : CarrierX → CarrierX) : (s.modCarrier n f).quiet = s.quiet := rfl
@[simp] theorem State.modCarrier_small (n : Fin 12) (f : CarrierX → CarrierX) : (s.modCarrier n f).small = s.small := rfl
@[simp] theorem State.modCarrier_frees (n : Fin 12) (f : CarrierX → CarrierX) : (s.modCarrier n f).frees = s.frees := rfl
@[simp] theorem State.modCarrier_pending (n : Fin 12) (f : CarrierX → CarrierX) : (s.modCarrier n f).pending = s.pending := rfl
@[simp] theorem State.modCarrier_active (n : Fin 12) (f : CarrierX → CarrierX) : (s.modCarrier n f).active = s.active := rfl
@[simp] theorem State.modCarrier_shadow (n : Fin 12) (f : CarrierX → CarrierX) : (s.modCarrier n f).shadow = s.shadow := rfl
@[simp] theorem State.modCarrier_phases (n : Fin 12) (f : CarrierX → CarrierX) : (s.modCarrier n f).phases = s.phases := rfl
@[simp] theorem State.modCarrier_wins (n : Fin 12) (f : CarrierX → CarrierX) : (s.modCarrier n f).wins = s.wins := rfl
@[simp] theorem State.modCarrier_strands (n : Fin 12) (f : CarrierX → CarrierX) : (s.modCarrier n f).strands = s.strands := rfl
@[simp] theorem State.modCarrier_braids (n : Fin 12) (f : CarrierX → CarrierX) : (s.modCarrier n f).braids = s.braids := rfl
@[simp] theorem State.modCarrier_time (n : Fin 12) (f : CarrierX → CarrierX) : (s.modCarrier n f).time = s.time := rfl
@[simp] theorem State.modCarrier_tele (n : Fin 12) (f : CarrierX → CarrierX) : (s.modCarrier n f).tele = s.tele := rfl
@[simp] theorem State.modCarrier_log (n : Fin 12) (f : CarrierX → CarrierX) : (s.modCarrier n f).log = s.log := rfl
@[simp] theorem State.modCarrier_trace (n : Fin 12) (f : CarrierX → CarrierX) : (s.modCarrier n f).trace = s.trace := rfl
@[simp] theorem State.modCarrier_fault (n : Fin 12) (f : CarrierX → CarrierX) : (s.modCarrier n f).fault = s.fault := rfl
@[simp] theorem State.modCarrier_flash (n : Fin 12) (f : CarrierX → CarrierX) : (s.modCarrier n f).flash = s.flash := rfl
@[simp] theorem State.modCarrier_power (n : Fin 12) (f : CarrierX → CarrierX) : (s.modCarrier n f).power = s.power := rfl
@[simp] theorem State.modCarrier_links (n : Fin 12) (f : CarrierX → CarrierX) : (s.modCarrier n f).links = s.links := rfl
@[simp] theorem State.modCarrier_lan (n : Fin 12) (f : CarrierX → CarrierX) : (s.modCarrier n f).lan = s.lan := rfl
@[simp] theorem State.modCarrier_timers (n : Fin 12) (f : CarrierX → CarrierX) : (s.modCarrier n f).timers = s.timers := rfl
@[simp] theorem State.modCarrier_fans (n : Fin 12) (f : CarrierX → CarrierX) : (s.modCarrier n f).fans = s.fans := rfl
@[simp] theorem State.modCarrier_temps (n : Fin 12) (f : CarrierX → CarrierX) : (s.modCarrier n f).temps = s.temps := rfl
@[simp] theorem State.modCarrier_bus (n : Fin 12) (f : CarrierX → CarrierX) : (s.modCarrier n f).bus = s.bus := rfl
@[simp] theorem State.modCarrier_rig (n : Fin 12) (f : CarrierX → CarrierX) : (s.modCarrier n f).rig = s.rig := rfl
@[simp] theorem State.modCarrier_pins (n : Fin 12) (f : CarrierX → CarrierX) : (s.modCarrier n f).pins = s.pins := rfl
@[simp] theorem State.modCarrier_undo (n : Fin 12) (f : CarrierX → CarrierX) : (s.modCarrier n f).undo = s.undo := rfl
@[simp] theorem State.modCarrier_reg (n : Fin 12) (f : CarrierX → CarrierX) (q : Reg) (m : Nat) : (s.modCarrier n f).reg q m = s.reg q m := rfl
@[simp] theorem State.modCarrier_fld (n : Fin 12) (f : CarrierX → CarrierX) (q : Fld) (m : Nat) : (s.modCarrier n f).fld q m = s.fld q m := rfl
@[simp] theorem State.modCarrier_flag (n : Fin 12) (f : CarrierX → CarrierX) (q : Fld) (m : Nat) : (s.modCarrier n f).flag q m = s.flag q m := rfl

@[simp] theorem State.modLife_regs (n : Fin 12) (f : LifeX → LifeX) : (s.modLife n f).regs = s.regs := rfl
@[simp] theorem State.modLife_wlog (n : Fin 12) (f : LifeX → LifeX) : (s.modLife n f).wlog = s.wlog := rfl
@[simp] theorem State.modLife_hot (n : Fin 12) (f : LifeX → LifeX) : (s.modLife n f).hot = s.hot := rfl
@[simp] theorem State.modLife_now (n : Fin 12) (f : LifeX → LifeX) : (s.modLife n f).now = s.now := rfl
@[simp] theorem State.modLife_skew (n : Fin 12) (f : LifeX → LifeX) : (s.modLife n f).skew = s.skew := rfl
@[simp] theorem State.modLife_quiet (n : Fin 12) (f : LifeX → LifeX) : (s.modLife n f).quiet = s.quiet := rfl
@[simp] theorem State.modLife_small (n : Fin 12) (f : LifeX → LifeX) : (s.modLife n f).small = s.small := rfl
@[simp] theorem State.modLife_frees (n : Fin 12) (f : LifeX → LifeX) : (s.modLife n f).frees = s.frees := rfl
@[simp] theorem State.modLife_pending (n : Fin 12) (f : LifeX → LifeX) : (s.modLife n f).pending = s.pending := rfl
@[simp] theorem State.modLife_active (n : Fin 12) (f : LifeX → LifeX) : (s.modLife n f).active = s.active := rfl
@[simp] theorem State.modLife_shadow (n : Fin 12) (f : LifeX → LifeX) : (s.modLife n f).shadow = s.shadow := rfl
@[simp] theorem State.modLife_phases (n : Fin 12) (f : LifeX → LifeX) : (s.modLife n f).phases = s.phases := rfl
@[simp] theorem State.modLife_wins (n : Fin 12) (f : LifeX → LifeX) : (s.modLife n f).wins = s.wins := rfl
@[simp] theorem State.modLife_strands (n : Fin 12) (f : LifeX → LifeX) : (s.modLife n f).strands = s.strands := rfl
@[simp] theorem State.modLife_braids (n : Fin 12) (f : LifeX → LifeX) : (s.modLife n f).braids = s.braids := rfl
@[simp] theorem State.modLife_time (n : Fin 12) (f : LifeX → LifeX) : (s.modLife n f).time = s.time := rfl
@[simp] theorem State.modLife_tele (n : Fin 12) (f : LifeX → LifeX) : (s.modLife n f).tele = s.tele := rfl
@[simp] theorem State.modLife_log (n : Fin 12) (f : LifeX → LifeX) : (s.modLife n f).log = s.log := rfl
@[simp] theorem State.modLife_trace (n : Fin 12) (f : LifeX → LifeX) : (s.modLife n f).trace = s.trace := rfl
@[simp] theorem State.modLife_fault (n : Fin 12) (f : LifeX → LifeX) : (s.modLife n f).fault = s.fault := rfl
@[simp] theorem State.modLife_flash (n : Fin 12) (f : LifeX → LifeX) : (s.modLife n f).flash = s.flash := rfl
@[simp] theorem State.modLife_power (n : Fin 12) (f : LifeX → LifeX) : (s.modLife n f).power = s.power := rfl
@[simp] theorem State.modLife_links (n : Fin 12) (f : LifeX → LifeX) : (s.modLife n f).links = s.links := rfl
@[simp] theorem State.modLife_lan (n : Fin 12) (f : LifeX → LifeX) : (s.modLife n f).lan = s.lan := rfl
@[simp] theorem State.modLife_timers (n : Fin 12) (f : LifeX → LifeX) : (s.modLife n f).timers = s.timers := rfl
@[simp] theorem State.modLife_fans (n : Fin 12) (f : LifeX → LifeX) : (s.modLife n f).fans = s.fans := rfl
@[simp] theorem State.modLife_temps (n : Fin 12) (f : LifeX → LifeX) : (s.modLife n f).temps = s.temps := rfl
@[simp] theorem State.modLife_bus (n : Fin 12) (f : LifeX → LifeX) : (s.modLife n f).bus = s.bus := rfl
@[simp] theorem State.modLife_rig (n : Fin 12) (f : LifeX → LifeX) : (s.modLife n f).rig = s.rig := rfl
@[simp] theorem State.modLife_pins (n : Fin 12) (f : LifeX → LifeX) : (s.modLife n f).pins = s.pins := rfl
@[simp] theorem State.modLife_undo (n : Fin 12) (f : LifeX → LifeX) : (s.modLife n f).undo = s.undo := rfl
@[simp] theorem State.modLife_reg (n : Fin 12) (f : LifeX → LifeX) (q : Reg) (m : Nat) : (s.modLife n f).reg q m = s.reg q m := rfl
@[simp] theorem State.modLife_fld (n : Fin 12) (f : LifeX → LifeX) (q : Fld) (m : Nat) : (s.modLife n f).fld q m = s.fld q m := rfl
@[simp] theorem State.modLife_flag (n : Fin 12) (f : LifeX → LifeX) (q : Fld) (m : Nat) : (s.modLife n f).flag q m = s.flag q m := rfl

@[simp] theorem State.modProt_regs (n : Fin 12) (f : ProtX → ProtX) : (s.modProt n f).regs = s.regs := rfl
@[simp] theorem State.modProt_wlog (n : Fin 12) (f : ProtX → ProtX) : (s.modProt n f).wlog = s.wlog := rfl
@[simp] theorem State.modProt_hot (n : Fin 12) (f : ProtX → ProtX) : (s.modProt n f).hot = s.hot := rfl
@[simp] theorem State.modProt_now (n : Fin 12) (f : ProtX → ProtX) : (s.modProt n f).now = s.now := rfl
@[simp] theorem State.modProt_skew (n : Fin 12) (f : ProtX → ProtX) : (s.modProt n f).skew = s.skew := rfl
@[simp] theorem State.modProt_quiet (n : Fin 12) (f : ProtX → ProtX) : (s.modProt n f).quiet = s.quiet := rfl
@[simp] theorem State.modProt_small (n : Fin 12) (f : ProtX → ProtX) : (s.modProt n f).small = s.small := rfl
@[simp] theorem State.modProt_frees (n : Fin 12) (f : ProtX → ProtX) : (s.modProt n f).frees = s.frees := rfl
@[simp] theorem State.modProt_pending (n : Fin 12) (f : ProtX → ProtX) : (s.modProt n f).pending = s.pending := rfl
@[simp] theorem State.modProt_active (n : Fin 12) (f : ProtX → ProtX) : (s.modProt n f).active = s.active := rfl
@[simp] theorem State.modProt_shadow (n : Fin 12) (f : ProtX → ProtX) : (s.modProt n f).shadow = s.shadow := rfl
@[simp] theorem State.modProt_phases (n : Fin 12) (f : ProtX → ProtX) : (s.modProt n f).phases = s.phases := rfl
@[simp] theorem State.modProt_wins (n : Fin 12) (f : ProtX → ProtX) : (s.modProt n f).wins = s.wins := rfl
@[simp] theorem State.modProt_strands (n : Fin 12) (f : ProtX → ProtX) : (s.modProt n f).strands = s.strands := rfl
@[simp] theorem State.modProt_braids (n : Fin 12) (f : ProtX → ProtX) : (s.modProt n f).braids = s.braids := rfl
@[simp] theorem State.modProt_time (n : Fin 12) (f : ProtX → ProtX) : (s.modProt n f).time = s.time := rfl
@[simp] theorem State.modProt_tele (n : Fin 12) (f : ProtX → ProtX) : (s.modProt n f).tele = s.tele := rfl
@[simp] theorem State.modProt_log (n : Fin 12) (f : ProtX → ProtX) : (s.modProt n f).log = s.log := rfl
@[simp] theorem State.modProt_trace (n : Fin 12) (f : ProtX → ProtX) : (s.modProt n f).trace = s.trace := rfl
@[simp] theorem State.modProt_fault (n : Fin 12) (f : ProtX → ProtX) : (s.modProt n f).fault = s.fault := rfl
@[simp] theorem State.modProt_flash (n : Fin 12) (f : ProtX → ProtX) : (s.modProt n f).flash = s.flash := rfl
@[simp] theorem State.modProt_power (n : Fin 12) (f : ProtX → ProtX) : (s.modProt n f).power = s.power := rfl
@[simp] theorem State.modProt_links (n : Fin 12) (f : ProtX → ProtX) : (s.modProt n f).links = s.links := rfl
@[simp] theorem State.modProt_lan (n : Fin 12) (f : ProtX → ProtX) : (s.modProt n f).lan = s.lan := rfl
@[simp] theorem State.modProt_timers (n : Fin 12) (f : ProtX → ProtX) : (s.modProt n f).timers = s.timers := rfl
@[simp] theorem State.modProt_fans (n : Fin 12) (f : ProtX → ProtX) : (s.modProt n f).fans = s.fans := rfl
@[simp] theorem State.modProt_temps (n : Fin 12) (f : ProtX → ProtX) : (s.modProt n f).temps = s.temps := rfl
@[simp] theorem State.modProt_bus (n : Fin 12) (f : ProtX → ProtX) : (s.modProt n f).bus = s.bus := rfl
@[simp] theorem State.modProt_rig (n : Fin 12) (f : ProtX → ProtX) : (s.modProt n f).rig = s.rig := rfl
@[simp] theorem State.modProt_pins (n : Fin 12) (f : ProtX → ProtX) : (s.modProt n f).pins = s.pins := rfl
@[simp] theorem State.modProt_undo (n : Fin 12) (f : ProtX → ProtX) : (s.modProt n f).undo = s.undo := rfl
@[simp] theorem State.modProt_reg (n : Fin 12) (f : ProtX → ProtX) (q : Reg) (m : Nat) : (s.modProt n f).reg q m = s.reg q m := rfl
@[simp] theorem State.modProt_fld (n : Fin 12) (f : ProtX → ProtX) (q : Fld) (m : Nat) : (s.modProt n f).fld q m = s.fld q m := rfl
@[simp] theorem State.modProt_flag (n : Fin 12) (f : ProtX → ProtX) (q : Fld) (m : Nat) : (s.modProt n f).flag q m = s.flag q m := rfl

@[simp] theorem State.modMan_regs (n : Fin 12) (f : ManX → ManX) : (s.modMan n f).regs = s.regs := rfl
@[simp] theorem State.modMan_wlog (n : Fin 12) (f : ManX → ManX) : (s.modMan n f).wlog = s.wlog := rfl
@[simp] theorem State.modMan_hot (n : Fin 12) (f : ManX → ManX) : (s.modMan n f).hot = s.hot := rfl
@[simp] theorem State.modMan_now (n : Fin 12) (f : ManX → ManX) : (s.modMan n f).now = s.now := rfl
@[simp] theorem State.modMan_skew (n : Fin 12) (f : ManX → ManX) : (s.modMan n f).skew = s.skew := rfl
@[simp] theorem State.modMan_quiet (n : Fin 12) (f : ManX → ManX) : (s.modMan n f).quiet = s.quiet := rfl
@[simp] theorem State.modMan_small (n : Fin 12) (f : ManX → ManX) : (s.modMan n f).small = s.small := rfl
@[simp] theorem State.modMan_frees (n : Fin 12) (f : ManX → ManX) : (s.modMan n f).frees = s.frees := rfl
@[simp] theorem State.modMan_pending (n : Fin 12) (f : ManX → ManX) : (s.modMan n f).pending = s.pending := rfl
@[simp] theorem State.modMan_active (n : Fin 12) (f : ManX → ManX) : (s.modMan n f).active = s.active := rfl
@[simp] theorem State.modMan_shadow (n : Fin 12) (f : ManX → ManX) : (s.modMan n f).shadow = s.shadow := rfl
@[simp] theorem State.modMan_phases (n : Fin 12) (f : ManX → ManX) : (s.modMan n f).phases = s.phases := rfl
@[simp] theorem State.modMan_wins (n : Fin 12) (f : ManX → ManX) : (s.modMan n f).wins = s.wins := rfl
@[simp] theorem State.modMan_strands (n : Fin 12) (f : ManX → ManX) : (s.modMan n f).strands = s.strands := rfl
@[simp] theorem State.modMan_braids (n : Fin 12) (f : ManX → ManX) : (s.modMan n f).braids = s.braids := rfl
@[simp] theorem State.modMan_time (n : Fin 12) (f : ManX → ManX) : (s.modMan n f).time = s.time := rfl
@[simp] theorem State.modMan_tele (n : Fin 12) (f : ManX → ManX) : (s.modMan n f).tele = s.tele := rfl
@[simp] theorem State.modMan_log (n : Fin 12) (f : ManX → ManX) : (s.modMan n f).log = s.log := rfl
@[simp] theorem State.modMan_trace (n : Fin 12) (f : ManX → ManX) : (s.modMan n f).trace = s.trace := rfl
@[simp] theorem State.modMan_fault (n : Fin 12) (f : ManX → ManX) : (s.modMan n f).fault = s.fault := rfl
@[simp] theorem State.modMan_flash (n : Fin 12) (f : ManX → ManX) : (s.modMan n f).flash = s.flash := rfl
@[simp] theorem State.modMan_power (n : Fin 12) (f : ManX → ManX) : (s.modMan n f).power = s.power := rfl
@[simp] theorem State.modMan_links (n : Fin 12) (f : ManX → ManX) : (s.modMan n f).links = s.links := rfl
@[simp] theorem State.modMan_lan (n : Fin 12) (f : ManX → ManX) : (s.modMan n f).lan = s.lan := rfl
@[simp] theorem State.modMan_timers (n : Fin 12) (f : ManX → ManX) : (s.modMan n f).timers = s.timers := rfl
@[simp] theorem State.modMan_fans (n : Fin 12) (f : ManX → ManX) : (s.modMan n f).fans = s.fans := rfl
@[simp] theorem State.modMan_temps (n : Fin 12) (f : ManX → ManX) : (s.modMan n f).temps = s.temps := rfl
@[simp] theorem State.modMan_bus (n : Fin 12) (f : ManX → ManX) : (s.modMan n f).bus = s.bus := rfl
@[simp] theorem State.modMan_rig (n : Fin 12) (f : ManX → ManX) : (s.modMan n f).rig = s.rig := rfl
@[simp] theorem State.modMan_pins (n : Fin 12) (f : ManX → ManX) : (s.modMan n f).pins = s.pins := rfl
@[simp] theorem State.modMan_undo (n : Fin 12) (f : ManX → ManX) : (s.modMan n f).undo = s.undo := rfl
@[simp] theorem State.modMan_reg (n : Fin 12) (f : ManX → ManX) (q : Reg) (m : Nat) : (s.modMan n f).reg q m = s.reg q m := rfl
@[simp] theorem State.modMan_fld (n : Fin 12) (f : ManX → ManX) (q : Fld) (m : Nat) : (s.modMan n f).fld q m = s.fld q m := rfl
@[simp] theorem State.modMan_flag (n : Fin 12) (f : ManX → ManX) (q : Fld) (m : Nat) : (s.modMan n f).flag q m = s.flag q m := rfl

@[simp] theorem State.modSense_regs (n : Fin 12) (f : SenseX → SenseX) : (s.modSense n f).regs = s.regs := rfl
@[simp] theorem State.modSense_wlog (n : Fin 12) (f : SenseX → SenseX) : (s.modSense n f).wlog = s.wlog := rfl
@[simp] theorem State.modSense_hot (n : Fin 12) (f : SenseX → SenseX) : (s.modSense n f).hot = s.hot := rfl
@[simp] theorem State.modSense_now (n : Fin 12) (f : SenseX → SenseX) : (s.modSense n f).now = s.now := rfl
@[simp] theorem State.modSense_skew (n : Fin 12) (f : SenseX → SenseX) : (s.modSense n f).skew = s.skew := rfl
@[simp] theorem State.modSense_quiet (n : Fin 12) (f : SenseX → SenseX) : (s.modSense n f).quiet = s.quiet := rfl
@[simp] theorem State.modSense_small (n : Fin 12) (f : SenseX → SenseX) : (s.modSense n f).small = s.small := rfl
@[simp] theorem State.modSense_frees (n : Fin 12) (f : SenseX → SenseX) : (s.modSense n f).frees = s.frees := rfl
@[simp] theorem State.modSense_pending (n : Fin 12) (f : SenseX → SenseX) : (s.modSense n f).pending = s.pending := rfl
@[simp] theorem State.modSense_active (n : Fin 12) (f : SenseX → SenseX) : (s.modSense n f).active = s.active := rfl
@[simp] theorem State.modSense_shadow (n : Fin 12) (f : SenseX → SenseX) : (s.modSense n f).shadow = s.shadow := rfl
@[simp] theorem State.modSense_phases (n : Fin 12) (f : SenseX → SenseX) : (s.modSense n f).phases = s.phases := rfl
@[simp] theorem State.modSense_wins (n : Fin 12) (f : SenseX → SenseX) : (s.modSense n f).wins = s.wins := rfl
@[simp] theorem State.modSense_strands (n : Fin 12) (f : SenseX → SenseX) : (s.modSense n f).strands = s.strands := rfl
@[simp] theorem State.modSense_braids (n : Fin 12) (f : SenseX → SenseX) : (s.modSense n f).braids = s.braids := rfl
@[simp] theorem State.modSense_time (n : Fin 12) (f : SenseX → SenseX) : (s.modSense n f).time = s.time := rfl
@[simp] theorem State.modSense_tele (n : Fin 12) (f : SenseX → SenseX) : (s.modSense n f).tele = s.tele := rfl
@[simp] theorem State.modSense_log (n : Fin 12) (f : SenseX → SenseX) : (s.modSense n f).log = s.log := rfl
@[simp] theorem State.modSense_trace (n : Fin 12) (f : SenseX → SenseX) : (s.modSense n f).trace = s.trace := rfl
@[simp] theorem State.modSense_fault (n : Fin 12) (f : SenseX → SenseX) : (s.modSense n f).fault = s.fault := rfl
@[simp] theorem State.modSense_flash (n : Fin 12) (f : SenseX → SenseX) : (s.modSense n f).flash = s.flash := rfl
@[simp] theorem State.modSense_power (n : Fin 12) (f : SenseX → SenseX) : (s.modSense n f).power = s.power := rfl
@[simp] theorem State.modSense_links (n : Fin 12) (f : SenseX → SenseX) : (s.modSense n f).links = s.links := rfl
@[simp] theorem State.modSense_lan (n : Fin 12) (f : SenseX → SenseX) : (s.modSense n f).lan = s.lan := rfl
@[simp] theorem State.modSense_timers (n : Fin 12) (f : SenseX → SenseX) : (s.modSense n f).timers = s.timers := rfl
@[simp] theorem State.modSense_fans (n : Fin 12) (f : SenseX → SenseX) : (s.modSense n f).fans = s.fans := rfl
@[simp] theorem State.modSense_temps (n : Fin 12) (f : SenseX → SenseX) : (s.modSense n f).temps = s.temps := rfl
@[simp] theorem State.modSense_bus (n : Fin 12) (f : SenseX → SenseX) : (s.modSense n f).bus = s.bus := rfl
@[simp] theorem State.modSense_rig (n : Fin 12) (f : SenseX → SenseX) : (s.modSense n f).rig = s.rig := rfl
@[simp] theorem State.modSense_pins (n : Fin 12) (f : SenseX → SenseX) : (s.modSense n f).pins = s.pins := rfl
@[simp] theorem State.modSense_undo (n : Fin 12) (f : SenseX → SenseX) : (s.modSense n f).undo = s.undo := rfl
@[simp] theorem State.modSense_reg (n : Fin 12) (f : SenseX → SenseX) (q : Reg) (m : Nat) : (s.modSense n f).reg q m = s.reg q m := rfl
@[simp] theorem State.modSense_fld (n : Fin 12) (f : SenseX → SenseX) (q : Fld) (m : Nat) : (s.modSense n f).fld q m = s.fld q m := rfl
@[simp] theorem State.modSense_flag (n : Fin 12) (f : SenseX → SenseX) (q : Fld) (m : Nat) : (s.modSense n f).flag q m = s.flag q m := rfl

@[simp] theorem State.modPhase_regs (n : Fin 48) (f : PhaseX → PhaseX) : (s.modPhase n f).regs = s.regs := rfl
@[simp] theorem State.modPhase_wlog (n : Fin 48) (f : PhaseX → PhaseX) : (s.modPhase n f).wlog = s.wlog := rfl
@[simp] theorem State.modPhase_hot (n : Fin 48) (f : PhaseX → PhaseX) : (s.modPhase n f).hot = s.hot := rfl
@[simp] theorem State.modPhase_now (n : Fin 48) (f : PhaseX → PhaseX) : (s.modPhase n f).now = s.now := rfl
@[simp] theorem State.modPhase_skew (n : Fin 48) (f : PhaseX → PhaseX) : (s.modPhase n f).skew = s.skew := rfl
@[simp] theorem State.modPhase_quiet (n : Fin 48) (f : PhaseX → PhaseX) : (s.modPhase n f).quiet = s.quiet := rfl
@[simp] theorem State.modPhase_small (n : Fin 48) (f : PhaseX → PhaseX) : (s.modPhase n f).small = s.small := rfl
@[simp] theorem State.modPhase_frees (n : Fin 48) (f : PhaseX → PhaseX) : (s.modPhase n f).frees = s.frees := rfl
@[simp] theorem State.modPhase_pending (n : Fin 48) (f : PhaseX → PhaseX) : (s.modPhase n f).pending = s.pending := rfl
@[simp] theorem State.modPhase_active (n : Fin 48) (f : PhaseX → PhaseX) : (s.modPhase n f).active = s.active := rfl
@[simp] theorem State.modPhase_shadow (n : Fin 48) (f : PhaseX → PhaseX) : (s.modPhase n f).shadow = s.shadow := rfl
@[simp] theorem State.modPhase_rails (n : Fin 48) (f : PhaseX → PhaseX) : (s.modPhase n f).rails = s.rails := rfl
@[simp] theorem State.modPhase_wins (n : Fin 48) (f : PhaseX → PhaseX) : (s.modPhase n f).wins = s.wins := rfl
@[simp] theorem State.modPhase_strands (n : Fin 48) (f : PhaseX → PhaseX) : (s.modPhase n f).strands = s.strands := rfl
@[simp] theorem State.modPhase_braids (n : Fin 48) (f : PhaseX → PhaseX) : (s.modPhase n f).braids = s.braids := rfl
@[simp] theorem State.modPhase_time (n : Fin 48) (f : PhaseX → PhaseX) : (s.modPhase n f).time = s.time := rfl
@[simp] theorem State.modPhase_tele (n : Fin 48) (f : PhaseX → PhaseX) : (s.modPhase n f).tele = s.tele := rfl
@[simp] theorem State.modPhase_log (n : Fin 48) (f : PhaseX → PhaseX) : (s.modPhase n f).log = s.log := rfl
@[simp] theorem State.modPhase_trace (n : Fin 48) (f : PhaseX → PhaseX) : (s.modPhase n f).trace = s.trace := rfl
@[simp] theorem State.modPhase_fault (n : Fin 48) (f : PhaseX → PhaseX) : (s.modPhase n f).fault = s.fault := rfl
@[simp] theorem State.modPhase_flash (n : Fin 48) (f : PhaseX → PhaseX) : (s.modPhase n f).flash = s.flash := rfl
@[simp] theorem State.modPhase_power (n : Fin 48) (f : PhaseX → PhaseX) : (s.modPhase n f).power = s.power := rfl
@[simp] theorem State.modPhase_links (n : Fin 48) (f : PhaseX → PhaseX) : (s.modPhase n f).links = s.links := rfl
@[simp] theorem State.modPhase_lan (n : Fin 48) (f : PhaseX → PhaseX) : (s.modPhase n f).lan = s.lan := rfl
@[simp] theorem State.modPhase_timers (n : Fin 48) (f : PhaseX → PhaseX) : (s.modPhase n f).timers = s.timers := rfl
@[simp] theorem State.modPhase_fans (n : Fin 48) (f : PhaseX → PhaseX) : (s.modPhase n f).fans = s.fans := rfl
@[simp] theorem State.modPhase_temps (n : Fin 48) (f : PhaseX → PhaseX) : (s.modPhase n f).temps = s.temps := rfl
@[simp] theorem State.modPhase_bus (n : Fin 48) (f : PhaseX → PhaseX) : (s.modPhase n f).bus = s.bus := rfl
@[simp] theorem State.modPhase_rig (n : Fin 48) (f : PhaseX → PhaseX) : (s.modPhase n f).rig = s.rig := rfl
@[simp] theorem State.modPhase_pins (n : Fin 48) (f : PhaseX → PhaseX) : (s.modPhase n f).pins = s.pins := rfl
@[simp] theorem State.modPhase_undo (n : Fin 48) (f : PhaseX → PhaseX) : (s.modPhase n f).undo = s.undo := rfl
@[simp] theorem State.modPhase_reg (n : Fin 48) (f : PhaseX → PhaseX) (q : Reg) (m : Nat) : (s.modPhase n f).reg q m = s.reg q m := rfl
@[simp] theorem State.modPhase_fld (n : Fin 48) (f : PhaseX → PhaseX) (q : Fld) (m : Nat) : (s.modPhase n f).fld q m = s.fld q m := rfl
@[simp] theorem State.modPhase_flag (n : Fin 48) (f : PhaseX → PhaseX) (q : Fld) (m : Nat) : (s.modPhase n f).flag q m = s.flag q m := rfl

@[simp] theorem State.modWin_regs (n : Fin 72) (f : WinX → WinX) : (s.modWin n f).regs = s.regs := rfl
@[simp] theorem State.modWin_wlog (n : Fin 72) (f : WinX → WinX) : (s.modWin n f).wlog = s.wlog := rfl
@[simp] theorem State.modWin_hot (n : Fin 72) (f : WinX → WinX) : (s.modWin n f).hot = s.hot := rfl
@[simp] theorem State.modWin_now (n : Fin 72) (f : WinX → WinX) : (s.modWin n f).now = s.now := rfl
@[simp] theorem State.modWin_skew (n : Fin 72) (f : WinX → WinX) : (s.modWin n f).skew = s.skew := rfl
@[simp] theorem State.modWin_quiet (n : Fin 72) (f : WinX → WinX) : (s.modWin n f).quiet = s.quiet := rfl
@[simp] theorem State.modWin_small (n : Fin 72) (f : WinX → WinX) : (s.modWin n f).small = s.small := rfl
@[simp] theorem State.modWin_frees (n : Fin 72) (f : WinX → WinX) : (s.modWin n f).frees = s.frees := rfl
@[simp] theorem State.modWin_pending (n : Fin 72) (f : WinX → WinX) : (s.modWin n f).pending = s.pending := rfl
@[simp] theorem State.modWin_active (n : Fin 72) (f : WinX → WinX) : (s.modWin n f).active = s.active := rfl
@[simp] theorem State.modWin_shadow (n : Fin 72) (f : WinX → WinX) : (s.modWin n f).shadow = s.shadow := rfl
@[simp] theorem State.modWin_rails (n : Fin 72) (f : WinX → WinX) : (s.modWin n f).rails = s.rails := rfl
@[simp] theorem State.modWin_phases (n : Fin 72) (f : WinX → WinX) : (s.modWin n f).phases = s.phases := rfl
@[simp] theorem State.modWin_strands (n : Fin 72) (f : WinX → WinX) : (s.modWin n f).strands = s.strands := rfl
@[simp] theorem State.modWin_braids (n : Fin 72) (f : WinX → WinX) : (s.modWin n f).braids = s.braids := rfl
@[simp] theorem State.modWin_time (n : Fin 72) (f : WinX → WinX) : (s.modWin n f).time = s.time := rfl
@[simp] theorem State.modWin_tele (n : Fin 72) (f : WinX → WinX) : (s.modWin n f).tele = s.tele := rfl
@[simp] theorem State.modWin_log (n : Fin 72) (f : WinX → WinX) : (s.modWin n f).log = s.log := rfl
@[simp] theorem State.modWin_trace (n : Fin 72) (f : WinX → WinX) : (s.modWin n f).trace = s.trace := rfl
@[simp] theorem State.modWin_fault (n : Fin 72) (f : WinX → WinX) : (s.modWin n f).fault = s.fault := rfl
@[simp] theorem State.modWin_flash (n : Fin 72) (f : WinX → WinX) : (s.modWin n f).flash = s.flash := rfl
@[simp] theorem State.modWin_power (n : Fin 72) (f : WinX → WinX) : (s.modWin n f).power = s.power := rfl
@[simp] theorem State.modWin_links (n : Fin 72) (f : WinX → WinX) : (s.modWin n f).links = s.links := rfl
@[simp] theorem State.modWin_lan (n : Fin 72) (f : WinX → WinX) : (s.modWin n f).lan = s.lan := rfl
@[simp] theorem State.modWin_timers (n : Fin 72) (f : WinX → WinX) : (s.modWin n f).timers = s.timers := rfl
@[simp] theorem State.modWin_fans (n : Fin 72) (f : WinX → WinX) : (s.modWin n f).fans = s.fans := rfl
@[simp] theorem State.modWin_temps (n : Fin 72) (f : WinX → WinX) : (s.modWin n f).temps = s.temps := rfl
@[simp] theorem State.modWin_bus (n : Fin 72) (f : WinX → WinX) : (s.modWin n f).bus = s.bus := rfl
@[simp] theorem State.modWin_rig (n : Fin 72) (f : WinX → WinX) : (s.modWin n f).rig = s.rig := rfl
@[simp] theorem State.modWin_pins (n : Fin 72) (f : WinX → WinX) : (s.modWin n f).pins = s.pins := rfl
@[simp] theorem State.modWin_undo (n : Fin 72) (f : WinX → WinX) : (s.modWin n f).undo = s.undo := rfl
@[simp] theorem State.modWin_reg (n : Fin 72) (f : WinX → WinX) (q : Reg) (m : Nat) : (s.modWin n f).reg q m = s.reg q m := rfl
@[simp] theorem State.modWin_fld (n : Fin 72) (f : WinX → WinX) (q : Fld) (m : Nat) : (s.modWin n f).fld q m = s.fld q m := rfl
@[simp] theorem State.modWin_flag (n : Fin 72) (f : WinX → WinX) (q : Fld) (m : Nat) : (s.modWin n f).flag q m = s.flag q m := rfl

@[simp] theorem State.modStrand_regs (n : Fin 32) (f : StrandX → StrandX) : (s.modStrand n f).regs = s.regs := rfl
@[simp] theorem State.modStrand_wlog (n : Fin 32) (f : StrandX → StrandX) : (s.modStrand n f).wlog = s.wlog := rfl
@[simp] theorem State.modStrand_hot (n : Fin 32) (f : StrandX → StrandX) : (s.modStrand n f).hot = s.hot := rfl
@[simp] theorem State.modStrand_now (n : Fin 32) (f : StrandX → StrandX) : (s.modStrand n f).now = s.now := rfl
@[simp] theorem State.modStrand_skew (n : Fin 32) (f : StrandX → StrandX) : (s.modStrand n f).skew = s.skew := rfl
@[simp] theorem State.modStrand_quiet (n : Fin 32) (f : StrandX → StrandX) : (s.modStrand n f).quiet = s.quiet := rfl
@[simp] theorem State.modStrand_small (n : Fin 32) (f : StrandX → StrandX) : (s.modStrand n f).small = s.small := rfl
@[simp] theorem State.modStrand_frees (n : Fin 32) (f : StrandX → StrandX) : (s.modStrand n f).frees = s.frees := rfl
@[simp] theorem State.modStrand_pending (n : Fin 32) (f : StrandX → StrandX) : (s.modStrand n f).pending = s.pending := rfl
@[simp] theorem State.modStrand_active (n : Fin 32) (f : StrandX → StrandX) : (s.modStrand n f).active = s.active := rfl
@[simp] theorem State.modStrand_shadow (n : Fin 32) (f : StrandX → StrandX) : (s.modStrand n f).shadow = s.shadow := rfl
@[simp] theorem State.modStrand_rails (n : Fin 32) (f : StrandX → StrandX) : (s.modStrand n f).rails = s.rails := rfl
@[simp] theorem State.modStrand_phases (n : Fin 32) (f : StrandX → StrandX) : (s.modStrand n f).phases = s.phases := rfl
@[simp] theorem State.modStrand_wins (n : Fin 32) (f : StrandX → StrandX) : (s.modStrand n f).wins = s.wins := rfl
@[simp] theorem State.modStrand_braids (n : Fin 32) (f : StrandX → StrandX) : (s.modStrand n f).braids = s.braids := rfl
@[simp] theorem State.modStrand_time (n : Fin 32) (f : StrandX → StrandX) : (s.modStrand n f).time = s.time := rfl
@[simp] theorem State.modStrand_tele (n : Fin 32) (f : StrandX → StrandX) : (s.modStrand n f).tele = s.tele := rfl
@[simp] theorem State.modStrand_log (n : Fin 32) (f : StrandX → StrandX) : (s.modStrand n f).log = s.log := rfl
@[simp] theorem State.modStrand_trace (n : Fin 32) (f : StrandX → StrandX) : (s.modStrand n f).trace = s.trace := rfl
@[simp] theorem State.modStrand_fault (n : Fin 32) (f : StrandX → StrandX) : (s.modStrand n f).fault = s.fault := rfl
@[simp] theorem State.modStrand_flash (n : Fin 32) (f : StrandX → StrandX) : (s.modStrand n f).flash = s.flash := rfl
@[simp] theorem State.modStrand_power (n : Fin 32) (f : StrandX → StrandX) : (s.modStrand n f).power = s.power := rfl
@[simp] theorem State.modStrand_links (n : Fin 32) (f : StrandX → StrandX) : (s.modStrand n f).links = s.links := rfl
@[simp] theorem State.modStrand_lan (n : Fin 32) (f : StrandX → StrandX) : (s.modStrand n f).lan = s.lan := rfl
@[simp] theorem State.modStrand_timers (n : Fin 32) (f : StrandX → StrandX) : (s.modStrand n f).timers = s.timers := rfl
@[simp] theorem State.modStrand_fans (n : Fin 32) (f : StrandX → StrandX) : (s.modStrand n f).fans = s.fans := rfl
@[simp] theorem State.modStrand_temps (n : Fin 32) (f : StrandX → StrandX) : (s.modStrand n f).temps = s.temps := rfl
@[simp] theorem State.modStrand_bus (n : Fin 32) (f : StrandX → StrandX) : (s.modStrand n f).bus = s.bus := rfl
@[simp] theorem State.modStrand_rig (n : Fin 32) (f : StrandX → StrandX) : (s.modStrand n f).rig = s.rig := rfl
@[simp] theorem State.modStrand_pins (n : Fin 32) (f : StrandX → StrandX) : (s.modStrand n f).pins = s.pins := rfl
@[simp] theorem State.modStrand_undo (n : Fin 32) (f : StrandX → StrandX) : (s.modStrand n f).undo = s.undo := rfl
@[simp] theorem State.modStrand_reg (n : Fin 32) (f : StrandX → StrandX) (q : Reg) (m : Nat) : (s.modStrand n f).reg q m = s.reg q m := rfl
@[simp] theorem State.modStrand_fld (n : Fin 32) (f : StrandX → StrandX) (q : Fld) (m : Nat) : (s.modStrand n f).fld q m = s.fld q m := rfl
@[simp] theorem State.modStrand_flag (n : Fin 32) (f : StrandX → StrandX) (q : Fld) (m : Nat) : (s.modStrand n f).flag q m = s.flag q m := rfl

@[simp] theorem State.modBraid_regs (n : Fin 16) (f : BraidX → BraidX) : (s.modBraid n f).regs = s.regs := rfl
@[simp] theorem State.modBraid_wlog (n : Fin 16) (f : BraidX → BraidX) : (s.modBraid n f).wlog = s.wlog := rfl
@[simp] theorem State.modBraid_hot (n : Fin 16) (f : BraidX → BraidX) : (s.modBraid n f).hot = s.hot := rfl
@[simp] theorem State.modBraid_now (n : Fin 16) (f : BraidX → BraidX) : (s.modBraid n f).now = s.now := rfl
@[simp] theorem State.modBraid_skew (n : Fin 16) (f : BraidX → BraidX) : (s.modBraid n f).skew = s.skew := rfl
@[simp] theorem State.modBraid_quiet (n : Fin 16) (f : BraidX → BraidX) : (s.modBraid n f).quiet = s.quiet := rfl
@[simp] theorem State.modBraid_small (n : Fin 16) (f : BraidX → BraidX) : (s.modBraid n f).small = s.small := rfl
@[simp] theorem State.modBraid_frees (n : Fin 16) (f : BraidX → BraidX) : (s.modBraid n f).frees = s.frees := rfl
@[simp] theorem State.modBraid_pending (n : Fin 16) (f : BraidX → BraidX) : (s.modBraid n f).pending = s.pending := rfl
@[simp] theorem State.modBraid_active (n : Fin 16) (f : BraidX → BraidX) : (s.modBraid n f).active = s.active := rfl
@[simp] theorem State.modBraid_shadow (n : Fin 16) (f : BraidX → BraidX) : (s.modBraid n f).shadow = s.shadow := rfl
@[simp] theorem State.modBraid_rails (n : Fin 16) (f : BraidX → BraidX) : (s.modBraid n f).rails = s.rails := rfl
@[simp] theorem State.modBraid_phases (n : Fin 16) (f : BraidX → BraidX) : (s.modBraid n f).phases = s.phases := rfl
@[simp] theorem State.modBraid_wins (n : Fin 16) (f : BraidX → BraidX) : (s.modBraid n f).wins = s.wins := rfl
@[simp] theorem State.modBraid_strands (n : Fin 16) (f : BraidX → BraidX) : (s.modBraid n f).strands = s.strands := rfl
@[simp] theorem State.modBraid_time (n : Fin 16) (f : BraidX → BraidX) : (s.modBraid n f).time = s.time := rfl
@[simp] theorem State.modBraid_tele (n : Fin 16) (f : BraidX → BraidX) : (s.modBraid n f).tele = s.tele := rfl
@[simp] theorem State.modBraid_log (n : Fin 16) (f : BraidX → BraidX) : (s.modBraid n f).log = s.log := rfl
@[simp] theorem State.modBraid_trace (n : Fin 16) (f : BraidX → BraidX) : (s.modBraid n f).trace = s.trace := rfl
@[simp] theorem State.modBraid_fault (n : Fin 16) (f : BraidX → BraidX) : (s.modBraid n f).fault = s.fault := rfl
@[simp] theorem State.modBraid_flash (n : Fin 16) (f : BraidX → BraidX) : (s.modBraid n f).flash = s.flash := rfl
@[simp] theorem State.modBraid_power (n : Fin 16) (f : BraidX → BraidX) : (s.modBraid n f).power = s.power := rfl
@[simp] theorem State.modBraid_links (n : Fin 16) (f : BraidX → BraidX) : (s.modBraid n f).links = s.links := rfl
@[simp] theorem State.modBraid_lan (n : Fin 16) (f : BraidX → BraidX) : (s.modBraid n f).lan = s.lan := rfl
@[simp] theorem State.modBraid_timers (n : Fin 16) (f : BraidX → BraidX) : (s.modBraid n f).timers = s.timers := rfl
@[simp] theorem State.modBraid_fans (n : Fin 16) (f : BraidX → BraidX) : (s.modBraid n f).fans = s.fans := rfl
@[simp] theorem State.modBraid_temps (n : Fin 16) (f : BraidX → BraidX) : (s.modBraid n f).temps = s.temps := rfl
@[simp] theorem State.modBraid_bus (n : Fin 16) (f : BraidX → BraidX) : (s.modBraid n f).bus = s.bus := rfl
@[simp] theorem State.modBraid_rig (n : Fin 16) (f : BraidX → BraidX) : (s.modBraid n f).rig = s.rig := rfl
@[simp] theorem State.modBraid_pins (n : Fin 16) (f : BraidX → BraidX) : (s.modBraid n f).pins = s.pins := rfl
@[simp] theorem State.modBraid_undo (n : Fin 16) (f : BraidX → BraidX) : (s.modBraid n f).undo = s.undo := rfl
@[simp] theorem State.modBraid_reg (n : Fin 16) (f : BraidX → BraidX) (q : Reg) (m : Nat) : (s.modBraid n f).reg q m = s.reg q m := rfl
@[simp] theorem State.modBraid_fld (n : Fin 16) (f : BraidX → BraidX) (q : Fld) (m : Nat) : (s.modBraid n f).fld q m = s.fld q m := rfl
@[simp] theorem State.modBraid_flag (n : Fin 16) (f : BraidX → BraidX) (q : Fld) (m : Nat) : (s.modBraid n f).flag q m = s.flag q m := rfl

@[simp] theorem State.modTrace_regs (n : Fin 12) (f : TraceX → TraceX) : (s.modTrace n f).regs = s.regs := rfl
@[simp] theorem State.modTrace_wlog (n : Fin 12) (f : TraceX → TraceX) : (s.modTrace n f).wlog = s.wlog := rfl
@[simp] theorem State.modTrace_hot (n : Fin 12) (f : TraceX → TraceX) : (s.modTrace n f).hot = s.hot := rfl
@[simp] theorem State.modTrace_now (n : Fin 12) (f : TraceX → TraceX) : (s.modTrace n f).now = s.now := rfl
@[simp] theorem State.modTrace_skew (n : Fin 12) (f : TraceX → TraceX) : (s.modTrace n f).skew = s.skew := rfl
@[simp] theorem State.modTrace_quiet (n : Fin 12) (f : TraceX → TraceX) : (s.modTrace n f).quiet = s.quiet := rfl
@[simp] theorem State.modTrace_small (n : Fin 12) (f : TraceX → TraceX) : (s.modTrace n f).small = s.small := rfl
@[simp] theorem State.modTrace_frees (n : Fin 12) (f : TraceX → TraceX) : (s.modTrace n f).frees = s.frees := rfl
@[simp] theorem State.modTrace_pending (n : Fin 12) (f : TraceX → TraceX) : (s.modTrace n f).pending = s.pending := rfl
@[simp] theorem State.modTrace_active (n : Fin 12) (f : TraceX → TraceX) : (s.modTrace n f).active = s.active := rfl
@[simp] theorem State.modTrace_shadow (n : Fin 12) (f : TraceX → TraceX) : (s.modTrace n f).shadow = s.shadow := rfl
@[simp] theorem State.modTrace_rails (n : Fin 12) (f : TraceX → TraceX) : (s.modTrace n f).rails = s.rails := rfl
@[simp] theorem State.modTrace_phases (n : Fin 12) (f : TraceX → TraceX) : (s.modTrace n f).phases = s.phases := rfl
@[simp] theorem State.modTrace_wins (n : Fin 12) (f : TraceX → TraceX) : (s.modTrace n f).wins = s.wins := rfl
@[simp] theorem State.modTrace_strands (n : Fin 12) (f : TraceX → TraceX) : (s.modTrace n f).strands = s.strands := rfl
@[simp] theorem State.modTrace_braids (n : Fin 12) (f : TraceX → TraceX) : (s.modTrace n f).braids = s.braids := rfl
@[simp] theorem State.modTrace_time (n : Fin 12) (f : TraceX → TraceX) : (s.modTrace n f).time = s.time := rfl
@[simp] theorem State.modTrace_tele (n : Fin 12) (f : TraceX → TraceX) : (s.modTrace n f).tele = s.tele := rfl
@[simp] theorem State.modTrace_log (n : Fin 12) (f : TraceX → TraceX) : (s.modTrace n f).log = s.log := rfl
@[simp] theorem State.modTrace_fault (n : Fin 12) (f : TraceX → TraceX) : (s.modTrace n f).fault = s.fault := rfl
@[simp] theorem State.modTrace_flash (n : Fin 12) (f : TraceX → TraceX) : (s.modTrace n f).flash = s.flash := rfl
@[simp] theorem State.modTrace_power (n : Fin 12) (f : TraceX → TraceX) : (s.modTrace n f).power = s.power := rfl
@[simp] theorem State.modTrace_links (n : Fin 12) (f : TraceX → TraceX) : (s.modTrace n f).links = s.links := rfl
@[simp] theorem State.modTrace_lan (n : Fin 12) (f : TraceX → TraceX) : (s.modTrace n f).lan = s.lan := rfl
@[simp] theorem State.modTrace_timers (n : Fin 12) (f : TraceX → TraceX) : (s.modTrace n f).timers = s.timers := rfl
@[simp] theorem State.modTrace_fans (n : Fin 12) (f : TraceX → TraceX) : (s.modTrace n f).fans = s.fans := rfl
@[simp] theorem State.modTrace_temps (n : Fin 12) (f : TraceX → TraceX) : (s.modTrace n f).temps = s.temps := rfl
@[simp] theorem State.modTrace_bus (n : Fin 12) (f : TraceX → TraceX) : (s.modTrace n f).bus = s.bus := rfl
@[simp] theorem State.modTrace_rig (n : Fin 12) (f : TraceX → TraceX) : (s.modTrace n f).rig = s.rig := rfl
@[simp] theorem State.modTrace_pins (n : Fin 12) (f : TraceX → TraceX) : (s.modTrace n f).pins = s.pins := rfl
@[simp] theorem State.modTrace_undo (n : Fin 12) (f : TraceX → TraceX) : (s.modTrace n f).undo = s.undo := rfl
@[simp] theorem State.modTrace_reg (n : Fin 12) (f : TraceX → TraceX) (q : Reg) (m : Nat) : (s.modTrace n f).reg q m = s.reg q m := rfl
@[simp] theorem State.modTrace_fld (n : Fin 12) (f : TraceX → TraceX) (q : Fld) (m : Nat) : (s.modTrace n f).fld q m = s.fld q m := rfl
@[simp] theorem State.modTrace_flag (n : Fin 12) (f : TraceX → TraceX) (q : Fld) (m : Nat) : (s.modTrace n f).flag q m = s.flag q m := rfl

@[simp] theorem State.modLink_regs (n : Fin 12) (f : LinkX → LinkX) : (s.modLink n f).regs = s.regs := rfl
@[simp] theorem State.modLink_wlog (n : Fin 12) (f : LinkX → LinkX) : (s.modLink n f).wlog = s.wlog := rfl
@[simp] theorem State.modLink_hot (n : Fin 12) (f : LinkX → LinkX) : (s.modLink n f).hot = s.hot := rfl
@[simp] theorem State.modLink_now (n : Fin 12) (f : LinkX → LinkX) : (s.modLink n f).now = s.now := rfl
@[simp] theorem State.modLink_skew (n : Fin 12) (f : LinkX → LinkX) : (s.modLink n f).skew = s.skew := rfl
@[simp] theorem State.modLink_quiet (n : Fin 12) (f : LinkX → LinkX) : (s.modLink n f).quiet = s.quiet := rfl
@[simp] theorem State.modLink_small (n : Fin 12) (f : LinkX → LinkX) : (s.modLink n f).small = s.small := rfl
@[simp] theorem State.modLink_frees (n : Fin 12) (f : LinkX → LinkX) : (s.modLink n f).frees = s.frees := rfl
@[simp] theorem State.modLink_pending (n : Fin 12) (f : LinkX → LinkX) : (s.modLink n f).pending = s.pending := rfl
@[simp] theorem State.modLink_active (n : Fin 12) (f : LinkX → LinkX) : (s.modLink n f).active = s.active := rfl
@[simp] theorem State.modLink_shadow (n : Fin 12) (f : LinkX → LinkX) : (s.modLink n f).shadow = s.shadow := rfl
@[simp] theorem State.modLink_rails (n : Fin 12) (f : LinkX → LinkX) : (s.modLink n f).rails = s.rails := rfl
@[simp] theorem State.modLink_phases (n : Fin 12) (f : LinkX → LinkX) : (s.modLink n f).phases = s.phases := rfl
@[simp] theorem State.modLink_wins (n : Fin 12) (f : LinkX → LinkX) : (s.modLink n f).wins = s.wins := rfl
@[simp] theorem State.modLink_strands (n : Fin 12) (f : LinkX → LinkX) : (s.modLink n f).strands = s.strands := rfl
@[simp] theorem State.modLink_braids (n : Fin 12) (f : LinkX → LinkX) : (s.modLink n f).braids = s.braids := rfl
@[simp] theorem State.modLink_time (n : Fin 12) (f : LinkX → LinkX) : (s.modLink n f).time = s.time := rfl
@[simp] theorem State.modLink_tele (n : Fin 12) (f : LinkX → LinkX) : (s.modLink n f).tele = s.tele := rfl
@[simp] theorem State.modLink_log (n : Fin 12) (f : LinkX → LinkX) : (s.modLink n f).log = s.log := rfl
@[simp] theorem State.modLink_trace (n : Fin 12) (f : LinkX → LinkX) : (s.modLink n f).trace = s.trace := rfl
@[simp] theorem State.modLink_fault (n : Fin 12) (f : LinkX → LinkX) : (s.modLink n f).fault = s.fault := rfl
@[simp] theorem State.modLink_flash (n : Fin 12) (f : LinkX → LinkX) : (s.modLink n f).flash = s.flash := rfl
@[simp] theorem State.modLink_power (n : Fin 12) (f : LinkX → LinkX) : (s.modLink n f).power = s.power := rfl
@[simp] theorem State.modLink_lan (n : Fin 12) (f : LinkX → LinkX) : (s.modLink n f).lan = s.lan := rfl
@[simp] theorem State.modLink_timers (n : Fin 12) (f : LinkX → LinkX) : (s.modLink n f).timers = s.timers := rfl
@[simp] theorem State.modLink_fans (n : Fin 12) (f : LinkX → LinkX) : (s.modLink n f).fans = s.fans := rfl
@[simp] theorem State.modLink_temps (n : Fin 12) (f : LinkX → LinkX) : (s.modLink n f).temps = s.temps := rfl
@[simp] theorem State.modLink_bus (n : Fin 12) (f : LinkX → LinkX) : (s.modLink n f).bus = s.bus := rfl
@[simp] theorem State.modLink_rig (n : Fin 12) (f : LinkX → LinkX) : (s.modLink n f).rig = s.rig := rfl
@[simp] theorem State.modLink_pins (n : Fin 12) (f : LinkX → LinkX) : (s.modLink n f).pins = s.pins := rfl
@[simp] theorem State.modLink_undo (n : Fin 12) (f : LinkX → LinkX) : (s.modLink n f).undo = s.undo := rfl
@[simp] theorem State.modLink_reg (n : Fin 12) (f : LinkX → LinkX) (q : Reg) (m : Nat) : (s.modLink n f).reg q m = s.reg q m := rfl
@[simp] theorem State.modLink_fld (n : Fin 12) (f : LinkX → LinkX) (q : Fld) (m : Nat) : (s.modLink n f).fld q m = s.fld q m := rfl
@[simp] theorem State.modLink_flag (n : Fin 12) (f : LinkX → LinkX) (q : Fld) (m : Nat) : (s.modLink n f).flag q m = s.flag q m := rfl

@[simp] theorem State.modGroup_regs (n : Fin 12) (f : GroupX → GroupX) : (s.modGroup n f).regs = s.regs := rfl
@[simp] theorem State.modGroup_wlog (n : Fin 12) (f : GroupX → GroupX) : (s.modGroup n f).wlog = s.wlog := rfl
@[simp] theorem State.modGroup_hot (n : Fin 12) (f : GroupX → GroupX) : (s.modGroup n f).hot = s.hot := rfl
@[simp] theorem State.modGroup_now (n : Fin 12) (f : GroupX → GroupX) : (s.modGroup n f).now = s.now := rfl
@[simp] theorem State.modGroup_skew (n : Fin 12) (f : GroupX → GroupX) : (s.modGroup n f).skew = s.skew := rfl
@[simp] theorem State.modGroup_quiet (n : Fin 12) (f : GroupX → GroupX) : (s.modGroup n f).quiet = s.quiet := rfl
@[simp] theorem State.modGroup_small (n : Fin 12) (f : GroupX → GroupX) : (s.modGroup n f).small = s.small := rfl
@[simp] theorem State.modGroup_frees (n : Fin 12) (f : GroupX → GroupX) : (s.modGroup n f).frees = s.frees := rfl
@[simp] theorem State.modGroup_pending (n : Fin 12) (f : GroupX → GroupX) : (s.modGroup n f).pending = s.pending := rfl
@[simp] theorem State.modGroup_active (n : Fin 12) (f : GroupX → GroupX) : (s.modGroup n f).active = s.active := rfl
@[simp] theorem State.modGroup_shadow (n : Fin 12) (f : GroupX → GroupX) : (s.modGroup n f).shadow = s.shadow := rfl
@[simp] theorem State.modGroup_rails (n : Fin 12) (f : GroupX → GroupX) : (s.modGroup n f).rails = s.rails := rfl
@[simp] theorem State.modGroup_phases (n : Fin 12) (f : GroupX → GroupX) : (s.modGroup n f).phases = s.phases := rfl
@[simp] theorem State.modGroup_wins (n : Fin 12) (f : GroupX → GroupX) : (s.modGroup n f).wins = s.wins := rfl
@[simp] theorem State.modGroup_strands (n : Fin 12) (f : GroupX → GroupX) : (s.modGroup n f).strands = s.strands := rfl
@[simp] theorem State.modGroup_braids (n : Fin 12) (f : GroupX → GroupX) : (s.modGroup n f).braids = s.braids := rfl
@[simp] theorem State.modGroup_time (n : Fin 12) (f : GroupX → GroupX) : (s.modGroup n f).time = s.time := rfl
@[simp] theorem State.modGroup_tele (n : Fin 12) (f : GroupX → GroupX) : (s.modGroup n f).tele = s.tele := rfl
@[simp] theorem State.modGroup_log (n : Fin 12) (f : GroupX → GroupX) : (s.modGroup n f).log = s.log := rfl
@[simp] theorem State.modGroup_trace (n : Fin 12) (f : GroupX → GroupX) : (s.modGroup n f).trace = s.trace := rfl
@[simp] theorem State.modGroup_fault (n : Fin 12) (f : GroupX → GroupX) : (s.modGroup n f).fault = s.fault := rfl
@[simp] theorem State.modGroup_flash (n : Fin 12) (f : GroupX → GroupX) : (s.modGroup n f).flash = s.flash := rfl
@[simp] theorem State.modGroup_power (n : Fin 12) (f : GroupX → GroupX) : (s.modGroup n f).power = s.power := rfl
@[simp] theorem State.modGroup_links (n : Fin 12) (f : GroupX → GroupX) : (s.modGroup n f).links = s.links := rfl
@[simp] theorem State.modGroup_timers (n : Fin 12) (f : GroupX → GroupX) : (s.modGroup n f).timers = s.timers := rfl
@[simp] theorem State.modGroup_fans (n : Fin 12) (f : GroupX → GroupX) : (s.modGroup n f).fans = s.fans := rfl
@[simp] theorem State.modGroup_temps (n : Fin 12) (f : GroupX → GroupX) : (s.modGroup n f).temps = s.temps := rfl
@[simp] theorem State.modGroup_bus (n : Fin 12) (f : GroupX → GroupX) : (s.modGroup n f).bus = s.bus := rfl
@[simp] theorem State.modGroup_rig (n : Fin 12) (f : GroupX → GroupX) : (s.modGroup n f).rig = s.rig := rfl
@[simp] theorem State.modGroup_pins (n : Fin 12) (f : GroupX → GroupX) : (s.modGroup n f).pins = s.pins := rfl
@[simp] theorem State.modGroup_undo (n : Fin 12) (f : GroupX → GroupX) : (s.modGroup n f).undo = s.undo := rfl
@[simp] theorem State.modGroup_reg (n : Fin 12) (f : GroupX → GroupX) (q : Reg) (m : Nat) : (s.modGroup n f).reg q m = s.reg q m := rfl
@[simp] theorem State.modGroup_fld (n : Fin 12) (f : GroupX → GroupX) (q : Fld) (m : Nat) : (s.modGroup n f).fld q m = s.fld q m := rfl
@[simp] theorem State.modGroup_flag (n : Fin 12) (f : GroupX → GroupX) (q : Fld) (m : Nat) : (s.modGroup n f).flag q m = s.flag q m := rfl

@[simp] theorem State.modTimer_regs (n : Fin 12) (f : TimerX → TimerX) : (s.modTimer n f).regs = s.regs := rfl
@[simp] theorem State.modTimer_wlog (n : Fin 12) (f : TimerX → TimerX) : (s.modTimer n f).wlog = s.wlog := rfl
@[simp] theorem State.modTimer_hot (n : Fin 12) (f : TimerX → TimerX) : (s.modTimer n f).hot = s.hot := rfl
@[simp] theorem State.modTimer_now (n : Fin 12) (f : TimerX → TimerX) : (s.modTimer n f).now = s.now := rfl
@[simp] theorem State.modTimer_skew (n : Fin 12) (f : TimerX → TimerX) : (s.modTimer n f).skew = s.skew := rfl
@[simp] theorem State.modTimer_quiet (n : Fin 12) (f : TimerX → TimerX) : (s.modTimer n f).quiet = s.quiet := rfl
@[simp] theorem State.modTimer_small (n : Fin 12) (f : TimerX → TimerX) : (s.modTimer n f).small = s.small := rfl
@[simp] theorem State.modTimer_frees (n : Fin 12) (f : TimerX → TimerX) : (s.modTimer n f).frees = s.frees := rfl
@[simp] theorem State.modTimer_pending (n : Fin 12) (f : TimerX → TimerX) : (s.modTimer n f).pending = s.pending := rfl
@[simp] theorem State.modTimer_active (n : Fin 12) (f : TimerX → TimerX) : (s.modTimer n f).active = s.active := rfl
@[simp] theorem State.modTimer_shadow (n : Fin 12) (f : TimerX → TimerX) : (s.modTimer n f).shadow = s.shadow := rfl
@[simp] theorem State.modTimer_rails (n : Fin 12) (f : TimerX → TimerX) : (s.modTimer n f).rails = s.rails := rfl
@[simp] theorem State.modTimer_phases (n : Fin 12) (f : TimerX → TimerX) : (s.modTimer n f).phases = s.phases := rfl
@[simp] theorem State.modTimer_wins (n : Fin 12) (f : TimerX → TimerX) : (s.modTimer n f).wins = s.wins := rfl
@[simp] theorem State.modTimer_strands (n : Fin 12) (f : TimerX → TimerX) : (s.modTimer n f).strands = s.strands := rfl
@[simp] theorem State.modTimer_braids (n : Fin 12) (f : TimerX → TimerX) : (s.modTimer n f).braids = s.braids := rfl
@[simp] theorem State.modTimer_time (n : Fin 12) (f : TimerX → TimerX) : (s.modTimer n f).time = s.time := rfl
@[simp] theorem State.modTimer_tele (n : Fin 12) (f : TimerX → TimerX) : (s.modTimer n f).tele = s.tele := rfl
@[simp] theorem State.modTimer_log (n : Fin 12) (f : TimerX → TimerX) : (s.modTimer n f).log = s.log := rfl
@[simp] theorem State.modTimer_trace (n : Fin 12) (f : TimerX → TimerX) : (s.modTimer n f).trace = s.trace := rfl
@[simp] theorem State.modTimer_fault (n : Fin 12) (f : TimerX → TimerX) : (s.modTimer n f).fault = s.fault := rfl
@[simp] theorem State.modTimer_flash (n : Fin 12) (f : TimerX → TimerX) : (s.modTimer n f).flash = s.flash := rfl
@[simp] theorem State.modTimer_power (n : Fin 12) (f : TimerX → TimerX) : (s.modTimer n f).power = s.power := rfl
@[simp] theorem State.modTimer_links (n : Fin 12) (f : TimerX → TimerX) : (s.modTimer n f).links = s.links := rfl
@[simp] theorem State.modTimer_lan (n : Fin 12) (f : TimerX → TimerX) : (s.modTimer n f).lan = s.lan := rfl
@[simp] theorem State.modTimer_fans (n : Fin 12) (f : TimerX → TimerX) : (s.modTimer n f).fans = s.fans := rfl
@[simp] theorem State.modTimer_temps (n : Fin 12) (f : TimerX → TimerX) : (s.modTimer n f).temps = s.temps := rfl
@[simp] theorem State.modTimer_bus (n : Fin 12) (f : TimerX → TimerX) : (s.modTimer n f).bus = s.bus := rfl
@[simp] theorem State.modTimer_rig (n : Fin 12) (f : TimerX → TimerX) : (s.modTimer n f).rig = s.rig := rfl
@[simp] theorem State.modTimer_pins (n : Fin 12) (f : TimerX → TimerX) : (s.modTimer n f).pins = s.pins := rfl
@[simp] theorem State.modTimer_undo (n : Fin 12) (f : TimerX → TimerX) : (s.modTimer n f).undo = s.undo := rfl
@[simp] theorem State.modTimer_reg (n : Fin 12) (f : TimerX → TimerX) (q : Reg) (m : Nat) : (s.modTimer n f).reg q m = s.reg q m := rfl
@[simp] theorem State.modTimer_fld (n : Fin 12) (f : TimerX → TimerX) (q : Fld) (m : Nat) : (s.modTimer n f).fld q m = s.fld q m := rfl
@[simp] theorem State.modTimer_flag (n : Fin 12) (f : TimerX → TimerX) (q : Fld) (m : Nat) : (s.modTimer n f).flag q m = s.flag q m := rfl

@[simp] theorem State.modFan_regs (n : Fin 4) (f : FanX → FanX) : (s.modFan n f).regs = s.regs := rfl
@[simp] theorem State.modFan_wlog (n : Fin 4) (f : FanX → FanX) : (s.modFan n f).wlog = s.wlog := rfl
@[simp] theorem State.modFan_hot (n : Fin 4) (f : FanX → FanX) : (s.modFan n f).hot = s.hot := rfl
@[simp] theorem State.modFan_now (n : Fin 4) (f : FanX → FanX) : (s.modFan n f).now = s.now := rfl
@[simp] theorem State.modFan_skew (n : Fin 4) (f : FanX → FanX) : (s.modFan n f).skew = s.skew := rfl
@[simp] theorem State.modFan_quiet (n : Fin 4) (f : FanX → FanX) : (s.modFan n f).quiet = s.quiet := rfl
@[simp] theorem State.modFan_small (n : Fin 4) (f : FanX → FanX) : (s.modFan n f).small = s.small := rfl
@[simp] theorem State.modFan_frees (n : Fin 4) (f : FanX → FanX) : (s.modFan n f).frees = s.frees := rfl
@[simp] theorem State.modFan_pending (n : Fin 4) (f : FanX → FanX) : (s.modFan n f).pending = s.pending := rfl
@[simp] theorem State.modFan_active (n : Fin 4) (f : FanX → FanX) : (s.modFan n f).active = s.active := rfl
@[simp] theorem State.modFan_shadow (n : Fin 4) (f : FanX → FanX) : (s.modFan n f).shadow = s.shadow := rfl
@[simp] theorem State.modFan_rails (n : Fin 4) (f : FanX → FanX) : (s.modFan n f).rails = s.rails := rfl
@[simp] theorem State.modFan_phases (n : Fin 4) (f : FanX → FanX) : (s.modFan n f).phases = s.phases := rfl
@[simp] theorem State.modFan_wins (n : Fin 4) (f : FanX → FanX) : (s.modFan n f).wins = s.wins := rfl
@[simp] theorem State.modFan_strands (n : Fin 4) (f : FanX → FanX) : (s.modFan n f).strands = s.strands := rfl
@[simp] theorem State.modFan_braids (n : Fin 4) (f : FanX → FanX) : (s.modFan n f).braids = s.braids := rfl
@[simp] theorem State.modFan_time (n : Fin 4) (f : FanX → FanX) : (s.modFan n f).time = s.time := rfl
@[simp] theorem State.modFan_tele (n : Fin 4) (f : FanX → FanX) : (s.modFan n f).tele = s.tele := rfl
@[simp] theorem State.modFan_log (n : Fin 4) (f : FanX → FanX) : (s.modFan n f).log = s.log := rfl
@[simp] theorem State.modFan_trace (n : Fin 4) (f : FanX → FanX) : (s.modFan n f).trace = s.trace := rfl
@[simp] theorem State.modFan_fault (n : Fin 4) (f : FanX → FanX) : (s.modFan n f).fault = s.fault := rfl
@[simp] theorem State.modFan_flash (n : Fin 4) (f : FanX → FanX) : (s.modFan n f).flash = s.flash := rfl
@[simp] theorem State.modFan_power (n : Fin 4) (f : FanX → FanX) : (s.modFan n f).power = s.power := rfl
@[simp] theorem State.modFan_links (n : Fin 4) (f : FanX → FanX) : (s.modFan n f).links = s.links := rfl
@[simp] theorem State.modFan_lan (n : Fin 4) (f : FanX → FanX) : (s.modFan n f).lan = s.lan := rfl
@[simp] theorem State.modFan_timers (n : Fin 4) (f : FanX → FanX) : (s.modFan n f).timers = s.timers := rfl
@[simp] theorem State.modFan_temps (n : Fin 4) (f : FanX → FanX) : (s.modFan n f).temps = s.temps := rfl
@[simp] theorem State.modFan_bus (n : Fin 4) (f : FanX → FanX) : (s.modFan n f).bus = s.bus := rfl
@[simp] theorem State.modFan_rig (n : Fin 4) (f : FanX → FanX) : (s.modFan n f).rig = s.rig := rfl
@[simp] theorem State.modFan_pins (n : Fin 4) (f : FanX → FanX) : (s.modFan n f).pins = s.pins := rfl
@[simp] theorem State.modFan_undo (n : Fin 4) (f : FanX → FanX) : (s.modFan n f).undo = s.undo := rfl
@[simp] theorem State.modFan_reg (n : Fin 4) (f : FanX → FanX) (q : Reg) (m : Nat) : (s.modFan n f).reg q m = s.reg q m := rfl
@[simp] theorem State.modFan_fld (n : Fin 4) (f : FanX → FanX) (q : Fld) (m : Nat) : (s.modFan n f).fld q m = s.fld q m := rfl
@[simp] theorem State.modFan_flag (n : Fin 4) (f : FanX → FanX) (q : Fld) (m : Nat) : (s.modFan n f).flag q m = s.flag q m := rfl

@[simp] theorem State.modTemp_regs (n : Fin 16) (f : TempX → TempX) : (s.modTemp n f).regs = s.regs := rfl
@[simp] theorem State.modTemp_wlog (n : Fin 16) (f : TempX → TempX) : (s.modTemp n f).wlog = s.wlog := rfl
@[simp] theorem State.modTemp_hot (n : Fin 16) (f : TempX → TempX) : (s.modTemp n f).hot = s.hot := rfl
@[simp] theorem State.modTemp_now (n : Fin 16) (f : TempX → TempX) : (s.modTemp n f).now = s.now := rfl
@[simp] theorem State.modTemp_skew (n : Fin 16) (f : TempX → TempX) : (s.modTemp n f).skew = s.skew := rfl
@[simp] theorem State.modTemp_quiet (n : Fin 16) (f : TempX → TempX) : (s.modTemp n f).quiet = s.quiet := rfl
@[simp] theorem State.modTemp_small (n : Fin 16) (f : TempX → TempX) : (s.modTemp n f).small = s.small := rfl
@[simp] theorem State.modTemp_frees (n : Fin 16) (f : TempX → TempX) : (s.modTemp n f).frees = s.frees := rfl
@[simp] theorem State.modTemp_pending (n : Fin 16) (f : TempX → TempX) : (s.modTemp n f).pending = s.pending := rfl
@[simp] theorem State.modTemp_active (n : Fin 16) (f : TempX → TempX) : (s.modTemp n f).active = s.active := rfl
@[simp] theorem State.modTemp_shadow (n : Fin 16) (f : TempX → TempX) : (s.modTemp n f).shadow = s.shadow := rfl
@[simp] theorem State.modTemp_rails (n : Fin 16) (f : TempX → TempX) : (s.modTemp n f).rails = s.rails := rfl
@[simp] theorem State.modTemp_phases (n : Fin 16) (f : TempX → TempX) : (s.modTemp n f).phases = s.phases := rfl
@[simp] theorem State.modTemp_wins (n : Fin 16) (f : TempX → TempX) : (s.modTemp n f).wins = s.wins := rfl
@[simp] theorem State.modTemp_strands (n : Fin 16) (f : TempX → TempX) : (s.modTemp n f).strands = s.strands := rfl
@[simp] theorem State.modTemp_braids (n : Fin 16) (f : TempX → TempX) : (s.modTemp n f).braids = s.braids := rfl
@[simp] theorem State.modTemp_time (n : Fin 16) (f : TempX → TempX) : (s.modTemp n f).time = s.time := rfl
@[simp] theorem State.modTemp_tele (n : Fin 16) (f : TempX → TempX) : (s.modTemp n f).tele = s.tele := rfl
@[simp] theorem State.modTemp_log (n : Fin 16) (f : TempX → TempX) : (s.modTemp n f).log = s.log := rfl
@[simp] theorem State.modTemp_trace (n : Fin 16) (f : TempX → TempX) : (s.modTemp n f).trace = s.trace := rfl
@[simp] theorem State.modTemp_fault (n : Fin 16) (f : TempX → TempX) : (s.modTemp n f).fault = s.fault := rfl
@[simp] theorem State.modTemp_flash (n : Fin 16) (f : TempX → TempX) : (s.modTemp n f).flash = s.flash := rfl
@[simp] theorem State.modTemp_power (n : Fin 16) (f : TempX → TempX) : (s.modTemp n f).power = s.power := rfl
@[simp] theorem State.modTemp_links (n : Fin 16) (f : TempX → TempX) : (s.modTemp n f).links = s.links := rfl
@[simp] theorem State.modTemp_lan (n : Fin 16) (f : TempX → TempX) : (s.modTemp n f).lan = s.lan := rfl
@[simp] theorem State.modTemp_timers (n : Fin 16) (f : TempX → TempX) : (s.modTemp n f).timers = s.timers := rfl
@[simp] theorem State.modTemp_fans (n : Fin 16) (f : TempX → TempX) : (s.modTemp n f).fans = s.fans := rfl
@[simp] theorem State.modTemp_bus (n : Fin 16) (f : TempX → TempX) : (s.modTemp n f).bus = s.bus := rfl
@[simp] theorem State.modTemp_rig (n : Fin 16) (f : TempX → TempX) : (s.modTemp n f).rig = s.rig := rfl
@[simp] theorem State.modTemp_pins (n : Fin 16) (f : TempX → TempX) : (s.modTemp n f).pins = s.pins := rfl
@[simp] theorem State.modTemp_undo (n : Fin 16) (f : TempX → TempX) : (s.modTemp n f).undo = s.undo := rfl
@[simp] theorem State.modTemp_reg (n : Fin 16) (f : TempX → TempX) (q : Reg) (m : Nat) : (s.modTemp n f).reg q m = s.reg q m := rfl
@[simp] theorem State.modTemp_fld (n : Fin 16) (f : TempX → TempX) (q : Fld) (m : Nat) : (s.modTemp n f).fld q m = s.fld q m := rfl
@[simp] theorem State.modTemp_flag (n : Fin 16) (f : TempX → TempX) (q : Fld) (m : Nat) : (s.modTemp n f).flag q m = s.flag q m := rfl

@[simp] theorem State.modTele_regs (f : TeleX → TeleX) : (s.modTele f).regs = s.regs := rfl
@[simp] theorem State.modTele_wlog (f : TeleX → TeleX) : (s.modTele f).wlog = s.wlog := rfl
@[simp] theorem State.modTele_hot (f : TeleX → TeleX) : (s.modTele f).hot = s.hot := rfl
@[simp] theorem State.modTele_now (f : TeleX → TeleX) : (s.modTele f).now = s.now := rfl
@[simp] theorem State.modTele_skew (f : TeleX → TeleX) : (s.modTele f).skew = s.skew := rfl
@[simp] theorem State.modTele_quiet (f : TeleX → TeleX) : (s.modTele f).quiet = s.quiet := rfl
@[simp] theorem State.modTele_small (f : TeleX → TeleX) : (s.modTele f).small = s.small := rfl
@[simp] theorem State.modTele_frees (f : TeleX → TeleX) : (s.modTele f).frees = s.frees := rfl
@[simp] theorem State.modTele_pending (f : TeleX → TeleX) : (s.modTele f).pending = s.pending := rfl
@[simp] theorem State.modTele_active (f : TeleX → TeleX) : (s.modTele f).active = s.active := rfl
@[simp] theorem State.modTele_shadow (f : TeleX → TeleX) : (s.modTele f).shadow = s.shadow := rfl
@[simp] theorem State.modTele_rails (f : TeleX → TeleX) : (s.modTele f).rails = s.rails := rfl
@[simp] theorem State.modTele_phases (f : TeleX → TeleX) : (s.modTele f).phases = s.phases := rfl
@[simp] theorem State.modTele_wins (f : TeleX → TeleX) : (s.modTele f).wins = s.wins := rfl
@[simp] theorem State.modTele_strands (f : TeleX → TeleX) : (s.modTele f).strands = s.strands := rfl
@[simp] theorem State.modTele_braids (f : TeleX → TeleX) : (s.modTele f).braids = s.braids := rfl
@[simp] theorem State.modTele_time (f : TeleX → TeleX) : (s.modTele f).time = s.time := rfl
@[simp] theorem State.modTele_log (f : TeleX → TeleX) : (s.modTele f).log = s.log := rfl
@[simp] theorem State.modTele_trace (f : TeleX → TeleX) : (s.modTele f).trace = s.trace := rfl
@[simp] theorem State.modTele_fault (f : TeleX → TeleX) : (s.modTele f).fault = s.fault := rfl
@[simp] theorem State.modTele_flash (f : TeleX → TeleX) : (s.modTele f).flash = s.flash := rfl
@[simp] theorem State.modTele_power (f : TeleX → TeleX) : (s.modTele f).power = s.power := rfl
@[simp] theorem State.modTele_links (f : TeleX → TeleX) : (s.modTele f).links = s.links := rfl
@[simp] theorem State.modTele_lan (f : TeleX → TeleX) : (s.modTele f).lan = s.lan := rfl
@[simp] theorem State.modTele_timers (f : TeleX → TeleX) : (s.modTele f).timers = s.timers := rfl
@[simp] theorem State.modTele_fans (f : TeleX → TeleX) : (s.modTele f).fans = s.fans := rfl
@[simp] theorem State.modTele_temps (f : TeleX → TeleX) : (s.modTele f).temps = s.temps := rfl
@[simp] theorem State.modTele_bus (f : TeleX → TeleX) : (s.modTele f).bus = s.bus := rfl
@[simp] theorem State.modTele_rig (f : TeleX → TeleX) : (s.modTele f).rig = s.rig := rfl
@[simp] theorem State.modTele_pins (f : TeleX → TeleX) : (s.modTele f).pins = s.pins := rfl
@[simp] theorem State.modTele_undo (f : TeleX → TeleX) : (s.modTele f).undo = s.undo := rfl
@[simp] theorem State.modTele_reg (f : TeleX → TeleX) (q : Reg) (m : Nat) : (s.modTele f).reg q m = s.reg q m := rfl
@[simp] theorem State.modTele_fld (f : TeleX → TeleX) (q : Fld) (m : Nat) : (s.modTele f).fld q m = s.fld q m := rfl
@[simp] theorem State.modTele_flag (f : TeleX → TeleX) (q : Fld) (m : Nat) : (s.modTele f).flag q m = s.flag q m := rfl

@[simp] theorem State.modTime_regs (f : TimeX → TimeX) : (s.modTime f).regs = s.regs := rfl
@[simp] theorem State.modTime_wlog (f : TimeX → TimeX) : (s.modTime f).wlog = s.wlog := rfl
@[simp] theorem State.modTime_hot (f : TimeX → TimeX) : (s.modTime f).hot = s.hot := rfl
@[simp] theorem State.modTime_now (f : TimeX → TimeX) : (s.modTime f).now = s.now := rfl
@[simp] theorem State.modTime_skew (f : TimeX → TimeX) : (s.modTime f).skew = s.skew := rfl
@[simp] theorem State.modTime_quiet (f : TimeX → TimeX) : (s.modTime f).quiet = s.quiet := rfl
@[simp] theorem State.modTime_small (f : TimeX → TimeX) : (s.modTime f).small = s.small := rfl
@[simp] theorem State.modTime_frees (f : TimeX → TimeX) : (s.modTime f).frees = s.frees := rfl
@[simp] theorem State.modTime_pending (f : TimeX → TimeX) : (s.modTime f).pending = s.pending := rfl
@[simp] theorem State.modTime_active (f : TimeX → TimeX) : (s.modTime f).active = s.active := rfl
@[simp] theorem State.modTime_shadow (f : TimeX → TimeX) : (s.modTime f).shadow = s.shadow := rfl
@[simp] theorem State.modTime_rails (f : TimeX → TimeX) : (s.modTime f).rails = s.rails := rfl
@[simp] theorem State.modTime_phases (f : TimeX → TimeX) : (s.modTime f).phases = s.phases := rfl
@[simp] theorem State.modTime_wins (f : TimeX → TimeX) : (s.modTime f).wins = s.wins := rfl
@[simp] theorem State.modTime_strands (f : TimeX → TimeX) : (s.modTime f).strands = s.strands := rfl
@[simp] theorem State.modTime_braids (f : TimeX → TimeX) : (s.modTime f).braids = s.braids := rfl
@[simp] theorem State.modTime_tele (f : TimeX → TimeX) : (s.modTime f).tele = s.tele := rfl
@[simp] theorem State.modTime_log (f : TimeX → TimeX) : (s.modTime f).log = s.log := rfl
@[simp] theorem State.modTime_trace (f : TimeX → TimeX) : (s.modTime f).trace = s.trace := rfl
@[simp] theorem State.modTime_fault (f : TimeX → TimeX) : (s.modTime f).fault = s.fault := rfl
@[simp] theorem State.modTime_flash (f : TimeX → TimeX) : (s.modTime f).flash = s.flash := rfl
@[simp] theorem State.modTime_power (f : TimeX → TimeX) : (s.modTime f).power = s.power := rfl
@[simp] theorem State.modTime_links (f : TimeX → TimeX) : (s.modTime f).links = s.links := rfl
@[simp] theorem State.modTime_lan (f : TimeX → TimeX) : (s.modTime f).lan = s.lan := rfl
@[simp] theorem State.modTime_timers (f : TimeX → TimeX) : (s.modTime f).timers = s.timers := rfl
@[simp] theorem State.modTime_fans (f : TimeX → TimeX) : (s.modTime f).fans = s.fans := rfl
@[simp] theorem State.modTime_temps (f : TimeX → TimeX) : (s.modTime f).temps = s.temps := rfl
@[simp] theorem State.modTime_bus (f : TimeX → TimeX) : (s.modTime f).bus = s.bus := rfl
@[simp] theorem State.modTime_rig (f : TimeX → TimeX) : (s.modTime f).rig = s.rig := rfl
@[simp] theorem State.modTime_pins (f : TimeX → TimeX) : (s.modTime f).pins = s.pins := rfl
@[simp] theorem State.modTime_undo (f : TimeX → TimeX) : (s.modTime f).undo = s.undo := rfl
@[simp] theorem State.modTime_reg (f : TimeX → TimeX) (q : Reg) (m : Nat) : (s.modTime f).reg q m = s.reg q m := rfl
@[simp] theorem State.modTime_fld (f : TimeX → TimeX) (q : Fld) (m : Nat) : (s.modTime f).fld q m = s.fld q m := rfl
@[simp] theorem State.modTime_flag (f : TimeX → TimeX) (q : Fld) (m : Nat) : (s.modTime f).flag q m = s.flag q m := rfl

@[simp] theorem State.modFault_regs (f : FaultX → FaultX) : (s.modFault f).regs = s.regs := rfl
@[simp] theorem State.modFault_wlog (f : FaultX → FaultX) : (s.modFault f).wlog = s.wlog := rfl
@[simp] theorem State.modFault_hot (f : FaultX → FaultX) : (s.modFault f).hot = s.hot := rfl
@[simp] theorem State.modFault_now (f : FaultX → FaultX) : (s.modFault f).now = s.now := rfl
@[simp] theorem State.modFault_skew (f : FaultX → FaultX) : (s.modFault f).skew = s.skew := rfl
@[simp] theorem State.modFault_quiet (f : FaultX → FaultX) : (s.modFault f).quiet = s.quiet := rfl
@[simp] theorem State.modFault_small (f : FaultX → FaultX) : (s.modFault f).small = s.small := rfl
@[simp] theorem State.modFault_frees (f : FaultX → FaultX) : (s.modFault f).frees = s.frees := rfl
@[simp] theorem State.modFault_pending (f : FaultX → FaultX) : (s.modFault f).pending = s.pending := rfl
@[simp] theorem State.modFault_active (f : FaultX → FaultX) : (s.modFault f).active = s.active := rfl
@[simp] theorem State.modFault_shadow (f : FaultX → FaultX) : (s.modFault f).shadow = s.shadow := rfl
@[simp] theorem State.modFault_rails (f : FaultX → FaultX) : (s.modFault f).rails = s.rails := rfl
@[simp] theorem State.modFault_phases (f : FaultX → FaultX) : (s.modFault f).phases = s.phases := rfl
@[simp] theorem State.modFault_wins (f : FaultX → FaultX) : (s.modFault f).wins = s.wins := rfl
@[simp] theorem State.modFault_strands (f : FaultX → FaultX) : (s.modFault f).strands = s.strands := rfl
@[simp] theorem State.modFault_braids (f : FaultX → FaultX) : (s.modFault f).braids = s.braids := rfl
@[simp] theorem State.modFault_time (f : FaultX → FaultX) : (s.modFault f).time = s.time := rfl
@[simp] theorem State.modFault_tele (f : FaultX → FaultX) : (s.modFault f).tele = s.tele := rfl
@[simp] theorem State.modFault_log (f : FaultX → FaultX) : (s.modFault f).log = s.log := rfl
@[simp] theorem State.modFault_trace (f : FaultX → FaultX) : (s.modFault f).trace = s.trace := rfl
@[simp] theorem State.modFault_flash (f : FaultX → FaultX) : (s.modFault f).flash = s.flash := rfl
@[simp] theorem State.modFault_power (f : FaultX → FaultX) : (s.modFault f).power = s.power := rfl
@[simp] theorem State.modFault_links (f : FaultX → FaultX) : (s.modFault f).links = s.links := rfl
@[simp] theorem State.modFault_lan (f : FaultX → FaultX) : (s.modFault f).lan = s.lan := rfl
@[simp] theorem State.modFault_timers (f : FaultX → FaultX) : (s.modFault f).timers = s.timers := rfl
@[simp] theorem State.modFault_fans (f : FaultX → FaultX) : (s.modFault f).fans = s.fans := rfl
@[simp] theorem State.modFault_temps (f : FaultX → FaultX) : (s.modFault f).temps = s.temps := rfl
@[simp] theorem State.modFault_bus (f : FaultX → FaultX) : (s.modFault f).bus = s.bus := rfl
@[simp] theorem State.modFault_rig (f : FaultX → FaultX) : (s.modFault f).rig = s.rig := rfl
@[simp] theorem State.modFault_pins (f : FaultX → FaultX) : (s.modFault f).pins = s.pins := rfl
@[simp] theorem State.modFault_undo (f : FaultX → FaultX) : (s.modFault f).undo = s.undo := rfl
@[simp] theorem State.modFault_reg (f : FaultX → FaultX) (q : Reg) (m : Nat) : (s.modFault f).reg q m = s.reg q m := rfl
@[simp] theorem State.modFault_fld (f : FaultX → FaultX) (q : Fld) (m : Nat) : (s.modFault f).fld q m = s.fld q m := rfl
@[simp] theorem State.modFault_flag (f : FaultX → FaultX) (q : Fld) (m : Nat) : (s.modFault f).flag q m = s.flag q m := rfl

@[simp] theorem State.modFlash_regs (f : FlashX → FlashX) : (s.modFlash f).regs = s.regs := rfl
@[simp] theorem State.modFlash_wlog (f : FlashX → FlashX) : (s.modFlash f).wlog = s.wlog := rfl
@[simp] theorem State.modFlash_hot (f : FlashX → FlashX) : (s.modFlash f).hot = s.hot := rfl
@[simp] theorem State.modFlash_now (f : FlashX → FlashX) : (s.modFlash f).now = s.now := rfl
@[simp] theorem State.modFlash_skew (f : FlashX → FlashX) : (s.modFlash f).skew = s.skew := rfl
@[simp] theorem State.modFlash_quiet (f : FlashX → FlashX) : (s.modFlash f).quiet = s.quiet := rfl
@[simp] theorem State.modFlash_small (f : FlashX → FlashX) : (s.modFlash f).small = s.small := rfl
@[simp] theorem State.modFlash_frees (f : FlashX → FlashX) : (s.modFlash f).frees = s.frees := rfl
@[simp] theorem State.modFlash_pending (f : FlashX → FlashX) : (s.modFlash f).pending = s.pending := rfl
@[simp] theorem State.modFlash_active (f : FlashX → FlashX) : (s.modFlash f).active = s.active := rfl
@[simp] theorem State.modFlash_shadow (f : FlashX → FlashX) : (s.modFlash f).shadow = s.shadow := rfl
@[simp] theorem State.modFlash_rails (f : FlashX → FlashX) : (s.modFlash f).rails = s.rails := rfl
@[simp] theorem State.modFlash_phases (f : FlashX → FlashX) : (s.modFlash f).phases = s.phases := rfl
@[simp] theorem State.modFlash_wins (f : FlashX → FlashX) : (s.modFlash f).wins = s.wins := rfl
@[simp] theorem State.modFlash_strands (f : FlashX → FlashX) : (s.modFlash f).strands = s.strands := rfl
@[simp] theorem State.modFlash_braids (f : FlashX → FlashX) : (s.modFlash f).braids = s.braids := rfl
@[simp] theorem State.modFlash_time (f : FlashX → FlashX) : (s.modFlash f).time = s.time := rfl
@[simp] theorem State.modFlash_tele (f : FlashX → FlashX) : (s.modFlash f).tele = s.tele := rfl
@[simp] theorem State.modFlash_log (f : FlashX → FlashX) : (s.modFlash f).log = s.log := rfl
@[simp] theorem State.modFlash_trace (f : FlashX → FlashX) : (s.modFlash f).trace = s.trace := rfl
@[simp] theorem State.modFlash_fault (f : FlashX → FlashX) : (s.modFlash f).fault = s.fault := rfl
@[simp] theorem State.modFlash_power (f : FlashX → FlashX) : (s.modFlash f).power = s.power := rfl
@[simp] theorem State.modFlash_links (f : FlashX → FlashX) : (s.modFlash f).links = s.links := rfl
@[simp] theorem State.modFlash_lan (f : FlashX → FlashX) : (s.modFlash f).lan = s.lan := rfl
@[simp] theorem State.modFlash_timers (f : FlashX → FlashX) : (s.modFlash f).timers = s.timers := rfl
@[simp] theorem State.modFlash_fans (f : FlashX → FlashX) : (s.modFlash f).fans = s.fans := rfl
@[simp] theorem State.modFlash_temps (f : FlashX → FlashX) : (s.modFlash f).temps = s.temps := rfl
@[simp] theorem State.modFlash_bus (f : FlashX → FlashX) : (s.modFlash f).bus = s.bus := rfl
@[simp] theorem State.modFlash_rig (f : FlashX → FlashX) : (s.modFlash f).rig = s.rig := rfl
@[simp] theorem State.modFlash_pins (f : FlashX → FlashX) : (s.modFlash f).pins = s.pins := rfl
@[simp] theorem State.modFlash_undo (f : FlashX → FlashX) : (s.modFlash f).undo = s.undo := rfl
@[simp] theorem State.modFlash_reg (f : FlashX → FlashX) (q : Reg) (m : Nat) : (s.modFlash f).reg q m = s.reg q m := rfl
@[simp] theorem State.modFlash_fld (f : FlashX → FlashX) (q : Fld) (m : Nat) : (s.modFlash f).fld q m = s.fld q m := rfl
@[simp] theorem State.modFlash_flag (f : FlashX → FlashX) (q : Fld) (m : Nat) : (s.modFlash f).flag q m = s.flag q m := rfl

@[simp] theorem State.modPower_regs (f : PowerX → PowerX) : (s.modPower f).regs = s.regs := rfl
@[simp] theorem State.modPower_wlog (f : PowerX → PowerX) : (s.modPower f).wlog = s.wlog := rfl
@[simp] theorem State.modPower_hot (f : PowerX → PowerX) : (s.modPower f).hot = s.hot := rfl
@[simp] theorem State.modPower_now (f : PowerX → PowerX) : (s.modPower f).now = s.now := rfl
@[simp] theorem State.modPower_skew (f : PowerX → PowerX) : (s.modPower f).skew = s.skew := rfl
@[simp] theorem State.modPower_quiet (f : PowerX → PowerX) : (s.modPower f).quiet = s.quiet := rfl
@[simp] theorem State.modPower_small (f : PowerX → PowerX) : (s.modPower f).small = s.small := rfl
@[simp] theorem State.modPower_frees (f : PowerX → PowerX) : (s.modPower f).frees = s.frees := rfl
@[simp] theorem State.modPower_pending (f : PowerX → PowerX) : (s.modPower f).pending = s.pending := rfl
@[simp] theorem State.modPower_active (f : PowerX → PowerX) : (s.modPower f).active = s.active := rfl
@[simp] theorem State.modPower_shadow (f : PowerX → PowerX) : (s.modPower f).shadow = s.shadow := rfl
@[simp] theorem State.modPower_rails (f : PowerX → PowerX) : (s.modPower f).rails = s.rails := rfl
@[simp] theorem State.modPower_phases (f : PowerX → PowerX) : (s.modPower f).phases = s.phases := rfl
@[simp] theorem State.modPower_wins (f : PowerX → PowerX) : (s.modPower f).wins = s.wins := rfl
@[simp] theorem State.modPower_strands (f : PowerX → PowerX) : (s.modPower f).strands = s.strands := rfl
@[simp] theorem State.modPower_braids (f : PowerX → PowerX) : (s.modPower f).braids = s.braids := rfl
@[simp] theorem State.modPower_time (f : PowerX → PowerX) : (s.modPower f).time = s.time := rfl
@[simp] theorem State.modPower_tele (f : PowerX → PowerX) : (s.modPower f).tele = s.tele := rfl
@[simp] theorem State.modPower_log (f : PowerX → PowerX) : (s.modPower f).log = s.log := rfl
@[simp] theorem State.modPower_trace (f : PowerX → PowerX) : (s.modPower f).trace = s.trace := rfl
@[simp] theorem State.modPower_fault (f : PowerX → PowerX) : (s.modPower f).fault = s.fault := rfl
@[simp] theorem State.modPower_flash (f : PowerX → PowerX) : (s.modPower f).flash = s.flash := rfl
@[simp] theorem State.modPower_links (f : PowerX → PowerX) : (s.modPower f).links = s.links := rfl
@[simp] theorem State.modPower_lan (f : PowerX → PowerX) : (s.modPower f).lan = s.lan := rfl
@[simp] theorem State.modPower_timers (f : PowerX → PowerX) : (s.modPower f).timers = s.timers := rfl
@[simp] theorem State.modPower_fans (f : PowerX → PowerX) : (s.modPower f).fans = s.fans := rfl
@[simp] theorem State.modPower_temps (f : PowerX → PowerX) : (s.modPower f).temps = s.temps := rfl
@[simp] theorem State.modPower_bus (f : PowerX → PowerX) : (s.modPower f).bus = s.bus := rfl
@[simp] theorem State.modPower_rig (f : PowerX → PowerX) : (s.modPower f).rig = s.rig := rfl
@[simp] theorem State.modPower_pins (f : PowerX → PowerX) : (s.modPower f).pins = s.pins := rfl
@[simp] theorem State.modPower_undo (f : PowerX → PowerX) : (s.modPower f).undo = s.undo := rfl
@[simp] theorem State.modPower_reg (f : PowerX → PowerX) (q : Reg) (m : Nat) : (s.modPower f).reg q m = s.reg q m := rfl
@[simp] theorem State.modPower_fld (f : PowerX → PowerX) (q : Fld) (m : Nat) : (s.modPower f).fld q m = s.fld q m := rfl
@[simp] theorem State.modPower_flag (f : PowerX → PowerX) (q : Fld) (m : Nat) : (s.modPower f).flag q m = s.flag q m := rfl

@[simp] theorem State.modBus_regs (f : BusX → BusX) : (s.modBus f).regs = s.regs := rfl
@[simp] theorem State.modBus_wlog (f : BusX → BusX) : (s.modBus f).wlog = s.wlog := rfl
@[simp] theorem State.modBus_hot (f : BusX → BusX) : (s.modBus f).hot = s.hot := rfl
@[simp] theorem State.modBus_now (f : BusX → BusX) : (s.modBus f).now = s.now := rfl
@[simp] theorem State.modBus_skew (f : BusX → BusX) : (s.modBus f).skew = s.skew := rfl
@[simp] theorem State.modBus_quiet (f : BusX → BusX) : (s.modBus f).quiet = s.quiet := rfl
@[simp] theorem State.modBus_small (f : BusX → BusX) : (s.modBus f).small = s.small := rfl
@[simp] theorem State.modBus_frees (f : BusX → BusX) : (s.modBus f).frees = s.frees := rfl
@[simp] theorem State.modBus_pending (f : BusX → BusX) : (s.modBus f).pending = s.pending := rfl
@[simp] theorem State.modBus_active (f : BusX → BusX) : (s.modBus f).active = s.active := rfl
@[simp] theorem State.modBus_shadow (f : BusX → BusX) : (s.modBus f).shadow = s.shadow := rfl
@[simp] theorem State.modBus_rails (f : BusX → BusX) : (s.modBus f).rails = s.rails := rfl
@[simp] theorem State.modBus_phases (f : BusX → BusX) : (s.modBus f).phases = s.phases := rfl
@[simp] theorem State.modBus_wins (f : BusX → BusX) : (s.modBus f).wins = s.wins := rfl
@[simp] theorem State.modBus_strands (f : BusX → BusX) : (s.modBus f).strands = s.strands := rfl
@[simp] theorem State.modBus_braids (f : BusX → BusX) : (s.modBus f).braids = s.braids := rfl
@[simp] theorem State.modBus_time (f : BusX → BusX) : (s.modBus f).time = s.time := rfl
@[simp] theorem State.modBus_tele (f : BusX → BusX) : (s.modBus f).tele = s.tele := rfl
@[simp] theorem State.modBus_log (f : BusX → BusX) : (s.modBus f).log = s.log := rfl
@[simp] theorem State.modBus_trace (f : BusX → BusX) : (s.modBus f).trace = s.trace := rfl
@[simp] theorem State.modBus_fault (f : BusX → BusX) : (s.modBus f).fault = s.fault := rfl
@[simp] theorem State.modBus_flash (f : BusX → BusX) : (s.modBus f).flash = s.flash := rfl
@[simp] theorem State.modBus_power (f : BusX → BusX) : (s.modBus f).power = s.power := rfl
@[simp] theorem State.modBus_links (f : BusX → BusX) : (s.modBus f).links = s.links := rfl
@[simp] theorem State.modBus_lan (f : BusX → BusX) : (s.modBus f).lan = s.lan := rfl
@[simp] theorem State.modBus_timers (f : BusX → BusX) : (s.modBus f).timers = s.timers := rfl
@[simp] theorem State.modBus_fans (f : BusX → BusX) : (s.modBus f).fans = s.fans := rfl
@[simp] theorem State.modBus_temps (f : BusX → BusX) : (s.modBus f).temps = s.temps := rfl
@[simp] theorem State.modBus_rig (f : BusX → BusX) : (s.modBus f).rig = s.rig := rfl
@[simp] theorem State.modBus_pins (f : BusX → BusX) : (s.modBus f).pins = s.pins := rfl
@[simp] theorem State.modBus_undo (f : BusX → BusX) : (s.modBus f).undo = s.undo := rfl
@[simp] theorem State.modBus_reg (f : BusX → BusX) (q : Reg) (m : Nat) : (s.modBus f).reg q m = s.reg q m := rfl
@[simp] theorem State.modBus_fld (f : BusX → BusX) (q : Fld) (m : Nat) : (s.modBus f).fld q m = s.fld q m := rfl
@[simp] theorem State.modBus_flag (f : BusX → BusX) (q : Fld) (m : Nat) : (s.modBus f).flag q m = s.flag q m := rfl

@[simp] theorem State.modRig_regs (f : RigX → RigX) : (s.modRig f).regs = s.regs := rfl
@[simp] theorem State.modRig_wlog (f : RigX → RigX) : (s.modRig f).wlog = s.wlog := rfl
@[simp] theorem State.modRig_hot (f : RigX → RigX) : (s.modRig f).hot = s.hot := rfl
@[simp] theorem State.modRig_now (f : RigX → RigX) : (s.modRig f).now = s.now := rfl
@[simp] theorem State.modRig_skew (f : RigX → RigX) : (s.modRig f).skew = s.skew := rfl
@[simp] theorem State.modRig_quiet (f : RigX → RigX) : (s.modRig f).quiet = s.quiet := rfl
@[simp] theorem State.modRig_small (f : RigX → RigX) : (s.modRig f).small = s.small := rfl
@[simp] theorem State.modRig_frees (f : RigX → RigX) : (s.modRig f).frees = s.frees := rfl
@[simp] theorem State.modRig_pending (f : RigX → RigX) : (s.modRig f).pending = s.pending := rfl
@[simp] theorem State.modRig_active (f : RigX → RigX) : (s.modRig f).active = s.active := rfl
@[simp] theorem State.modRig_shadow (f : RigX → RigX) : (s.modRig f).shadow = s.shadow := rfl
@[simp] theorem State.modRig_rails (f : RigX → RigX) : (s.modRig f).rails = s.rails := rfl
@[simp] theorem State.modRig_phases (f : RigX → RigX) : (s.modRig f).phases = s.phases := rfl
@[simp] theorem State.modRig_wins (f : RigX → RigX) : (s.modRig f).wins = s.wins := rfl
@[simp] theorem State.modRig_strands (f : RigX → RigX) : (s.modRig f).strands = s.strands := rfl
@[simp] theorem State.modRig_braids (f : RigX → RigX) : (s.modRig f).braids = s.braids := rfl
@[simp] theorem State.modRig_time (f : RigX → RigX) : (s.modRig f).time = s.time := rfl
@[simp] theorem State.modRig_tele (f : RigX → RigX) : (s.modRig f).tele = s.tele := rfl
@[simp] theorem State.modRig_log (f : RigX → RigX) : (s.modRig f).log = s.log := rfl
@[simp] theorem State.modRig_trace (f : RigX → RigX) : (s.modRig f).trace = s.trace := rfl
@[simp] theorem State.modRig_fault (f : RigX → RigX) : (s.modRig f).fault = s.fault := rfl
@[simp] theorem State.modRig_flash (f : RigX → RigX) : (s.modRig f).flash = s.flash := rfl
@[simp] theorem State.modRig_power (f : RigX → RigX) : (s.modRig f).power = s.power := rfl
@[simp] theorem State.modRig_links (f : RigX → RigX) : (s.modRig f).links = s.links := rfl
@[simp] theorem State.modRig_lan (f : RigX → RigX) : (s.modRig f).lan = s.lan := rfl
@[simp] theorem State.modRig_timers (f : RigX → RigX) : (s.modRig f).timers = s.timers := rfl
@[simp] theorem State.modRig_fans (f : RigX → RigX) : (s.modRig f).fans = s.fans := rfl
@[simp] theorem State.modRig_temps (f : RigX → RigX) : (s.modRig f).temps = s.temps := rfl
@[simp] theorem State.modRig_bus (f : RigX → RigX) : (s.modRig f).bus = s.bus := rfl
@[simp] theorem State.modRig_pins (f : RigX → RigX) : (s.modRig f).pins = s.pins := rfl
@[simp] theorem State.modRig_undo (f : RigX → RigX) : (s.modRig f).undo = s.undo := rfl
@[simp] theorem State.modRig_reg (f : RigX → RigX) (q : Reg) (m : Nat) : (s.modRig f).reg q m = s.reg q m := rfl
@[simp] theorem State.modRig_fld (f : RigX → RigX) (q : Fld) (m : Nat) : (s.modRig f).fld q m = s.fld q m := rfl
@[simp] theorem State.modRig_flag (f : RigX → RigX) (q : Fld) (m : Nat) : (s.modRig f).flag q m = s.flag q m := rfl

@[simp] theorem State.modPins_regs (f : PinX → PinX) : (s.modPins f).regs = s.regs := rfl
@[simp] theorem State.modPins_wlog (f : PinX → PinX) : (s.modPins f).wlog = s.wlog := rfl
@[simp] theorem State.modPins_hot (f : PinX → PinX) : (s.modPins f).hot = s.hot := rfl
@[simp] theorem State.modPins_now (f : PinX → PinX) : (s.modPins f).now = s.now := rfl
@[simp] theorem State.modPins_skew (f : PinX → PinX) : (s.modPins f).skew = s.skew := rfl
@[simp] theorem State.modPins_quiet (f : PinX → PinX) : (s.modPins f).quiet = s.quiet := rfl
@[simp] theorem State.modPins_small (f : PinX → PinX) : (s.modPins f).small = s.small := rfl
@[simp] theorem State.modPins_frees (f : PinX → PinX) : (s.modPins f).frees = s.frees := rfl
@[simp] theorem State.modPins_pending (f : PinX → PinX) : (s.modPins f).pending = s.pending := rfl
@[simp] theorem State.modPins_active (f : PinX → PinX) : (s.modPins f).active = s.active := rfl
@[simp] theorem State.modPins_shadow (f : PinX → PinX) : (s.modPins f).shadow = s.shadow := rfl
@[simp] theorem State.modPins_rails (f : PinX → PinX) : (s.modPins f).rails = s.rails := rfl
@[simp] theorem State.modPins_phases (f : PinX → PinX) : (s.modPins f).phases = s.phases := rfl
@[simp] theorem State.modPins_wins (f : PinX → PinX) : (s.modPins f).wins = s.wins := rfl
@[simp] theorem State.modPins_strands (f : PinX → PinX) : (s.modPins f).strands = s.strands := rfl
@[simp] theorem State.modPins_braids (f : PinX → PinX) : (s.modPins f).braids = s.braids := rfl
@[simp] theorem State.modPins_time (f : PinX → PinX) : (s.modPins f).time = s.time := rfl
@[simp] theorem State.modPins_tele (f : PinX → PinX) : (s.modPins f).tele = s.tele := rfl
@[simp] theorem State.modPins_log (f : PinX → PinX) : (s.modPins f).log = s.log := rfl
@[simp] theorem State.modPins_trace (f : PinX → PinX) : (s.modPins f).trace = s.trace := rfl
@[simp] theorem State.modPins_fault (f : PinX → PinX) : (s.modPins f).fault = s.fault := rfl
@[simp] theorem State.modPins_flash (f : PinX → PinX) : (s.modPins f).flash = s.flash := rfl
@[simp] theorem State.modPins_power (f : PinX → PinX) : (s.modPins f).power = s.power := rfl
@[simp] theorem State.modPins_links (f : PinX → PinX) : (s.modPins f).links = s.links := rfl
@[simp] theorem State.modPins_lan (f : PinX → PinX) : (s.modPins f).lan = s.lan := rfl
@[simp] theorem State.modPins_timers (f : PinX → PinX) : (s.modPins f).timers = s.timers := rfl
@[simp] theorem State.modPins_fans (f : PinX → PinX) : (s.modPins f).fans = s.fans := rfl
@[simp] theorem State.modPins_temps (f : PinX → PinX) : (s.modPins f).temps = s.temps := rfl
@[simp] theorem State.modPins_bus (f : PinX → PinX) : (s.modPins f).bus = s.bus := rfl
@[simp] theorem State.modPins_rig (f : PinX → PinX) : (s.modPins f).rig = s.rig := rfl
@[simp] theorem State.modPins_undo (f : PinX → PinX) : (s.modPins f).undo = s.undo := rfl
@[simp] theorem State.modPins_reg (f : PinX → PinX) (q : Reg) (m : Nat) : (s.modPins f).reg q m = s.reg q m := rfl
@[simp] theorem State.modPins_fld (f : PinX → PinX) (q : Fld) (m : Nat) : (s.modPins f).fld q m = s.fld q m := rfl
@[simp] theorem State.modPins_flag (f : PinX → PinX) (q : Fld) (m : Nat) : (s.modPins f).flag q m = s.flag q m := rfl

@[simp] theorem State.modLog_regs (f : LogX → LogX) : (s.modLog f).regs = s.regs := rfl
@[simp] theorem State.modLog_wlog (f : LogX → LogX) : (s.modLog f).wlog = s.wlog := rfl
@[simp] theorem State.modLog_hot (f : LogX → LogX) : (s.modLog f).hot = s.hot := rfl
@[simp] theorem State.modLog_now (f : LogX → LogX) : (s.modLog f).now = s.now := rfl
@[simp] theorem State.modLog_skew (f : LogX → LogX) : (s.modLog f).skew = s.skew := rfl
@[simp] theorem State.modLog_quiet (f : LogX → LogX) : (s.modLog f).quiet = s.quiet := rfl
@[simp] theorem State.modLog_small (f : LogX → LogX) : (s.modLog f).small = s.small := rfl
@[simp] theorem State.modLog_frees (f : LogX → LogX) : (s.modLog f).frees = s.frees := rfl
@[simp] theorem State.modLog_pending (f : LogX → LogX) : (s.modLog f).pending = s.pending := rfl
@[simp] theorem State.modLog_active (f : LogX → LogX) : (s.modLog f).active = s.active := rfl
@[simp] theorem State.modLog_shadow (f : LogX → LogX) : (s.modLog f).shadow = s.shadow := rfl
@[simp] theorem State.modLog_rails (f : LogX → LogX) : (s.modLog f).rails = s.rails := rfl
@[simp] theorem State.modLog_phases (f : LogX → LogX) : (s.modLog f).phases = s.phases := rfl
@[simp] theorem State.modLog_wins (f : LogX → LogX) : (s.modLog f).wins = s.wins := rfl
@[simp] theorem State.modLog_strands (f : LogX → LogX) : (s.modLog f).strands = s.strands := rfl
@[simp] theorem State.modLog_braids (f : LogX → LogX) : (s.modLog f).braids = s.braids := rfl
@[simp] theorem State.modLog_time (f : LogX → LogX) : (s.modLog f).time = s.time := rfl
@[simp] theorem State.modLog_tele (f : LogX → LogX) : (s.modLog f).tele = s.tele := rfl
@[simp] theorem State.modLog_trace (f : LogX → LogX) : (s.modLog f).trace = s.trace := rfl
@[simp] theorem State.modLog_fault (f : LogX → LogX) : (s.modLog f).fault = s.fault := rfl
@[simp] theorem State.modLog_flash (f : LogX → LogX) : (s.modLog f).flash = s.flash := rfl
@[simp] theorem State.modLog_power (f : LogX → LogX) : (s.modLog f).power = s.power := rfl
@[simp] theorem State.modLog_links (f : LogX → LogX) : (s.modLog f).links = s.links := rfl
@[simp] theorem State.modLog_lan (f : LogX → LogX) : (s.modLog f).lan = s.lan := rfl
@[simp] theorem State.modLog_timers (f : LogX → LogX) : (s.modLog f).timers = s.timers := rfl
@[simp] theorem State.modLog_fans (f : LogX → LogX) : (s.modLog f).fans = s.fans := rfl
@[simp] theorem State.modLog_temps (f : LogX → LogX) : (s.modLog f).temps = s.temps := rfl
@[simp] theorem State.modLog_bus (f : LogX → LogX) : (s.modLog f).bus = s.bus := rfl
@[simp] theorem State.modLog_rig (f : LogX → LogX) : (s.modLog f).rig = s.rig := rfl
@[simp] theorem State.modLog_pins (f : LogX → LogX) : (s.modLog f).pins = s.pins := rfl
@[simp] theorem State.modLog_undo (f : LogX → LogX) : (s.modLog f).undo = s.undo := rfl
@[simp] theorem State.modLog_reg (f : LogX → LogX) (q : Reg) (m : Nat) : (s.modLog f).reg q m = s.reg q m := rfl
@[simp] theorem State.modLog_fld (f : LogX → LogX) (q : Fld) (m : Nat) : (s.modLog f).fld q m = s.fld q m := rfl
@[simp] theorem State.modLog_flag (f : LogX → LogX) (q : Fld) (m : Nat) : (s.modLog f).flag q m = s.flag q m := rfl

@[simp] theorem State.modLan_regs (f : LanX → LanX) : (s.modLan f).regs = s.regs := rfl
@[simp] theorem State.modLan_wlog (f : LanX → LanX) : (s.modLan f).wlog = s.wlog := rfl
@[simp] theorem State.modLan_hot (f : LanX → LanX) : (s.modLan f).hot = s.hot := rfl
@[simp] theorem State.modLan_now (f : LanX → LanX) : (s.modLan f).now = s.now := rfl
@[simp] theorem State.modLan_skew (f : LanX → LanX) : (s.modLan f).skew = s.skew := rfl
@[simp] theorem State.modLan_quiet (f : LanX → LanX) : (s.modLan f).quiet = s.quiet := rfl
@[simp] theorem State.modLan_small (f : LanX → LanX) : (s.modLan f).small = s.small := rfl
@[simp] theorem State.modLan_frees (f : LanX → LanX) : (s.modLan f).frees = s.frees := rfl
@[simp] theorem State.modLan_pending (f : LanX → LanX) : (s.modLan f).pending = s.pending := rfl
@[simp] theorem State.modLan_active (f : LanX → LanX) : (s.modLan f).active = s.active := rfl
@[simp] theorem State.modLan_shadow (f : LanX → LanX) : (s.modLan f).shadow = s.shadow := rfl
@[simp] theorem State.modLan_rails (f : LanX → LanX) : (s.modLan f).rails = s.rails := rfl
@[simp] theorem State.modLan_phases (f : LanX → LanX) : (s.modLan f).phases = s.phases := rfl
@[simp] theorem State.modLan_wins (f : LanX → LanX) : (s.modLan f).wins = s.wins := rfl
@[simp] theorem State.modLan_strands (f : LanX → LanX) : (s.modLan f).strands = s.strands := rfl
@[simp] theorem State.modLan_braids (f : LanX → LanX) : (s.modLan f).braids = s.braids := rfl
@[simp] theorem State.modLan_time (f : LanX → LanX) : (s.modLan f).time = s.time := rfl
@[simp] theorem State.modLan_tele (f : LanX → LanX) : (s.modLan f).tele = s.tele := rfl
@[simp] theorem State.modLan_log (f : LanX → LanX) : (s.modLan f).log = s.log := rfl
@[simp] theorem State.modLan_trace (f : LanX → LanX) : (s.modLan f).trace = s.trace := rfl
@[simp] theorem State.modLan_fault (f : LanX → LanX) : (s.modLan f).fault = s.fault := rfl
@[simp] theorem State.modLan_flash (f : LanX → LanX) : (s.modLan f).flash = s.flash := rfl
@[simp] theorem State.modLan_power (f : LanX → LanX) : (s.modLan f).power = s.power := rfl
@[simp] theorem State.modLan_links (f : LanX → LanX) : (s.modLan f).links = s.links := rfl
@[simp] theorem State.modLan_timers (f : LanX → LanX) : (s.modLan f).timers = s.timers := rfl
@[simp] theorem State.modLan_fans (f : LanX → LanX) : (s.modLan f).fans = s.fans := rfl
@[simp] theorem State.modLan_temps (f : LanX → LanX) : (s.modLan f).temps = s.temps := rfl
@[simp] theorem State.modLan_bus (f : LanX → LanX) : (s.modLan f).bus = s.bus := rfl
@[simp] theorem State.modLan_rig (f : LanX → LanX) : (s.modLan f).rig = s.rig := rfl
@[simp] theorem State.modLan_pins (f : LanX → LanX) : (s.modLan f).pins = s.pins := rfl
@[simp] theorem State.modLan_undo (f : LanX → LanX) : (s.modLan f).undo = s.undo := rfl
@[simp] theorem State.modLan_reg (f : LanX → LanX) (q : Reg) (m : Nat) : (s.modLan f).reg q m = s.reg q m := rfl
@[simp] theorem State.modLan_fld (f : LanX → LanX) (q : Fld) (m : Nat) : (s.modLan f).fld q m = s.fld q m := rfl
@[simp] theorem State.modLan_flag (f : LanX → LanX) (q : Fld) (m : Nat) : (s.modLan f).flag q m = s.flag q m := rfl

@[simp] theorem State.modRail_rail_same (n : Fin 12) (f : RailX → RailX) : (s.modRail n f).rail n = f (s.rail n) := by
  simp [State.modRail, State.rail]
theorem State.modRail_rail_ne (n m : Fin 12) (f : RailX → RailX) (h : m ≠ n) : (s.modRail n f).rail m = s.rail m := by
  have : (n : Nat) ≠ m := fun e => h (Fin.ext e.symm)
  simp [State.modRail, State.rail, this]
@[simp] theorem State.modPhase_phase_same (n : Fin 48) (f : PhaseX → PhaseX) : (s.modPhase n f).phase n = f (s.phase n) := by
  simp [State.modPhase, State.phase]
theorem State.modPhase_phase_ne (n m : Fin 48) (f : PhaseX → PhaseX) (h : m ≠ n) : (s.modPhase n f).phase m = s.phase m := by
  have : (n : Nat) ≠ m := fun e => h (Fin.ext e.symm)
  simp [State.modPhase, State.phase, this]
@[simp] theorem State.modWin_win_same (n : Fin 72) (f : WinX → WinX) : (s.modWin n f).win n = f (s.win n) := by
  simp [State.modWin, State.win]
theorem State.modWin_win_ne (n m : Fin 72) (f : WinX → WinX) (h : m ≠ n) : (s.modWin n f).win m = s.win m := by
  have : (n : Nat) ≠ m := fun e => h (Fin.ext e.symm)
  simp [State.modWin, State.win, this]
@[simp] theorem State.modStrand_strand_same (n : Fin 32) (f : StrandX → StrandX) : (s.modStrand n f).strand n = f (s.strand n) := by
  simp [State.modStrand, State.strand]
theorem State.modStrand_strand_ne (n m : Fin 32) (f : StrandX → StrandX) (h : m ≠ n) : (s.modStrand n f).strand m = s.strand m := by
  have : (n : Nat) ≠ m := fun e => h (Fin.ext e.symm)
  simp [State.modStrand, State.strand, this]
@[simp] theorem State.modLink_link_same (n : Fin 12) (f : LinkX → LinkX) : (s.modLink n f).link n = f (s.link n) := by
  simp [State.modLink, State.link]
theorem State.modLink_link_ne (n m : Fin 12) (f : LinkX → LinkX) (h : m ≠ n) : (s.modLink n f).link m = s.link m := by
  have : (n : Nat) ≠ m := fun e => h (Fin.ext e.symm)
  simp [State.modLink, State.link, this]
@[simp] theorem State.modTimer_timer_same (n : Fin 12) (f : TimerX → TimerX) : (s.modTimer n f).timer n = f (s.timer n) := by
  simp [State.modTimer, State.timer]
theorem State.modTimer_timer_ne (n m : Fin 12) (f : TimerX → TimerX) (h : m ≠ n) : (s.modTimer n f).timer m = s.timer m := by
  have : (n : Nat) ≠ m := fun e => h (Fin.ext e.symm)
  simp [State.modTimer, State.timer, this]
@[simp] theorem State.modFan_fan_same (n : Fin 4) (f : FanX → FanX) : (s.modFan n f).fan n = f (s.fan n) := by
  simp [State.modFan, State.fan]
theorem State.modFan_fan_ne (n m : Fin 4) (f : FanX → FanX) (h : m ≠ n) : (s.modFan n f).fan m = s.fan m := by
  have : (n : Nat) ≠ m := fun e => h (Fin.ext e.symm)
  simp [State.modFan, State.fan, this]
@[simp] theorem State.modTemp_temp_same (n : Fin 16) (f : TempX → TempX) : (s.modTemp n f).temp n = f (s.temp n) := by
  simp [State.modTemp, State.temp]
theorem State.modTemp_temp_ne (n m : Fin 16) (f : TempX → TempX) (h : m ≠ n) : (s.modTemp n f).temp m = s.temp m := by
  have : (n : Nat) ≠ m := fun e => h (Fin.ext e.symm)
  simp [State.modTemp, State.temp, this]
@[simp] theorem State.modGroup_group_same (n : Fin 12) (f : GroupX → GroupX) : (s.modGroup n f).group n = f (s.group n) := by
  simp [State.modGroup, State.group, State.modLan]
theorem State.modGroup_group_ne (n m : Fin 12) (f : GroupX → GroupX) (h : m ≠ n) : (s.modGroup n f).group m = s.group m := by
  have : (n : Nat) ≠ m := fun e => h (Fin.ext e.symm)
  simp [State.modGroup, State.group, State.modLan, this]

end Sys2Proof.Machine
end

