-- ==== Sys2Proof/Laws/Settle.lean ====
section
/-! SUPPORT. Laws/Settle.lean: what the end of a command does: it evaluates HB_STATUS.ACKD and touches nothing else. -/
namespace Sys2Proof.Machine

@[simp] theorem settle_wlog (s t : State) : (settle s t).wlog = t.wlog := rfl
@[simp] theorem settle_hot (s t : State) : (settle s t).hot = t.hot := by
  refine if_neg fun h => ?_
  rcases h with ⟨_, _, h⟩ | ⟨_, h⟩ <;> exact absurd h (by decide)
@[simp] theorem settle_now (s t : State) : (settle s t).now = t.now := rfl
@[simp] theorem settle_skew (s t : State) : (settle s t).skew = t.skew := rfl
@[simp] theorem settle_small (s t : State) : (settle s t).small = t.small := rfl
@[simp] theorem settle_frees (s t : State) : (settle s t).frees = t.frees := rfl
@[simp] theorem settle_pending (s t : State) : (settle s t).pending = t.pending := rfl
@[simp] theorem settle_active (s t : State) : (settle s t).active = t.active := rfl
@[simp] theorem settle_shadow (s t : State) : (settle s t).shadow = t.shadow := rfl
@[simp] theorem settle_rails (s t : State) : (settle s t).rails = t.rails := rfl
@[simp] theorem settle_phases (s t : State) : (settle s t).phases = t.phases := rfl
@[simp] theorem settle_wins (s t : State) : (settle s t).wins = t.wins := rfl
@[simp] theorem settle_strands (s t : State) : (settle s t).strands = t.strands := rfl
@[simp] theorem settle_braids (s t : State) : (settle s t).braids = t.braids := rfl
@[simp] theorem settle_time (s t : State) : (settle s t).time = t.time := rfl
@[simp] theorem settle_tele (s t : State) : (settle s t).tele = t.tele := rfl
@[simp] theorem settle_log (s t : State) : (settle s t).log = t.log := rfl
@[simp] theorem settle_trace (s t : State) : (settle s t).trace = t.trace := rfl
@[simp] theorem settle_fault (s t : State) : (settle s t).fault = t.fault := rfl
@[simp] theorem settle_flash (s t : State) : (settle s t).flash = t.flash := rfl
@[simp] theorem settle_power (s t : State) : (settle s t).power = t.power := rfl
@[simp] theorem settle_links (s t : State) : (settle s t).links = t.links := rfl
@[simp] theorem settle_lan (s t : State) : (settle s t).lan = t.lan := rfl
@[simp] theorem settle_timers (s t : State) : (settle s t).timers = t.timers := rfl
@[simp] theorem settle_fans (s t : State) : (settle s t).fans = t.fans := rfl
@[simp] theorem settle_temps (s t : State) : (settle s t).temps = t.temps := rfl
@[simp] theorem settle_bus (s t : State) : (settle s t).bus = t.bus := rfl
@[simp] theorem settle_rig (s t : State) : (settle s t).rig = t.rig := rfl
@[simp] theorem settle_pins (s t : State) : (settle s t).pins = t.pins := rfl

theorem settle_reg (s t : State) (r : Reg) (n : Nat) (h : r ≠ .HB_STATUS ∨ n ≠ 0) :
    (settle s t).reg r n = t.reg r n := State.reg_setFld_ne _ _ _ h

/-- Every field but ACKD is as the command left it. -/
theorem settle_fld (s t : State) (g : Fld) (n : Nat)
    (h : g.reg ≠ .HB_STATUS ∨ n ≠ 0 ∨ g.lo + g.width ≤ HB_STATUS.ACKD.lo ∨ HB_STATUS.ACKD.lo + 1 ≤ g.lo) :
    (settle s t).fld g n = t.fld g n := State.fld_setFld_ne _ _ _ _ _ _ (by decide) h

/-- ACKD stays only where an alert is pending and none is new (R325, R326). -/
theorem settle_ackd (s t : State) :
    (settle s t).flag HB_STATUS.ACKD 0 = (t.flag HB_STATUS.ACKD 0 && t.alertPending && !newAlert s t) := by
  have e : (settle s t).fld HB_STATUS.ACKD 0 =
      (t.setFld HB_STATUS.ACKD 0 (bit (t.flag HB_STATUS.ACKD 0 && t.alertPending && !newAlert s t))).fld HB_STATUS.ACKD 0 := rfl
  rw [State.flag, e, State.fld_setFld_same _ _ _ _ (by decide)]
  cases (t.flag HB_STATUS.ACKD 0 && t.alertPending && !newAlert s t) <;> rfl

theorem alertTable_not_ackd : ∀ e ∈ alertTable,
    e.2.1.reg ≠ .HB_STATUS ∨ e.2.1.lo + e.2.1.width ≤ HB_STATUS.ACKD.lo ∨ HB_STATUS.ACKD.lo + 1 ≤ e.2.1.lo := by
  decide

/-- The alert flags do not depend on ACKD. -/
theorem alertFlags_settle (s t : State) : (settle s t).alertFlags = t.alertFlags := by
  unfold State.alertFlags
  congr 1
  · apply List.flatMap_congr
    intro e he
    apply List.map_congr_left
    intro n _
    rw [settle_fld]
    rcases alertTable_not_ackd e he with h | h | h
    · exact .inl h
    · exact .inr (.inr (.inl h))
    · exact .inr (.inr (.inr h))
  · apply List.map_congr_left
    intro k _
    unfold State.timerAlerts
    have hc : ∀ m, (settle s t).fld TM_CHCFG.IE m = t.fld TM_CHCFG.IE m :=
      fun m => settle_fld _ _ _ m (.inl (by decide))
    simp only [State.flag, hc]
    rw [settle_fld _ _ TM_STAT.EVF k (.inl (by decide))]
    rfl

/-- So the pending alert does not depend on ACKD either. -/
theorem alertPending_settle (s t : State) : (settle s t).alertPending = t.alertPending := by
  unfold State.alertPending
  rw [alertFlags_settle, settle_fld _ _ ALR_MASK.MASK 0 (.inl (by decide))]

/-- Every register but HB_STATUS, and every other part of the state but `quiet`, as the command left it. -/
theorem settle_eq (s t : State) : ∃ r q, settle s t = { t with regs := r, quiet := q } ∧
    ∀ k : RKey, k ≠ ⟨.HB_STATUS, 0⟩ → r.get k = t.regs.get k := by
  refine ⟨(settle s t).regs, (settle s t).quiet, ?_, fun _ h => RegFile.get_put_ne _ _ h⟩
  rw [← settle_hot s t]
  rfl

theorem done_eq (s t : State) : done s t = .next (settle s t) := rfl

theorem clocked_running (s t : State) (h : s.power.mode = .running) : clocked s t = .next (settle s t) := by
  rw [clocked, if_pos h, done_eq]

end Sys2Proof.Machine
end

