-- ==== Sys2Proof/Laws/Events.lean ====
section
/-! SUPPORT. Laws/Events.lean: what the operations that many commands share can change: the record and its classification,
notices, contactors, trace triggers and freezes. -/
namespace Sys2Proof.Machine

/-- A fold keeps what each of its steps keeps. -/
theorem foldl_keeps {α β γ : Type} (g : α → γ) (f : α → β → α) (h : ∀ a b, g (f a b) = g a) :
    ∀ (l : List β) (a : α), g (l.foldl f a) = g a := by
  intro l
  induction l with
  | nil => exact fun a => rfl
  | cons b r ih => exact fun a => (ih _).trans (h a b)

/-- A fold keeps a property that each of its steps keeps. -/
theorem foldl_inv {α β : Type} (p : α → Prop) (f : α → β → α) (h : ∀ a b, p a → p (f a b)) :
    ∀ (l : List β) (a : α), p a → p (l.foldl f a) := by
  intro l
  induction l with
  | nil => exact fun a ha => ha
  | cons b r ih => exact fun a ha => ih _ (h a b ha)

/-- A field set touches the registers, and what is noted as set at this tick (R13), alone. -/
theorem State.setFld_rest (s : State) (f : Fld) (n v : Nat) : ∃ r h, s.setFld f n v = { s with regs := r, hot := h } := ⟨_, _, rfl⟩

/-- Two states that differ in registers and in what is noted as set at this tick alone, and in registers only under the names of `rs`. -/
def SameBut (rs : List Reg) (s u : State) : Prop :=
  u = { s with regs := u.regs, hot := u.hot } ∧ ∀ q m, q ∉ rs → u.reg q m = s.reg q m

theorem SameBut.refl (rs : List Reg) (s : State) : SameBut rs s s := ⟨rfl, fun _ _ _ => rfl⟩

theorem SameBut.trans {rs : List Reg} {s t u : State} (h : SameBut rs s t) (k : SameBut rs t u) : SameBut rs s u := by
  refine ⟨?_, fun q m hq => (k.2 q m hq).trans (h.2 q m hq)⟩
  rw [k.1, h.1]

theorem SameBut.mono {rs ps : List Reg} {s u : State} (h : SameBut rs s u) (k : ∀ r ∈ rs, r ∈ ps) : SameBut ps s u :=
  ⟨h.1, fun q m hq => h.2 q m fun hr => hq (k q hr)⟩

theorem SameBut.setFld (s : State) (f : Fld) (n v : Nat) : SameBut [f.reg] s (s.setFld f n v) :=
  ⟨rfl, fun q m hq => State.reg_setFld_ne s f v (.inl (by simpa using hq))⟩

theorem SameBut.setFld_mem {rs : List Reg} (s : State) (f : Fld) (n v : Nat) (h : f.reg ∈ rs) :
    SameBut rs s (s.setFld f n v) := (SameBut.setFld s f n v).mono (by simpa using h)

theorem SameBut.setFlds {rs : List Reg} (n : Nat) : ∀ (fs : List (Fld × Nat)) (s : State), (∀ e ∈ fs, e.1.reg ∈ rs) →
    SameBut rs s (s.setFlds n fs) := by
  intro fs
  induction fs with
  | nil => exact fun s _ => SameBut.refl rs s
  | cons e r ih =>
    intro s h
    have k := ih (s.setFld e.1 n e.2) fun d hd => h d (by simp [hd])
    unfold State.setFlds at k ⊢
    rw [List.foldl_cons]
    exact (SameBut.setFld_mem s e.1 n e.2 (h e (by simp))).trans k

theorem SameBut.fld {rs : List Reg} {s u : State} (h : SameBut rs s u) (f : Fld) (n : Nat) (hf : f.reg ∉ rs) :
    u.fld f n = s.fld f n := by
  simp only [State.fld, h.2 f.reg n hf]

/-- A record offered to the logbook touches, among the registers, LB_STATUS alone (R265). -/
theorem State.logRec_reg (s : State) (x : LogRec) (q : Reg) (m : Nat) (h : q ≠ .LB_STATUS) :
    (s.logRec x).reg q m = s.reg q m := by
  have k : ∀ (t : State) (f : Fld) (v : Nat), f.reg = .LB_STATUS → (t.setFld f 0 v).reg q m = t.reg q m :=
    fun t f v hf => State.reg_setFld_ne t f v (.inl (hf ▸ h))
  unfold State.logRec
  split
  · exact k _ _ _ rfl
  · split
    · exact (k _ _ _ rfl).trans (k _ _ _ rfl)
    · exact (k _ _ _ rfl).trans (State.modLog_reg ..)

/-- Beside registers it touches the logbook alone. -/
theorem State.logRec_rest (s : State) (x : LogRec) : ∃ r h l, s.logRec x = { s with regs := r, hot := h, log := l } := by
  unfold State.logRec State.raise State.bump
  split
  · obtain ⟨r, h, e⟩ := State.setFld_rest s LB_STATUS.SUPP 0 (satNat (2 ^ LB_STATUS.SUPP.width - 1) (s.fld LB_STATUS.SUPP 0 + 1))
    exact ⟨r, h, s.log, e⟩
  · split
    · obtain ⟨r, h, e⟩ := State.setFld_rest s LB_STATUS.LOST 0 (satNat (2 ^ LB_STATUS.LOST.width - 1) (s.fld LB_STATUS.LOST 0 + 1))
      rw [e]
      obtain ⟨r', h', e'⟩ := State.setFld_rest { s with regs := r, hot := h } LB_STATUS.LOSTF 0 1
      exact ⟨r', h', s.log, e'⟩
    · simp only
      obtain ⟨r, h, e⟩ := State.setFld_rest (s.modLog _) LB_STATUS.QLEN 0 (List.length _)
      exact ⟨r, h, _, e⟩

/-- A classified event touches, among the registers, FM_CNT, FM_STATUS and LB_STATUS alone (R254, R265). -/
theorem State.classify_reg (s : State) (src elem cls : Nat) (n : Option (Fin 12)) (d1 d2 : Nat) (q : Reg) (m : Nat)
    (h : q ∉ [Reg.FM_CNT, .FM_STATUS, .LB_STATUS]) : (s.classify src elem cls n d1 d2).reg q m = s.reg q m := by
  simp only [List.mem_cons, List.not_mem_nil, or_false, not_or] at h
  have k : ∀ (t : State) (f : Fld) (v : Nat), f.reg = .FM_CNT ∨ f.reg = .FM_STATUS →
      (t.setFld f 0 v).reg q m = t.reg q m :=
    fun t f v hf => State.reg_setFld_ne t f v (.inl (by rcases hf with e | e <;> rw [e] <;> tauto))
  unfold State.classify
  rw [State.logRec_reg _ _ _ _ h.2.2]
  split
  · exact (k _ _ _ (.inr rfl)).trans (k _ _ _ (.inl rfl))
  · split
    · exact (k _ _ _ (.inr rfl)).trans (k _ _ _ (.inl rfl))
    · rfl

/-- Beside registers it touches the logbook alone. -/
theorem State.classify_rest (s : State) (src elem cls : Nat) (n : Option (Fin 12)) (d1 d2 : Nat) :
    ∃ r h l, s.classify src elem cls n d1 d2 = { s with regs := r, hot := h, log := l } := by
  have h : ∀ (t : State), (∃ r h, t = { s with regs := r, hot := h }) →
      ∀ x, ∃ r h l, t.logRec x = { s with regs := r, hot := h, log := l } := by
    rintro t ⟨r, g, rfl⟩ x
    obtain ⟨r', h', l, e⟩ := State.logRec_rest { s with regs := r, hot := g } x
    exact ⟨r', h', l, e⟩
  unfold State.classify
  refine h _ ?_ _
  unfold State.raise State.bump
  split
  · obtain ⟨r, g, e⟩ := State.setFld_rest s FM_CNT.TRANSCNT 0 (satNat (2 ^ FM_CNT.TRANSCNT.width - 1) (s.fld FM_CNT.TRANSCNT 0 + 1))
    rw [e]
    exact State.setFld_rest { s with regs := r, hot := g } FM_STATUS.TRANS 0 1
  · split
    · obtain ⟨r, g, e⟩ := State.setFld_rest s FM_CNT.PERMCNT 0 (satNat (2 ^ FM_CNT.PERMCNT.width - 1) (s.fld FM_CNT.PERMCNT 0 + 1))
      rw [e]
      exact State.setFld_rest { s with regs := r, hot := g } FM_STATUS.PERM 0 1
    · exact ⟨s.regs, s.hot, rfl⟩

/-- A lifetime counter touches the flash alone (R391). -/
theorem State.countLife_same (s : State) (i k : Nat) : s.countLife i k = { s with flash := (s.countLife i k).flash } := rfl

/-- A lanyard message touches the lanyard alone. -/
theorem State.lanMsg_same (s : State) (t d : Nat) (p : List Byte) : s.lanMsg t d p = { s with lan := (s.lanMsg t d p).lan } := by
  unfold State.lanMsg
  split <;> rfl

/-- A notice for the pack touches the links alone (R294). -/
theorem State.notify_same (s : State) (n : Fin 12) (e c : Nat) : s.notify n e c = { s with links := (s.notify n e c).links } := by
  unfold State.notify
  split <;> rfl

/-- The contactor touches RL_STATUS, the rail and the pins (R212). -/
theorem State.setCont_reg (s : State) (n : Fin 12) (on : Bool) (q : Reg) (m : Nat) (h : q ≠ .RL_STATUS ∨ m ≠ n) :
    (s.setCont n on).reg q m = s.reg q m := by
  unfold State.setCont
  rw [State.reg_setFld_ne _ _ _ h]
  split <;> split <;> split <;> rfl

/-- A freeze touches, among the registers, the trace registers and LB_STATUS alone (R269). -/
theorem State.freezeRail_reg (s : State) (n : Fin 12) (src : Nat) (q : Reg) (m : Nat)
    (h : q ∉ [Reg.TR_FRZE_HI, .TR_FRZE_LO, .TR_STATUS, .LB_STATUS]) : (s.freezeRail n src).reg q m = s.reg q m := by
  unfold State.freezeRail
  simp only
  rw [State.logRec_reg _ _ _ _ (by simp at h; tauto)]
  show ((State.setFlds _ _ _).reg q m) = _
  rw [(SameBut.setFlds (rs := [.TR_STATUS]) _ _ _ (by simp; decide)).2 q m (by simp at h ⊢; tauto)]
  split
  · rw [State.modFault_reg, (SameBut.setFlds (rs := [.TR_FRZE_HI, .TR_FRZE_LO]) _ _ _ (by simp; decide)).2 q m
      (by simp at h ⊢; tauto)]
    rfl
  · rfl

end Sys2Proof.Machine
end

