-- ==== Sys2Proof/Laws/Due.lean ====
section
/-! SUPPORT. Laws/Due.lean: what is due by now changes nothing where nothing waits (R198, R364). -/
namespace Sys2Proof.Machine

/-- Nothing waits: no request of a responder, and no edge of a TIO pin on its way. -/
def State.nothingDue (s : State) : Bool :=
  ((List.finRange 12).all fun (n : Fin 12) => (s.rail n).man.reqs == []) && s.pins.tioQ == []

/-- A fold whose steps keep a state keeps it. -/
theorem foldl_idle {α β : Type} (f : α → β → α) (a : α) (h : ∀ b, f a b = a) : ∀ l : List β, l.foldl f a = a := by
  intro l
  induction l with
  | nil => rfl
  | cons b l ih => rw [List.foldl_cons, h, ih]

/-- A rail with no request has none due. -/
theorem State.respTo_idle (s : State) (n : Fin 12) (t : Nat) (h : (s.rail n).man.reqs = []) : s.respTo n t = s := by
  unfold State.respTo
  rw [h]
  rfl

/-- Where no request waits, none is served. -/
theorem State.respAll_idle (s : State) (h : ∀ n : Fin 12, (s.rail n).man.reqs = []) : s.respAll = s :=
  foldl_idle _ s (fun n => s.respTo_idle n s.now (h n)) _

/-- Where no edge is on its way, none is seen. -/
theorem State.seenAll_idle (s : State) (h : s.pins.tioQ = []) : s.seenAll = s := by
  unfold State.seenAll State.seenTo State.modPins
  simp only [h, List.filter_nil, List.foldl_nil]
  conv => rhs; rw [← (show ({ s with pins := { s.pins with tioQ := s.pins.tioQ } } : State) = s from rfl), h]

/-- Where nothing waits, what is due by now changes nothing. -/
theorem State.dueAll_idle (s : State) (h : s.nothingDue = true) : s.dueAll = s := by
  simp only [State.nothingDue, Bool.and_eq_true, List.all_eq_true, beq_iff_eq] at h
  rw [State.dueAll, s.respAll_idle fun n => h.1 n (List.mem_finRange n), s.seenAll_idle h.2]

end Sys2Proof.Machine
end

