-- ==== Sys2Proof/WellFormed.lean ====
section
/-! DEFINITION. WellFormed.lean: the ranges of a command's operands, where the type of an operand is wider than what the
hardware can send: addresses, member numbers, message fields and payload lengths. A command outside its ranges is no event of
the hardware; exec gives it the effect of its words all the same. -/
namespace Sys2Proof

/-- A byte address of the 16-bit address space (R308) on a word boundary. -/
def addrOk (a : Nat) : Bool := decide (a < 65536 ∧ a % 4 = 0)

/-- A frame of the lanyard has 124 groups after its comma (Table 12-1). -/
def frameOk (f : LyWire) : Bool := f.bytes.length == 124

/-- The fields of a report (Table 12-3). -/
def reportOk (r : SpanRpt) : Bool :=
  decide (r.group < 2 ^ 16 ∧ r.idx < 256 ∧ r.state < 256 ∧ r.cause < 256 ∧ r.nspl < 2 ^ 16 ∧ r.vf < 2 ^ 32) &&
    decide (-2 ^ 31 ≤ r.iF ∧ r.iF < 2 ^ 31 ∧ -2 ^ 31 ≤ r.pf ∧ r.pf < 2 ^ 31)

/-- The payload of a link frame has at most 32 bytes (R283, R285). -/
def linkPayOk (p : List Byte) : Bool := decide (p.length ≤ 32)

/-- Member numbers lie below 64 (the largest system of 00_scope.md); activations are named by bytes and an epoch of 48 bits (Table 12-3). -/
def memberOk (n : Nat) : Bool := decide (n < 64)
def epochOk (e : Nat) : Bool := decide (e < 2 ^ 48)
def byteOk (b : Nat) : Bool := decide (b < 256)

/-- A command whose operands lie in their ranges. -/
def Instr.wellFormed : Instr → Bool
  | .strandDeliver _ _ dA sA dB sB => decide (dA < 2 ^ 20 ∧ dB < 2 ^ 20 ∧ sA < 2 ^ 32 ∧ sB < 2 ^ 32)
  | .braidRerunDone _ dA sA dB sB => decide (dA < 2 ^ 20 ∧ dB < 2 ^ 20 ∧ sA < 2 ^ 32 ∧ sB < 2 ^ 32)
  | .currentTrigger _ volts => decide (volts.length ≤ 48)
  | .stagingWrite a _ => addrOk a && decide (0x4000 ≤ a ∧ a < 0x8000)
  | .traceWindowWrite a _ => addrOk a && decide (0x8000 ≤ a)
  | .ident _ _ f => linkPayOk f.bytes
  | .status _ _ f => linkPayOk f.bytes
  | .temp _ _ f => linkPayOk f.bytes
  | .vtarget _ _ f => linkPayOk f.bytes
  | .ilimit _ _ f => linkPayOk f.bytes
  | .chgen _ _ f => linkPayOk f.bytes
  | .reven _ _ f => linkPayOk f.bytes
  | .notifyAck _ _ f => linkPayOk f.bytes
  | .linkFormatFrame _ _ _ f => linkPayOk f.bytes
  | .pointerSet a _ => decide (a < 65536)
  | .registerWrite a _ _ _ => decide (a < 65536)
  | .w1cWrite a _ => addrOk a
  | .counterClearWrite a _ => addrOk a
  | .snapshotRead ⟨.addressed a, _⟩ => decide (a < 65536)
  | .snapshotRead ⟨.current, _⟩ | .snapshotRead ⟨.continues, _⟩ => true
  | .alertResponse a => a.others.all fun x => decide (x < 128)
  | .lanyardFrameReceive _ f => frameOk f
  | .claim addr => decide (addr < 128)
  | .number count => memberOk count || decide (count = 64)
  | .memberJoin srcm n _ => memberOk srcm && decide (0 < n ∧ n ≤ 64)
  | .spanrpt src r => memberOk src && reportOk r
  | .token i => decide (i < 32)
  | .member src p => memberOk src && decide (p.length ≤ 35)
  | .activate src actid kind epoch => memberOk src && byteOk actid && byteOk kind && epochOk epoch
  | .actres src actid kind result => memberOk src && byteOk actid && byteOk kind && byteOk result
  | .wrap src start kind epoch => memberOk src && memberOk start && byteOk kind && epochOk epoch
  | .probe (some (x, _)) => memberOk x
  | .resetRelease _ _ _ | .pllLockTimeout _ _ | .supervisorStart | .pinBothOff _ _ _ _ _ | .wakePin | .wakeByAddress
  | .bellBoundary | .railSample _ _ | .modelDisagreement _ | .allOnTimeout _ | .allOffTimeout _ | .reverseWatch _
  | .autotuneNoOscillation _ | .strandStart _ | .takeoverLive _ | .dutyLatch _ | .unsplicedConversion _ _ | .profileStep
  | .profileOutputInForce _ | .closeEnd _ | .carrierFix _ | .risingCommit _ | .fallingCommit _ | .pwmEdge _
  | .fastWindowKill _ | .stageFault _ | .faultHoldEnd _ | .rotation _ | .balanceIntervalEnd _ | .windowLevelChange _ _
  | .comparatorBlankEnd _ | .protWindowFault _ | .tc0Slot _ | .tc0FrameEnd | .tc1DacReadback _ | .xrefCheck _ _
  | .triggeredConversion _ _ | .openLineDetect _ _ _ | .restore _ _ | .selftestStart _ | .selftestDone _ _
  | .selftestRun _ _ | .queueJoin _ | .slotGrant | .queueAgeExpiry _ | .tcloseExpiry _ | .startTimeout _
  | .turnOffDelayExpiry _ | .stopTimeout _ | .topenExpiry _ | .tfaultExpiry _ | .dieTsdTrip | .dieTsdClear | .budgetOverrun
  | .syncinEdge _ | .syncWindowClose | .tbPathFail | .acq _ | .tbSrcWrite _ | .clrw _ _ | .rgOpen _ | .rgCheck _
  | .checkDone | .rgSwap _ | .swapAtEpoch _ | .rgCancel _ | .rgDiscard _ | .swapBoundary | .scrubPass _ _ _
  | .reloadFactoryCalibration _ | .clearPeaks _ _ | .clearEnergy _ _ | .clearPeaksAndEnergy _ _ | .targetWrite _ _ _
  | .vocWrite _ _ | .modeRequestWrite _ _ | .facetForceWrite _ _ | .autotuneStart _ _ | .autotuneAbandon _ _
  | .pairOverrideWrite _ _ | .wearWrite _ _ | .railEnableWrite _ _ | .hostkill _ _ | .clearLockout _ _ | .thresholdWrite _
  | .clearPhase _ | .clearStrand _ | .clearRail _ | .clearAll _ | .supervisorWatchdogExpiry _ | .logbookWrite
  | .logbookErase _ | .tracePostDone _ | .traceFreeze _ | .traceRelease _ | .replayStart _ | .replayAbort _ | .replayDone
  | .newChallenge _ | .verifyToken _ | .debugLock _ | .debugBlockEnd | .linkFrameDiscard _ _ _ _ | .beacon _
  | .packAbsence _ | .unbind _ _ | .linkEnableWrite _ _ | .notify _ | .notifyRetry _ | .linkWatchdogExpiry _ | .lbStatusRead
  | .busStartStop _ _ _ | .busTimeout | .alertMaskWrite _ | .deviceReset _ | .enterDeepStandby _ | .deepStandbyEntry _
  | .sleepEntry | .sleepExit | .lpClockEdge | .lanyardFrameStart | .ringFormStart _ | .spanrptSend _
  | .spanAttachTimeout _ _ | .spanSlotTimeout _ | .memberBroadcast | .hopLoss | .ringRestore | .activateSwap _
  | .activateFirmware _ | .timerStep _ | .timerCapture _ _ | .timerCountWrite _ _ | .timerTopWrite _ _
  | .compareValueWrite _ | .channelModeWrite _ | .fanControlWrite _ _ | .fanCurveUpdate | .tachEdge _ | .fanStartTimeout _
  | .fanKickEnd _ | .fanBlockedRetry _ | .fanStopped _ | .fwopen _ | .fwwrite _ | .fwclose _ | .fwact _ | .fwcancel _
  | .commit _ | .rollback _ | .rigsave _ | .keyload _ | .keyrevoke _ | .lock _ | .setsave _ | .modelsave _ | .setdef _
  | .flashOperationDone | .wearRecordSave | .firmwareActivation | .trialAutocommit | .counterLatch _ | .tapReset | .bypass
  | .idcode | .samplePreload _ | .extest | .highz | .clamp | .svhalt | .svrun | .economiserDelayExpiry _
  | .fanTimerSourceLapse _ | .packTempReportStale _ | .tcdriftPermanent _ | .hopDelayMarker | .probe none => true

end Sys2Proof
end

