-- ==== Sys2Proof/Tests/Slice0.lean ====
section
/-! SUPPORT. Tests/Slice0.lean: the checks of WellFormed refuse a term each; worked examples and check values of the spec; and for
each claim with hypotheses a state and operands that meet those of each of its clauses, at the ends of their ranges. -/
namespace Sys2Proof.Tests
open Sys2Proof.Machine

-- Each witness is many small kernel evaluations: taken one after the other they need one thread, and side by side one thread each.
set_option Elab.async false

/-- The block running after reset with some fields set. -/
def up (fs : List (Fld × Nat × Nat)) : State :=
  fs.foldl (fun s e => s.setFld e.1 e.2.1 e.2.2) { State.reset with power := { mode := .running, ready := true } }

/-- A register word with some fields set. -/
def word (fs : List (Fld × Nat)) : Word := fs.foldl (fun w e => setBits w e.1.lo e.1.width e.2) 0

/-- The state a command answers. -/
def after (c : Instr) (s : State) : State :=
  match exec c s with
  | .next t => t
  | _ => s

/-- A SPANRPT of group 7 from the member with an index. -/
def rpt (i : Nat) : SpanRpt := { group := 7, idx := i, state := 4, nspl := 1 }

/-! Ill-formed terms: one for each check of WellFormed. -/

theorem test_wf_strand :
    [Instr.strandDeliver 0 ⟨0, 0⟩ (2 ^ 20) 0 0 0, .strandDeliver 0 ⟨0, 0⟩ 0 0 0 (2 ^ 32), .braidRerunDone 0 0 (2 ^ 32) 0 0,
    .currentTrigger 0 (List.replicate 49 0)].all (fun i => !i.wellFormed) = true := by decide +kernel
theorem test_wf_bus : [Instr.stagingWrite 0x8000 0, .stagingWrite 0x4002 0, .traceWindowWrite 0x7FFC 0, .pointerSet 65536 none,
    .registerWrite 65536 0 none false, .w1cWrite 2 0, .counterClearWrite 65536 0, .snapshotRead ⟨.addressed 65536, false⟩,
    .alertResponse { others := [128] }].all (fun i => !i.wellFormed) = true := by decide +kernel
theorem test_wf_link : [Instr.ident 0 0 ⟨List.replicate 33 0, {}⟩, .status 0 0 ⟨List.replicate 33 0, {}⟩, .temp 0 0 ⟨List.replicate 33 0, {}⟩,
    .vtarget 0 0 ⟨List.replicate 33 0, {}⟩, .ilimit 0 0 ⟨List.replicate 33 0, {}⟩, .chgen 0 0 ⟨List.replicate 33 0, {}⟩,
    .reven 0 0 ⟨List.replicate 33 0, {}⟩, .notifyAck 0 0 ⟨List.replicate 33 0, {}⟩, .linkFormatFrame 0 0 0 ⟨List.replicate 33 0, {}⟩].all
    (fun i => !i.wellFormed) = true := by decide +kernel
theorem test_wf_lanyard : [Instr.lanyardFrameReceive 0 ⟨List.replicate 123 0⟩, .lanyardFrameReceive 0 ⟨List.replicate 125 0⟩,
    .claim 128, .number 65, .memberJoin 64 1 0, .memberJoin 0 0 0, .spanrpt 64 (rpt 0), .spanrpt 0 (rpt 256), .token 32,
    .member 0 (List.replicate 36 0), .activate 0 256 1 0, .activate 0 0 1 (2 ^ 48), .actres 0 0 256 0, .wrap 0 64 0 0,
    .probe (some (64, 0))].all (fun i => !i.wellFormed) = true := by decide +kernel
theorem test_wf_accepts : [Instr.registerWrite 0xFFFC 0 none true, .snapshotRead ⟨.addressed 0xFFFF, true⟩, .stagingWrite 0x7FFC 0,
    .number 64, .probe none, .lanyardFrameReceive 0 ⟨frameBytes {}⟩, .vtarget 0 5 ⟨[0, 0, 0xD5, 0x48], {}⟩].all Instr.wellFormed = true := by
  decide +kernel

/-! Check values and worked examples of the spec. -/

/-- The bytes of "123456789". -/
def ascii : List Nat := [0x31, 0x32, 0x33, 0x34, 0x35, 0x36, 0x37, 0x38, 0x39]

/-- The check values of R44, R284 and R312. -/
theorem test_crc_check_values : (crc32 ascii, crc16 ascii, crc8 ascii) = (0xCBF43926, 0x29B1, 0xF4) := by decide +kernel

/-- The 13S pack rail of §3.2. -/
def pack : State :=
  { up [(CV_SNS.BCOMP, 2, 2371)] with
      active := { sense := Vector.replicate 12 { div := 1376256, elsb := 1, bias := true, cslsb := 100000 } } }

/-- The example of §3.2: REF 166 552, and E = +2 at 54.62 V. -/
theorem test_error_word : pack.refOf 2 54600 = 166552 ∧ errorCode 2603323000 166552 1 = (2, false) := by decide +kernel

/-- The example of §3.4: a raw code of 102 is corrected to 394. -/
theorem test_phase_correction : correctPhase 102 18 0x8148 = 394 := by decide +kernel

/-- The example of §3.6: the code 52 066 reads 54 620 mV. -/
theorem test_rail_reading : telCode 2603323000 = 52066 ∧ pack.vrailMv 2 52066 = 54620 := by decide +kernel

/-- The sample of §4.9: the state before it, the coefficients of Table 4-8 and the input vector. -/
def coefs : Vector Word 19 :=
  ((((Vector.replicate 19 (0 : Word)).set 0 0x003C0148).set 1 0x003C001A).set 2 0x003C051F |>.set 3 0x003D0000).set 18 0x00410000
def charging : StrandOut :=
  evalStrand { frac := false, i := 100663, d := -2100, eP := 1, xp := 3 }
    { loop := { ffVbus := true, ffLtab := true }, coef := coefs, cslsb := 100000
      tables := { iStep := 200, lroll := ((Vector.replicate 32 0).set 3 0x7C00).set 4 0x7A00 } }
    { e := -2, isum := 1203, nact := 4, vb := 80012, vset := 54600, iset := 3000, fmode := false } false false

/-- §4.9: the duty and the P block; §5.3: the transfer words of the same sample. -/
theorem test_worked_sample :
    charging.duty = 722851 ∧ (charging.st.i, charging.st.d, charging.st.eP, charging.st.xp) = (103991, -84954, 1, 2) ∧
    (charging.st.uc, charging.st.eUC) = (122042, 0) ∧ charging.flags = {} ∧
    (charging.st.dp, charging.st.vrp, charging.st.lrp, charging.st.xip) = (722851, 44722, 31355, -1) := by decide +kernel

/-- §4.7: FRHOLD moves the mantissa 103 991 at e = 1 to the Q15 word 406. -/
theorem test_block_to_fraction : toFracWord 7 1 103991 = (406, false) := by decide +kernel

/-- §1.3: with PERIOD 40 and OFFSET 13 the rail samples at 4 096 000 − 27 and + 13. -/
theorem test_sample_grid : (up []).nextGrid 4095961 40 13 = 4095973 ∧ (up []).nextGrid 4095974 40 13 = 4096013 := by decide +kernel

/-- §6.4: PH8 at the duty 724 969 carries the extra tap at j = 4; §6.5: its dead times; §6.7: the period of 300 kHz. -/
theorem test_on_time : onTime 724969 64000 4 = 44249 ∧ targetPeriod 300 = 42667 := by decide +kernel
theorem test_dead_times :
    let tab : TablesE := { iStep := 200, dead := ((Vector.replicate 32 (0, 0)).set 3 (48, 32)).set 4 (44, 32) }
    ({ up [(PH_PCFG.RAIL, 8, 2), (PH_IRAW.CORR, 8, 301)] with
        active := { pack.active with tables := Vector.replicate 12 tab }, now := 7 } : State).deadTimes 8 = (45, 32) := by
  decide +kernel

/-- Table 5-1: the profile from 48.1 V to 54.6 V takes 33.25 ms, and stands at 48 104.17 mV after the first segment. -/
theorem test_profile : let m : Motion := ⟨48100, 0, 0⟩
    let p := (makePlan ⟨200, 400, 1600⟩ m 54600).1
    planTime p = 133 / 4 ∧ m.run (planTake p (1 / 4)) = ⟨48104 + 1 / 6, 50, 400⟩ ∧
      (m.run (planTake p (65 / 2))).p = 54525 := by decide +kernel

/-- The four phases of Table 7-3 before the update. -/
def unbalanced : State :=
  let s : State := { up [(RL_STATUS.STATE, 2, stRegulate), (RL_PMBAL.BINT, 2, 4), (RL_PMBAL.BGAIN, 2, 32), (RL_PMBAL.BSTEP, 2, 4),
    (RL_PMBAL.BDEAD, 2, 5), (RL_PMBAL.BEN, 2, 1)] with active := pack.active }
  [((8 : Fin 48), (296 : Int), (12 : Int)), (9, 316, -6), (10, 300, -2), (11, 292, -4)].foldl (fun s e =>
    (((s.modPhase e.1 fun x => { x with balSum := e.2.1, balCnt := 1 }).setFld PH_PCFG.RAIL e.1 2).setFld PH_MSTAT.STATE e.1
      phActive).setFldS PH_BTRIM.TR e.1 e.2.2) s

/-- Table 7-3: the trims after the update. -/
theorem test_balancing : [(8 : Fin 48), 9, 10, 11].map (fun p => ((after (.balanceIntervalEnd 2) unbalanced).phase p).trimNext) =
    [some (16, 15), some (16, -11), some (16, -3), some (16, -1)] := by decide +kernel

/-- §8.5: the window thresholds of the example; §8.6: Q grows by 11 250 000 a frame at 45 A, with K = 15 625. -/
theorem test_window_levels : dacLevel 0 557 = 90000000 ∧ dacLevel 0 492 = -40000000 ∧ dacLevel 48 905 = 2715000000 := by decide +kernel
theorem test_overload : ovlK 1000 = 15625 ∧
    ((((up [(RL_STATUS.STATE, 0, stRegulate), (RL_OVL.IOVL, 0, 3000), (RL_OVL.TOVL, 0, 1000)]).modSense 0 fun x =>
      { x with iF := 4500 }).overloadCheck 0).rail 0).prot.q = 11250000 := by decide +kernel

/-- §10.2: the frame of a target of 54.600 V with SEQ 5 has 12 bytes, the headers 0x45 and 0x04, and a CRC over six bytes. -/
theorem test_link_frame : (linkBytes 0 4 5 [0, 0, 0xD5, 0x48]).length = 12 ∧
    ((linkBytes 0 4 5 [0, 0, 0xD5, 0x48]).drop 4).take 6 = [0x45, 0x04, 0, 0, 0xD5, 0x48] := by decide +kernel

/-- §12.4: member 60 sets 312 × 46 = 14 352. -/
theorem test_span_share :
    ({ ((List.range 46).foldl (fun s p => s.setFld PH_PCFG.RAIL p 11) (up [(RL_PSTAT.CAP, 11, 20000)])).modGroup 11
        (fun g => { g with iset := [(167, 312)] }) with
        active := { lanyard := { groups := [{ group := 7, rail := 11, role := 2, nmem := 8, idx := 4 }] } } } : State).followIset 11 167 =
      14352 := by decide +kernel

/-- A tagged word that comes twice runs once (R321). -/
theorem test_repeat_tag :
    (after (.rgOpen 0x50000000) (after (.rgOpen 0x50000000) (up []))).fld HB_CNT.DUPCNT 0 = 1 := by decide +kernel

/-! Witnesses. -/

/-- The state with rail 11 as a follower of group 7. -/
def following (s : State) : State :=
  { s with active := { s.active with lanyard := { groups := [{ group := 7, rail := 11, role := 2, nmem := 8, idx := 4 }] } } }

/-- Phase 47 of rail 11 rests in LS on a running carrier. -/
def resting : State :=
  (up [(PH_PCFG.RAIL, 47, 11), (RL_STATUS.STATE, 11, stRegulate), (PH_MSTAT.STATE, 47, phActive), (PH_PSTAT.OUT, 47, 0)]).modCarrier 11
    fun t => { t with running := true }

/-- Rail 0 ramps with a bias on its sense lines. -/
def openLine : State :=
  { (up [(RL_STATUS.STATE, 0, stRamp)]) with active := { sense := Vector.replicate 12 { bias := true, fallback := false } } }

/-- The block running with flash operations waiting. -/
def busy (os : List FlashOp) : State := (up []).modFlash fun t => { t with ops := os }

/-- The supervisor runs and a trial is on in slot B. -/
def trying (x : Trial) (fs : List (Fld × Nat × Nat)) : State :=
  (up ([(SV_STATUS.STATE, 0, 1)] ++ fs)).modFlash fun t =>
    { t with fwB := { t.fwB with st := .trial, bytes := [(5, 3)] }, trial := some x }

/-- The state in which the next edge of a phase is taken: its rail's requests are served as of that edge, else as of the first of them. -/
def edgeDue (s : State) (p : Fin 48) : State :=
  match s.phRail p with
  | none => s
  | some m => s.respTo m (match (s.phase p).edges, (s.rail m).man.reqs with
    | e :: _, _ => e.1 / 64
    | [], r :: _ => r.at_
    | [], [] => s.now)

/-- The buffer of a KEYREVOKE token for image slot 3 signed by slot 2, and its challenge. -/
def tokened : State :=
  (up [(SV_STATUS.STATE, 0, 1), (FU_BUF.DATA, 0, 0x534B5256), (FU_BUF.DATA, 1, 0x00030200), (FU_BUF.DATA, 2, 0x01020304),
    (FU_BUF.DATA, 3, 0x05060708), (DBG_CHAL_HI.CHAL, 0, 0x01020304), (DBG_CHAL_LO.CHAL, 0, 0x05060708)]).modFlash (fun t =>
      { t with imageKeys := t.imageKeys.set 2 { st := .loaded } }) |>.modFault fun t => { t with chal := true }

/-- Link `n` when a frame of `len` bytes has been heard whole. -/
def heard (s : State) (n : Fin 12) (len : Nat) (li : LightIn) : State := ((s.atEnd n len).linkTaken n li).linkHeard n

theorem heard_of {s : State} {n : Fin 12} {len : Nat} {li : LightIn} (h : s.lst n ≠ lkOff ∧ (s.atEnd n len).deaf n (frameTicks len) = false ∧
    spoiling li = false ∧ (heard s n len li).svRuns = true) : Heard s n len li (heard s n len li) :=
  ⟨h.1, h.2.1, h.2.2.1, rfl, h.2.2.2⟩

/-- Link 11 in a state, with the supervisor running. -/
def linked (st : Nat) (fs : List (Fld × Nat × Nat)) : State := up ([(SV_STATUS.STATE, 0, 1), (LK_STATUS.LSTATE, 11, st)] ++ fs)

/-- An outstanding NOTIFY. -/
def note (tries : Nat) : NoteOut := { ev := { event := 1, cause := 0, state := 0 }, seq := 15, tries := tries, close := 0, due := 0 }

/-- Member 0 of a lanyard of 64, in a mode. -/
def ringed (mode : Nat) (fs : List (Fld × Nat × Nat)) : State :=
  up ([(LY_CTRL.EN, 0, 1), (LY_STATUS.MODE, 0, mode), (LY_STATUS.NM1, 0, 63)] ++ fs)

/-- Rail 11 in group 7 of eight, in a role, at a place. -/
def grouped (role idx : Nat) : GroupE := { group := 7, rail := 11, role := role, nmem := 8, idx := idx }

/-- The state with such a group. -/
def inGroup (role idx : Nat) (s : State) : State := { s with active := { lanyard := { groups := [grouped role idx] } } }

/-- A frame whose HCRC is spoilt. -/
def spoilt (rev : Bool) : LyWire := ⟨frameBytes { rev := rev, hcrc := some 256 }⟩

/-- A set whose four fans are enabled. -/
def fansOn : RigSet := { fan := Vector.replicate 4 { en := true } }

theorem witness_SynchroniserEdges :
    (∃ (s : State), s.power.mode = .running ∧ s.flag TB_CTRL.SRC 0 = false) ∧
    (∃ (s : State) (tap : Fin 64) (p : Nat), let e := (s.now * 64 + tap.val); let dev : Int := ((e : Int) - (p + s.tbMTaps :
     Nat)); s.power.mode = .running ∧ s.flag TB_CTRL.SRC 0 = true ∧ s.tbTracking = true ∧ s.time.edge = some p ∧ dev.natAbs
     ≤ s.tbW ∧ (s.tbDrift dev).natAbs ≤ 25 * s.tbW) ∧
    (∃ (s : State) (tap : Fin 64) (p : Nat), let e := (s.now * 64 + tap.val); let dev : Int := ((e : Int) - (p + s.tbMTaps :
     Nat)); s.power.mode = .running ∧ s.flag TB_CTRL.SRC 0 = true ∧ s.tbTracking = true ∧ s.time.edge = some p ∧ (s.tbW <
     dev.natAbs ∨ 25 * s.tbW < (s.tbDrift dev).natAbs)) ∧
    (∃ (s : State) (p : Nat), s.power.mode = .running ∧ s.tbTracking = true ∧ s.time.edge = some p ∧ s.time.misses < 7) ∧
    (∃ (s : State) (p : Nat), s.power.mode = .running ∧ s.tbTracking = true ∧ s.time.edge = some p ∧ 7 ≤ s.time.misses ∧ s.flag
     TB_STATUS.HOLD 0 = false) := by
  refine ⟨⟨up [], ?_⟩,
    ⟨{ ((up [(TB_CTRL.SRC, 0, 1)]).modTime fun t => { t with edge := some 0 }) with now := (up []).tbM }, 0, 0, ?_⟩,
    ⟨(up [(TB_CTRL.SRC, 0, 1)]).modTime fun t => { t with edge := some 0 }, 0, 0, ?_⟩,
    ⟨(up [(TB_CTRL.SRC, 0, 1)]).modTime fun t => { t with edge := some 0, misses := 6 }, 0, ?_⟩,
    ⟨(up [(TB_CTRL.SRC, 0, 1)]).modTime fun t => { t with edge := some 0, misses := 7 }, 0, ?_⟩⟩
  all_goals decide +kernel

theorem witness_StartQueue :
    (∃ (s : State) (n : Fin 12) (t : Nat), s.power.mode = .running ∧ (s.rail n).life.condSince = some t ∧ s.rst n = stOff ∧
     s.flag RL_STATUS.QUEUED n = false ∧ s.startCond n = true ∧ s.railPhases n ≠ []) ∧
    (∃ (s : State) (n : Fin 12) (t : Nat), s.power.mode = .running ∧ (s.rail n).life.arrival = some t ∧ s.flag RL_STATUS.QUEUED n
     = true) := by
  refine ⟨⟨(up [(RL_CTRL.EN, 11, 1), (RL_VOC.VALID, 11, 1), (RL_VOC.VOC, 11, 12000), (CV_VBUS.MV, 0, 48000), (PH_PCFG.RAIL, 47, 11),
      (SV_STATUS.STATE, 0, 1)]).modLife 11 fun t => { t with condSince := some 0 }, 11, 0, ?_⟩,
    ⟨(up [(RL_STATUS.QUEUED, 0, 1)]).modLife 0 fun t => { t with arrival := some 0 }, 0, 0, ?_⟩⟩
  all_goals decide +kernel

theorem witness_ContactorCloses :
    (∃ (s : State) (n : Fin 12) (t : Nat), s.power.mode = .running ∧ s.rst n = stPrematch ∧ (s.rail n).life.contAt = some t ∧
     s.follower n = false) ∧
    (∃ (s : State) (n : Fin 12) (t : Nat), s.power.mode = .running ∧ s.rst n = stPrematch ∧ (s.rail n).life.contAt = some t ∧
     s.follower n = true) ∧
    (∃ (s : State) (n : Fin 12), s.power.mode = .running ∧ s.rst n = stClose ∧ 16 ≤ (s.rail n).life.closeSteps ∧
     (s.rail n).life.closeOvr = true ∧ CanFault (s.unmove n) n) ∧
    (∃ (s : State) (n : Fin 12), s.power.mode = .running ∧ s.rst n = stClose ∧ 16 ≤ (s.rail n).life.closeSteps ∧
     (s.rail n).life.closeOvr = false ∧ s.follower n = true) ∧
    (∃ (s : State) (n : Fin 12), s.power.mode = .running ∧ s.rst n = stClose ∧ 16 ≤ (s.rail n).life.closeSteps ∧
     (s.rail n).life.closeOvr = false ∧ s.follower n = false) := by
  refine ⟨⟨(up [(RL_STATUS.STATE, 11, stPrematch)]).modLife 11 fun t => { t with contAt := some 0 }, 11, 0, ?_⟩,
    ⟨following ((up [(RL_STATUS.STATE, 11, stPrematch)]).modLife 11 fun t => { t with contAt := some 0 }), 11, 0, ?_⟩,
    ⟨(up [(RL_STATUS.STATE, 0, stClose)]).modLife 0 fun t => { t with closeSteps := 16, closeOvr := true }, 0, ?_⟩,
    ⟨following ((up [(RL_STATUS.STATE, 11, stClose)]).modLife 11 fun t => { t with closeSteps := 16 }), 11, ?_⟩,
    ⟨(up [(RL_STATUS.STATE, 0, stClose)]).modLife 0 fun t => { t with closeSteps := 16 }, 0, ?_⟩⟩
  all_goals decide +kernel

theorem witness_TimeoutsFault :
    (∃ (s : State) (n : Fin 12), let t := s.advance ((s.rail n).life.preTick + max 1 (s.fld RL_TMO.TSTART n) * 100 * ms);
     s.power.mode = .running ∧ (s.rst n = stPrematch ∨ s.rst n = stClose ∨ s.rst n = stRamp) ∧ CanFault (t.unmove n) n) ∧
    (∃ (s : State) (n : Fin 12), let t := s.advance ((s.rail n).life.entry + max 1 (s.fld RL_TMO.TSTOP n) * 10 * ms);
     s.power.mode = .running ∧ s.rst n = stRampdown ∧ CanFault (t.unmove n) n) ∧
    (∃ (s : State) (m : Fin 12), s.power.mode = .running ∧ s.rst m ≠ stFault ∧ CanFault (s.unmove m) m) ∧
    (∃ (s : State) (t : Nat), s.power.mode = .running ∧ s.tele.overAt = some t) := by
  refine ⟨⟨up [(RL_STATUS.STATE, 11, stRamp)], 11, ?_⟩,
    ⟨up [(RL_STATUS.STATE, 0, stRampdown)], 0, ?_⟩,
    ⟨up [(RL_STATUS.STATE, 5, stRegulate)], 5, ?_⟩,
    ⟨(up []).modTele fun t => { t with overAt := some 0 }, 0, ?_⟩⟩
  all_goals decide +kernel

theorem witness_StopAndRestart :
    (∃ (s : State) (n : Fin 12) (t : Nat), s.power.mode = .running ∧ (s.rail n).life.stopReq = some t ∧ s.follower n = false ∧
     (s.rst n = stClose ∨ s.rst n = stRamp ∨ s.rst n = stRegulate)) ∧
    (∃ (s : State) (n : Fin 12), s.power.mode = .running ∧ s.rst n = stOpen ∧ s.follower n = false) ∧
    (∃ (s : State) (n : Fin 12), s.power.mode = .running ∧ s.rst n = stFault ∧ (s.rail n).life.permanent = false ∧ (∀ c ∈ (s.rail
     n).life.causes, s.causeGone n c = true)) ∧
    (∃ (s : State) (n : Fin 12), s.power.mode = .running ∧ s.rst n = stFault ∧ ((s.rail n).life.permanent = true ∨
     ∃ c ∈ (s.rail n).life.causes, s.causeGone n c = false)) := by
  refine ⟨⟨(up [(RL_STATUS.STATE, 11, stRegulate)]).modLife 11 fun t => { t with stopReq := some 0 }, 11, 0, ?_⟩,
    ⟨up [(RL_STATUS.STATE, 0, stOpen)], 0, ?_⟩,
    ⟨(up [(RL_STATUS.STATE, 0, stFault), (PH_PCFG.RAIL, 0, 0)]).modLife 0 fun t => { t with causes := [1, 5, 8, 12, 19] }, 0,
      ?_⟩,
    ⟨(up [(RL_STATUS.STATE, 0, stFault), (PH_PCFG.RAIL, 0, 0)]).modLife 0 fun t => { t with permanent := true }, 0, ?_⟩⟩
  all_goals decide +kernel

theorem witness_RailControlWrites :
    (∃ (s : State) (n : Fin 12) (w : Word), s.dueAll = s ∧ Taken s .RL_CTRL n w ∧ RL_CTRL.CMD.of w = 0 ∧ RL_CTRL.EN.of w = 0 ∧ s.follower n =
     false ∧ (s.rst n = stClose ∨ s.rst n = stRamp ∨ s.rst n = stRegulate) ∧ (s.unmove n).rst n ≠ stPrematch ∧
     (s.rail n).life.stopReq = none) ∧
    (∃ (s : State) (n : Fin 12) (w : Word), s.dueAll = s ∧ Taken s .RL_CTRL n w ∧ RL_CTRL.CMD.of w = 0 ∧ RL_CTRL.EN.of w = 0 ∧ s.follower n =
     false ∧ (s.unmove n).rst n = stPrematch ∧ (s.unmove n).contOut n = false) ∧
    (∃ (s : State) (n : Fin 12) (w : Word), s.dueAll = s ∧ Taken s .RL_CTRL n w ∧ RL_CTRL.CMD.of w = 0 ∧ RL_CTRL.EN.of w = 0 ∧ s.follower n =
     false ∧ (s.unmove n).rst n = stPrematch ∧ (s.unmove n).contOut n = true) ∧
    (∃ (s : State) (n : Fin 12) (w : Word), s.dueAll = s ∧ Taken s .RL_CTRL n w ∧ RL_CTRL.CMD.of w = 0 ∧ RL_CTRL.EN.of w = 1 ∧
     s.flag RL_CTRL.EN
     n = false ∧ s.linkPermits n = true ∧ (s.rail n).life.budgetOff = false) ∧
    (∃ (s : State) (n : Fin 12) (w : Word), s.dueAll = s ∧ Taken s .RL_CTRL n (withCmd w 1) ∧ s.rst n ≠ stFault ∧ CanFault (s.unmove n) n) ∧
    (∃ (s : State) (n : Fin 12) (w : Word), s.dueAll = s ∧ Taken s .RL_CTRL n (withCmd w 2)) := by
  refine ⟨⟨up [(RL_STATUS.STATE, 11, stRegulate), (RL_CTRL.EN, 11, 1)], 11, 0, ?_⟩,
    ⟨up [(RL_STATUS.STATE, 0, stPrematch)], 0, 0, ?_⟩,
    ⟨up [(RL_STATUS.STATE, 0, stPrematch), (RL_STATUS.CONT, 0, 1)], 0, 0, ?_⟩,
    ⟨up [(RL_STATUS.STATE, 0, stRegulate)], 0, 1, ?_⟩,
    ⟨up [(RL_STATUS.STATE, 11, stRamp)], 11, 1, ?_⟩,
    ⟨up [], 11, 1, ?_⟩⟩
  all_goals (with_reducible refine ⟨State.dueAll_idle _ ?_, ?_⟩) <;> decide +kernel

theorem witness_FirmwareSlotCommands :
    (∃ (s : State) (w : Word), s.dueAll = s ∧ FuTaken s 1 w ∧ s.flash.trial = none ∧ s.flash.pendAct = none) ∧
    (∃ (s : State) (w : Word), s.dueAll = s ∧ FuTaken s 1 w ∧ (s.flash.trial ≠ none ∨ s.flash.pendAct ≠ none)) ∧
    (∃ (s : State) (w : Word), let b := (s.inactive); let arg := (FU_CMD.ARG.of w); let ofs := (s.fld FU_OFS.OFS 0); s.dueAll = s ∧
     FuTaken s 2
     w ∧ (s.fw b).st = .opened ∧ arg * 128 = ofs ∧ ofs < 1048576) ∧
    (∃ (s : State) (w : Word), let b := (s.inactive); let arg := (FU_CMD.ARG.of w); let ofs := (s.fld FU_OFS.OFS 0); s.dueAll = s ∧
     FuTaken s 2
     w ∧ (s.fw b).st = .opened ∧ ofs < arg * 128) ∧
    (∃ (s : State) (w : Word), let b := (s.inactive); s.dueAll = s ∧ FuTaken s 2 w ∧ (s.fw b).st ≠ .opened) ∧
    (∃ (s : State) (w : Word), let b := (s.inactive); let ofs := (s.fld FU_OFS.OFS 0); s.dueAll = s ∧ FuTaken s 3 w ∧
     (s.fw b).st = .opened ∧ 64
     ≤ ofs) ∧
    (∃ (s : State) (w : Word), let b := (s.inactive); let ofs := (s.fld FU_OFS.OFS 0); s.dueAll = s ∧ FuTaken s 3 w ∧ ((s.fw b).st ≠ .opened ∨
     ofs < 64)) ∧
    (∃ (s : State) (w : Word), s.dueAll = s ∧ FuTaken s 4 w ∧ s.actRequest s.fuEpoch = 0) ∧
    (∃ (s : State) (w : Word), s.dueAll = s ∧ FuTaken s 4 w ∧ s.actRequest s.fuEpoch ≠ 0) ∧
    (∃ (s : State) (w : Word) (p : Nat × Bool × Option (Nat × Nat)), s.dueAll = s ∧ FuTaken s 5 w ∧ s.flash.pendAct = some p ∧ 256 ≤ s.ticksTo
     p.1) ∧
    (∃ (s : State) (w : Word) (p : Nat × Bool × Option (Nat × Nat)), s.dueAll = s ∧ FuTaken s 5 w ∧ s.flash.pendAct = some p ∧ s.ticksTo p.1 <
     256) ∧
    (∃ (s : State) (w : Word), let b := s.inactive; let arg := FU_CMD.ARG.of w; let ofs := s.fld FU_OFS.OFS 0; s.dueAll = s ∧
     FuTaken s 2 w ∧ (s.fw b).st = .opened ∧ arg * 128 < ofs) ∧
    (∃ (s : State) (w : Word), let b := s.inactive; let arg := FU_CMD.ARG.of w; let ofs := s.fld FU_OFS.OFS 0; s.dueAll = s ∧
     FuTaken s 2 w ∧ (s.fw b).st = .opened ∧ arg * 128 = ofs ∧ 1048576 ≤ ofs) ∧
    (∃ (s : State) (w : Word), s.dueAll = s ∧ FuTaken s 5 w ∧ s.flag FU_STATUS.BUSY 0 = true ∧ s.flash.pendAct = none) := by
  refine ⟨⟨up [(SV_STATUS.STATE, 0, 1)], 0, ?_⟩,
    ⟨(up [(SV_STATUS.STATE, 0, 1)]).modFlash fun t => { t with pendAct := some (9, true, none) }, 0, ?_⟩,
    ⟨(up [(SV_STATUS.STATE, 0, 1), (FU_OFS.OFS, 0, 1048448)]).modFlash fun t => { t with fwB := { t.fwB with st := .opened } },
      BitVec.ofNat 32 8191, ?_⟩,
    ⟨(up [(SV_STATUS.STATE, 0, 1), (FU_OFS.OFS, 0, 128)]).modFlash fun t => { t with fwB := { t.fwB with st := .opened } },
      BitVec.ofNat 32 2, ?_⟩,
    ⟨up [(SV_STATUS.STATE, 0, 1)], 0, ?_⟩,
    ⟨(up [(SV_STATUS.STATE, 0, 1), (FU_OFS.OFS, 0, 64)]).modFlash fun t => { t with fwB := { t.fwB with st := .opened } }, 0,
      ?_⟩,
    ⟨(up [(SV_STATUS.STATE, 0, 1), (FU_OFS.OFS, 0, 63)]).modFlash fun t => { t with fwB := { t.fwB with st := .opened } }, 0,
      ?_⟩,
    ⟨(up [(SV_STATUS.STATE, 0, 1), (FU_ACTE_LO.EPOCH_L, 0, 1)]).modFlash fun t =>
      { t with fwB := { st := .staged, factory := true } }, 0, ?_⟩,
    ⟨up [(SV_STATUS.STATE, 0, 1)], 0, ?_⟩,
    ⟨{ ((up [(SV_STATUS.STATE, 0, 1)]).modFlash fun t => { t with pendAct := some (1, false, none) }) with now := 3840 }, 0, (1,
      false, none), ?_⟩,
    ⟨{ ((up [(SV_STATUS.STATE, 0, 1)]).modFlash fun t => { t with pendAct := some (1, false, none) }) with now := 3841 }, 0, (1,
      false, none), ?_⟩,
    ⟨(up [(SV_STATUS.STATE, 0, 1), (FU_OFS.OFS, 0, 128)]).modFlash fun t => { t with fwB := { t.fwB with st := .opened } }, 0, ?_⟩,
    ⟨(up [(SV_STATUS.STATE, 0, 1), (FU_OFS.OFS, 0, 1048576)]).modFlash fun t => { t with fwB := { t.fwB with st := .opened } },
      BitVec.ofNat 32 8192, ?_⟩,
    ⟨up [(SV_STATUS.STATE, 0, 1), (FU_STATUS.BUSY, 0, 1)], 0, ?_⟩⟩
  all_goals (with_reducible refine ⟨State.dueAll_idle _ ?_, ?_⟩) <;> decide +kernel

theorem witness_FirmwareTrial :
    (∃ (s : State) (w : Word) (x : Trial), s.dueAll = s ∧ s.flash.trial = some x ∧ FuTaken s 6 w ∧ (s.fw s.inactive).revoke = true) ∧
    (∃ (s : State) (w : Word) (x : Trial), s.dueAll = s ∧ s.flash.trial = some x ∧ FuTaken s 7 w ∧ s.flag FU_STATUS.BUSY 0 = true) ∧
    (∃ (s : State) (x : Trial) (t : Nat), s.flash.trial = some x ∧ s.power.mode = .running ∧ x.auto = true ∧ x.began = some t) ∧
    (∃ (s : State) (x : Trial), s.flash.trial = some x ∧ s.power.mode = .running ∧ x.auto = false) ∧
    (∃ (s : State) (x : Trial), s.flash.trial = some x ∧ s.power.mode = .running ∧ x.auto = true ∧ x.began = none) ∧
    (∃ (s : State) (w : Word), s.dueAll = s ∧ s.flash.trial = none ∧ FuTaken s 6 w) ∧
    (∃ (s : State) (w : Word), s.dueAll = s ∧ s.flash.trial = none ∧ FuTaken s 7 w) ∧
    (∃ (s : State) (epoch : Nat) (auto : Bool), let b := s.inactive; s.power.mode = .running ∧
     s.flash.pendAct = some (epoch, auto, none) ∧ (s.fw b).st = .staged) := by
  refine ⟨⟨trying { began := some 0, auto := true } [], 0, { began := some 0, auto := true }, ?_⟩,
    ⟨trying { began := some 0, auto := true } [(FU_STATUS.BUSY, 0, 1)], 0, { began := some 0, auto := true }, ?_⟩,
    ⟨trying { began := some 0, auto := true } [], { began := some 0, auto := true }, 0, ?_⟩,
    ⟨trying { began := some 0, auto := false } [], { began := some 0, auto := false }, ?_⟩,
    ⟨trying { began := none, auto := true } [], { began := none, auto := true }, ?_⟩,
    ⟨up [(SV_STATUS.STATE, 0, 1)], 0, ?_⟩,
    ⟨up [(SV_STATUS.STATE, 0, 1)], 0, ?_⟩,
    ⟨(up [(SV_STATUS.STATE, 0, 1)]).modFlash fun t =>
      { t with fwB := { t.fwB with st := .staged, factory := true }, pendAct := some (1, false, none) }, 1, false, ?_⟩⟩
  all_goals first
    | (with_reducible refine ⟨State.dueAll_idle _ ?_, ?_⟩) <;> decide +kernel
    | decide +kernel

theorem witness_KeysAndSettings :
    (∃ (s : State) (w : Word), s.dueAll = s ∧ FuTaken s 8 w ∧ s.fld RG_STATUS.STATE 0 = 3 ∧ s.shadow.loaded = true ∧
     s.flash.boot.rigFloor ≤ s.shadow.imgSeq ∧
     s.rigHolds s.flash.boot.prefRig s.shadow.imageId s.shadow.imgSeq s.shadow.signed = true) ∧
    (∃ (s : State) (w : Word), s.dueAll = s ∧ FuTaken s 8 w ∧ s.fld RG_STATUS.STATE 0 = 3 ∧ s.shadow.loaded = true ∧
     s.flash.boot.rigFloor ≤ s.shadow.imgSeq ∧
     s.rigHolds s.flash.boot.prefRig s.shadow.imageId s.shadow.imgSeq s.shadow.signed = false) ∧
    (∃ (s : State) (w : Word), s.dueAll = s ∧ FuTaken s 8 w ∧ s.fld RG_STATUS.STATE 0 ≠ 3) ∧
    (∃ (s : State) (w : Word), s.dueAll = s ∧ FuTaken s 8 w ∧ s.fld RG_STATUS.STATE 0 = 3 ∧ s.shadow.imgSeq < s.flash.boot.rigFloor) ∧
    (∃ (s : State) (w : Word), s.dueAll = s ∧ FuTaken s 9 w) ∧
    (∃ (s : State) (w : Word), let num := fun (k len : Nat) => beNat ((s.fuBuf k len).map BitVec.toNat);
     s.dueAll = s ∧ FuTaken s 10 w ∧ num 0 4 = 0x534B5256 ∧ num 4 1 ≤ 1 ∧ num 5 1 ≤ 3 ∧ num 6 1 ≤ 3 ∧ s.fault.chal = true ∧
     num 8 8 = s.fld DBG_CHAL_HI.CHAL 0 * 2 ^ 32 + s.fld DBG_CHAL_LO.CHAL 0 ∧ (s.keySlot (num 4 1 == 1) (num 6 1)).st = .loaded) ∧
    (∃ (s : State) (w : Word), s.dueAll = s ∧ FuTaken s 10 w ∧ s.fault.chal = false) ∧
    (∃ (s : State) (w : Word), s.dueAll = s ∧ FuTaken s 11 w ∧ bitAt (FU_CMD.ARG.of w) 2 = true) ∧
    (∃ (s : State) (w : Word), let arg := FU_CMD.ARG.of w; let a := arg % 65536; s.dueAll = s ∧ FuTaken s 12 w ∧ savable a = true ∧
     s.journalFull = false ∧ bitAt arg 16 = true) ∧
    (∃ (s : State) (w : Word), let arg := FU_CMD.ARG.of w; let a := arg % 65536; s.dueAll = s ∧ FuTaken s 12 w ∧ savable a = true ∧
     s.journalFull = false ∧ bitAt arg 16 = false) ∧
    (∃ (s : State) (w : Word), let a := FU_CMD.ARG.of w % 65536; s.dueAll = s ∧ FuTaken s 12 w ∧ savable a = false) ∧
    (∃ (s : State) (w : Word), let n := FU_CMD.ARG.of w % 16; s.dueAll = s ∧ FuTaken s 13 w ∧ n < 12 ∧ s.absentRail n = false ∧
     s.journalFull = false) ∧
    (∃ (s : State) (w : Word), let n := FU_CMD.ARG.of w % 16; s.dueAll = s ∧ FuTaken s 13 w ∧ n < 12 ∧ s.absentRail n = true) ∧
    (∃ (s : State) (w : Word), s.dueAll = s ∧ FuTaken s 13 w ∧ 12 ≤ FU_CMD.ARG.of w % 16) ∧
    (∃ (s : State) (w : Word), s.dueAll = s ∧ FuTaken s 14 w) := by
  refine ⟨⟨{ (up [(SV_STATUS.STATE, 0, 1), (RG_STATUS.STATE, 0, 3)]).modFlash (fun t =>
      { t with rigA := { t.rigA with bytes := memPutAll erased [] 0x0E [0, 0, 0, 0, 0, 0, 0, 0, 0, 0, 0, 0, 0, 0] } }) with
        shadow := { loaded := true } }, 0, ?_⟩,
    ⟨{ (up [(SV_STATUS.STATE, 0, 1), (RG_STATUS.STATE, 0, 3)]) with shadow := { loaded := true } }, 0, ?_⟩,
    ⟨up [(SV_STATUS.STATE, 0, 1)], 0, ?_⟩,
    ⟨(up [(SV_STATUS.STATE, 0, 1), (RG_STATUS.STATE, 0, 3)]).modFlash fun t => { t with boot := { t.boot with rigFloor := 1 } }, 0, ?_⟩,
    ⟨up [(SV_STATUS.STATE, 0, 1)], BitVec.ofNat 32 19, ?_⟩,
    ⟨tokened, 0, ?_⟩,
    ⟨up [(SV_STATUS.STATE, 0, 1)], 0, ?_⟩,
    ⟨up [(SV_STATUS.STATE, 0, 1)], BitVec.ofNat 32 7, ?_⟩,
    ⟨up [(SV_STATUS.STATE, 0, 1)], BitVec.ofNat 32 (65536 + 0x414), ?_⟩,
    ⟨up [(SV_STATUS.STATE, 0, 1)], BitVec.ofNat 32 0x414, ?_⟩,
    ⟨up [(SV_STATUS.STATE, 0, 1)], BitVec.ofNat 32 0, ?_⟩,
    ⟨up [(SV_STATUS.STATE, 0, 1)], BitVec.ofNat 32 11, ?_⟩,
    ⟨{ (up [(SV_STATUS.STATE, 0, 1)]) with small := true }, BitVec.ofNat 32 11, ?_⟩,
    ⟨up [(SV_STATUS.STATE, 0, 1)], BitVec.ofNat 32 12, ?_⟩,
    ⟨up [(SV_STATUS.STATE, 0, 1)], 0, ?_⟩⟩
  all_goals (with_reducible refine ⟨State.dueAll_idle _ ?_, ?_⟩) <;> decide +kernel

theorem witness_BusySupervisorRefuses :
    (∃ (s : State) (w : Word) (c : Nat) (i : Instr), s.dueAll = s ∧
     (c, i) ∈ [(1, Instr.fwopen w), (2, .fwwrite w), (3, .fwclose w), (4, .fwact
     w), (6, .commit w), (8, .rigsave w), (9, .keyload w), (10, .keyrevoke w), (11, .lock w), (12, .setsave w), (13,
     .modelsave w), (14, .setdef w)] ∧ Taken s .FU_CMD 0 (withCmd w c) ∧ s.svRuns = true ∧ s.flag FU_STATUS.BUSY 0 = true) := by
  refine ⟨up [(SV_STATUS.STATE, 0, 1), (FU_STATUS.BUSY, 0, 1)], 0, 14, .setdef 0, ?_⟩
  all_goals (with_reducible refine ⟨State.dueAll_idle _ ?_, ?_⟩) <;> decide +kernel

theorem witness_FlashAndLogbook :
    (∃ (s : State) (x : Nat) (l : List Nat) (cmd : Bool) (r : List FlashOp), s.power.mode = .running ∧
     s.flash.ops = .erase (x :: l) cmd :: r ∧ x < 512 ∧ l ≠ [] ∧ (s.flash.erases.head + 2) % 256 ≠ 254) ∧
    (∃ (s : State) (x : Nat) (l : List Nat) (cmd : Bool) (r : List FlashOp), s.power.mode = .running ∧
     s.flash.ops = .erase (x :: l) cmd :: r ∧ 512 ≤ x ∧ x < 640 ∧ l = [] ∧ cmd = true ∧ (s.flash.erases.head + 2) % 256 = 254) ∧
    (∃ (s : State) (b : Bool) (ofs : Nat) (d : List Byte) (r : List FlashOp), s.power.mode = .running ∧
     s.flash.ops = .program b ofs d :: r) ∧
    (∃ (s : State) (b : Bool) (k : Nat) (d : List Byte) (id : Nat) (sg : Bool) (r : List FlashOp), s.power.mode = .running ∧
     s.flash.ops = .rigsave b k d id sg :: r ∧ k < 64) ∧
    (∃ (s : State) (b : Bool) (k : Nat) (d : List Byte) (id : Nat) (sg : Bool) (r : List FlashOp), s.power.mode = .running ∧
     s.flash.ops = .rigsave b k d id sg :: r ∧ 64 ≤ k ∧ (k - 63) * 128 < d.length) ∧
    (∃ (s : State) (b : Bool) (k : Nat) (d : List Byte) (id : Nat) (sg : Bool) (r : List FlashOp), s.power.mode = .running ∧
     s.flash.ops = .rigsave b k d id sg :: r ∧ 64 ≤ k ∧ d.length ≤ (k - 63) * 128) ∧
    (∃ (s : State) (e : FlashRec) (cmd : Bool) (r : List FlashOp), s.power.mode = .running ∧ s.flash.ops = .record e cmd :: r ∧
     s.headUsed e.region = true) ∧
    (∃ (s : State) (e : FlashRec) (cmd : Bool) (r : List FlashOp), s.power.mode = .running ∧ s.flash.ops = .record e cmd :: r ∧
     s.headUsed e.region = false ∧ cmd = false ∧ e.region ≠ .logbook) ∧
    (∃ (s : State) (e : FlashRec) (cmd : Bool) (r : List FlashOp), s.power.mode = .running ∧ s.flash.ops = .record e cmd :: r ∧
     s.headUsed e.region = false ∧ e.region = .logbook) ∧
    (∃ (s : State) (p : Provision) (cmd : Bool) (r : List FlashOp), s.power.mode = .running ∧ s.flash.ops = .provision p cmd :: r) ∧
    (∃ (s : State) (seq : Nat) (e : LogRec) (x : Nat) (r : List FlashOp), s.power.mode = .running ∧
     s.flash.ops = .clearLog seq e 0 x :: r) ∧
    (∃ (s : State) (seq : Nat) (e : LogRec) (x : Nat) (r : List FlashOp), s.power.mode = .running ∧
     s.flash.ops = .clearLog seq e 1 x :: r) ∧
    (∃ (s : State) (seq : Nat) (e : LogRec) (k x : Nat) (r : List FlashOp), s.power.mode = .running ∧
     s.flash.ops = .clearLog seq e (k + 2) x :: r ∧ k = 61 ∧
     (s.flash.valid .logbook).any (fun d => Region.logbook.sectorOf d.1 == 768 + (x + k + 1) % 64 &&
      decide (seq < Region.logbook.seqOf d.2)) = true) ∧
    (∃ (s : State) (seq : Nat) (e : LogRec) (k x : Nat) (r : List FlashOp), s.power.mode = .running ∧
     s.flash.ops = .clearLog seq e (k + 2) x :: r ∧ k = 62 ∧
     (s.flash.valid .logbook).any (fun d => Region.logbook.sectorOf d.1 == 768 + (x + k + 1) % 64 &&
      decide (seq < Region.logbook.seqOf d.2)) = false) ∧
    (∃ (s : State) (x : LogRec) (q : List LogRec), s.power.mode = .running ∧ s.log.queue = x :: q ∧ s.svRuns = true) ∧
    (∃ (s : State) (p : Fin 48), s.power.mode = .running ∧ s.svRuns = true ∧
     keptNat s.flash.wearSaved p ≠ (s.phase p).wear / 2 ^ 12 % 2 ^ 32) ∧
    (∃ (s : State) (w : Word), s.dueAll = s ∧ Taken s .LB_CTRL 0 (withCmd w 1)) := by
  refine ⟨⟨busy [.erase [511, 510] true], 511, [510], true, [], ?_⟩,
    ⟨(busy [.erase [639] true]).modRing .erases fun r => { r with head := 252 }, 639, [], true, [], ?_⟩,
    ⟨busy [.program true 1048448 [0]], true, 1048448, [0], [], ?_⟩,
    ⟨busy [.rigsave true 63 [0] 1 false], true, 63, [0], 1, false, [], ?_⟩,
    ⟨busy [.rigsave true 64 (List.replicate 129 0) 1 false], true, 64, List.replicate 129 0, 1, false, [], ?_⟩,
    ⟨busy [.rigsave true 64 (List.replicate 128 0) 1 false], true, 64, List.replicate 128 0, 1, false, [], ?_⟩,
    ⟨(busy [.record (.counter 1 54 9) false]).modRing .counters fun r => { r with recs := [(0, [])] }, .counter 1 54 9, false, [], ?_⟩,
    ⟨busy [.record (.counter 1 54 9) false], .counter 1 54 9, false, [], ?_⟩,
    ⟨busy [.record (.log 1 { src := 0, elem := 0, cls := 1 }) false], .log 1 { src := 0, elem := 0, cls := 1 }, false, [], ?_⟩,
    ⟨busy [.provision (.locks true true) true], .locks true true, true, [], ?_⟩,
    ⟨busy [.clearLog 7 { src := 0x17, elem := 0xFF, cls := 0 } 0 0], 7, { src := 0x17, elem := 0xFF, cls := 0 }, 0, [], ?_⟩,
    ⟨busy [.clearLog 7 { src := 0x17, elem := 0xFF, cls := 0 } 1 0], 7, { src := 0x17, elem := 0xFF, cls := 0 }, 0, [], ?_⟩,
    ⟨(busy [.clearLog 7 { src := 0x17, elem := 0xFF, cls := 0 } 63 3]).modRing .logbook fun r =>
      { r with recs := [(64, (FlashRec.log 8 { src := 0, elem := 0, cls := 1 }).bytes)] },
      7, { src := 0x17, elem := 0xFF, cls := 0 }, 61, 3, [], ?_⟩,
    ⟨busy [.clearLog 7 { src := 0x17, elem := 0xFF, cls := 0 } 64 3], 7, { src := 0x17, elem := 0xFF, cls := 0 }, 62, 3, [], ?_⟩,
    ⟨(up [(SV_STATUS.STATE, 0, 1)]).modLog fun t => { t with queue := [{ src := 0, elem := 0, cls := 1 }] },
      { src := 0, elem := 0, cls := 1 }, [], ?_⟩,
    ⟨(up [(SV_STATUS.STATE, 0, 1)]).modPhase 47 fun x => { x with wear := 4096 }, 47, ?_⟩,
    ⟨up [(SV_STATUS.STATE, 0, 1)], 0, ?_⟩⟩
  all_goals first
    | (with_reducible refine ⟨State.dueAll_idle _ ?_, ?_⟩) <;> decide +kernel
    | decide +kernel

theorem witness_RetirementClears :
    (∃ (s : State) (w : Word) (p : Fin 48), let e := (FM_CMD.ELEM.of w); s.dueAll = s ∧ Taken s .FM_CMD 0 (withCmd w 1) ∧ e = p.val ∧
     s.phClearable p = true) ∧
    (∃ (s : State) (w : Word) (p : Fin 48), let e := (FM_CMD.ELEM.of w); s.dueAll = s ∧ Taken s .FM_CMD 0 (withCmd w 1) ∧ e = p.val ∧
     s.phClearable p = false) ∧
    (∃ (s : State) (w : Word), let e := (FM_CMD.ELEM.of w); s.dueAll = s ∧ Taken s .FM_CMD 0 (withCmd w 1) ∧ 48 ≤ e) ∧
    (∃ (s : State) (w : Word) (k : Fin 32), let e := (FM_CMD.ELEM.of w); s.dueAll = s ∧ Taken s .FM_CMD 0 (withCmd w 2) ∧ e = k.val ∧ s.flag
     ST_CFG.RETIRED k = true) ∧
    (∃ (s : State) (w : Word) (k : Fin 32), let e := (FM_CMD.ELEM.of w); s.dueAll = s ∧ Taken s .FM_CMD 0 (withCmd w 2) ∧ e = k.val ∧ s.flag
     ST_CFG.RETIRED k = false) ∧
    (∃ (s : State) (w : Word), let e := (FM_CMD.ELEM.of w); s.dueAll = s ∧ Taken s .FM_CMD 0 (withCmd w 2) ∧ 32 ≤ e) ∧
    (∃ (s : State) (w : Word) (n : Fin 12), let e := (FM_CMD.ELEM.of w); s.dueAll = s ∧ Taken s .FM_CMD 0 (withCmd w 3) ∧ e = n.val ∧
     s.railClearable n = true) ∧
    (∃ (s : State) (w : Word) (n : Fin 12), let e := (FM_CMD.ELEM.of w); s.dueAll = s ∧ Taken s .FM_CMD 0 (withCmd w 3) ∧ e = n.val ∧
     s.railClearable n = false) ∧
    (∃ (s : State) (w : Word), let e := (FM_CMD.ELEM.of w); s.dueAll = s ∧ Taken s .FM_CMD 0 (withCmd w 3) ∧ 12 ≤ e) ∧
    (∃ (s : State) (w : Word), s.dueAll = s ∧ Taken s .FM_CMD 0 (withCmd w 4) ∧
     ((∃ p : Fin 48, s.phClearable p = true) ∨ (∃ k : Fin 32, s.flag
     ST_CFG.RETIRED k = true) ∨ (∃ n : Fin 12, s.railClearable n = true))) ∧
    (∃ (s : State) (w : Word), s.dueAll = s ∧ Taken s .FM_CMD 0 (withCmd w 4) ∧ (∀ p : Fin 48, s.phClearable p = false) ∧
     (∀ k : Fin 32, s.flag
     ST_CFG.RETIRED k = false) ∧ (∀ n : Fin 12, s.railClearable n = false)) := by
  refine ⟨⟨(up [(FM_RETP_HI.RET, 0, 32768)]).setFld PH_MSTAT.STATE 47 phRetired, BitVec.ofNat 32 47, 47, ?_⟩,
    ⟨up [], BitVec.ofNat 32 47, 47, ?_⟩,
    ⟨up [], BitVec.ofNat 32 48, ?_⟩,
    ⟨up [(ST_CFG.RETIRED, 31, 1)], BitVec.ofNat 32 31, 31, ?_⟩,
    ⟨up [], BitVec.ofNat 32 0, 0, ?_⟩,
    ⟨up [], BitVec.ofNat 32 32, ?_⟩,
    ⟨up [(RL_STATUS.STATE, 11, stRetired), (PH_PCFG.RAIL, 0, 11)], BitVec.ofNat 32 11, 11, ?_⟩,
    ⟨up [], BitVec.ofNat 32 11, 11, ?_⟩,
    ⟨up [], BitVec.ofNat 32 12, ?_⟩,
    ⟨(up [(FM_RETP_HI.RET, 0, 32768)]).setFld PH_MSTAT.STATE 47 phRetired, 0, ?_⟩,
    ⟨up [], 0, ?_⟩⟩
  all_goals (with_reducible refine ⟨State.dueAll_idle _ ?_, ?_⟩) <;> decide +kernel

theorem witness_WatchdogAndDrift :
    (∃ (s : State), s.power.mode = .running ∧ s.svRuns = true ∧ s.flash.trial = none) ∧
    (∃ (s : State) (t : Nat), s.power.mode = .running ∧ s.tele.driftAt0 = some t ∧ s.flag CV_STATUS.TC0DRIFT 0 = true ∧
     s.tele.driftPerm0 = false) ∧
    (∃ (s : State) (t : Nat), s.power.mode = .running ∧ s.tele.driftAt1 = some t ∧ s.flag CV_STATUS.TC1DRIFT 0 = true ∧
     s.tele.driftPerm1 = false) := by
  refine ⟨⟨up [(SV_STATUS.STATE, 0, 1)], ?_⟩,
    ⟨(up [(CV_STATUS.TC0DRIFT, 0, 1)]).modTele fun t => { t with driftAt0 := some 0 }, 0, ?_⟩,
    ⟨(up [(CV_STATUS.TC1DRIFT, 0, 1)]).modTele fun t => { t with driftAt1 := some 0 }, 0, ?_⟩⟩
  all_goals decide +kernel

theorem witness_TraceRings :
    (∃ (s : State) (n : Fin 12) (src : Nat), s.power.mode = .running ∧ s.trace[n].post = some (0, src)) ∧
    (∃ (s : State) (w : Word), s.dueAll = s ∧ Taken s .TR_CMD 0 (withCmd w 1)) ∧
    (∃ (s : State) (w : Word), s.dueAll = s ∧ Taken s .TR_CMD 0 (withCmd w 2)) ∧
    (∃ (s : State), s.dueAll = s ∧ s.ready = true ∧ s.power.mode = .running ∧ s.fld DBG_STATUS.LEVEL 0 = 0) ∧
    (∃ (s : State) (a : Nat), s.dueAll = s ∧ s.ready = true ∧ s.power.mode = .running ∧ s.fld DBG_STATUS.LEVEL 0 = 0 ∧
     20 ≤ a % 0x8000 / 4) := by
  refine ⟨⟨(up []).modTrace 11 fun t => { t with post := some (0, 3) }, 11, 3, ?_⟩,
    ⟨up [], 0, ?_⟩,
    ⟨up [], 0, ?_⟩,
    ⟨up [], ?_⟩,
    ⟨up [], 0x8050, ?_⟩⟩
  all_goals first
    | (with_reducible refine ⟨State.dueAll_idle _ ?_, ?_⟩) <;> decide +kernel
    | decide +kernel

theorem witness_Replay :
    (∃ (s : State) (w : Word), let k := (strandOf (RP_CTRL.STRAND.of w)); s.dueAll = s ∧ Taken s .RP_CTRL 0 (withCmd w 1) ∧
     s.spare k = false) ∧
    (∃ (s : State) (w : Word), let k := (strandOf (RP_CTRL.STRAND.of w)); let rail := (RP_CTRL.RAIL.of w); s.dueAll = s ∧ Taken s .RP_CTRL 0
     (withCmd w 1) ∧ s.spare k = true ∧ (12 ≤ rail ∨ s.absentRail rail = true ∨ s.frozen (railOf rail) = false)) ∧
    (∃ (s : State) (w : Word), let k := (strandOf (RP_CTRL.STRAND.of w)); let rail := (RP_CTRL.RAIL.of w); let slot :=
     (RP_CTRL.CKPT.of w); s.dueAll = s ∧ Taken s .RP_CTRL 0 (withCmd w 1) ∧ s.spare k = true ∧ rail < 12 ∧ s.absentRail rail = false ∧
     s.frozen (railOf rail) = true ∧
     s.replayRecords (railOf rail) slot = none) ∧
    (∃ (s : State) (w : Word) (rs : List (List Nat)), let k := (strandOf (RP_CTRL.STRAND.of w)); let rail := (RP_CTRL.RAIL.of w);
     let slot := (RP_CTRL.CKPT.of w); let changed := ((rs.drop 1).any fun r => bitAt (r.getD 2 0) 30); s.dueAll = s ∧ Taken s .RP_CTRL 0
     (withCmd w 1) ∧ s.spare k = true ∧ rail < 12 ∧ s.absentRail rail = false ∧ s.frozen (railOf rail) = true ∧
     s.replayRecords (railOf rail) slot =
     some rs ∧ RP_CTRL.CFGSRC.of w = 0 ∧ changed = true) ∧
    (∃ (s : State) (w : Word) (rs : List (List Nat)), let k := (strandOf (RP_CTRL.STRAND.of w)); let rail := (RP_CTRL.RAIL.of w);
     let slot := (RP_CTRL.CKPT.of w); let changed := ((rs.drop 1).any fun r => bitAt (r.getD 2 0) 30); s.dueAll = s ∧ Taken s .RP_CTRL 0
     (withCmd w 1) ∧ s.spare k = true ∧ rail < 12 ∧ s.absentRail rail = false ∧ s.frozen (railOf rail) = true ∧
     s.replayRecords (railOf rail) slot =
     some rs ∧ (RP_CTRL.CFGSRC.of w = 1 ∨ changed = false)) ∧
    (∃ (s : State) (w : Word) (x : ReplayX), s.dueAll = s ∧ s.fault.replay = some x ∧ Taken s .RP_CTRL 0 (withCmd w 2)) ∧
    (∃ (s : State) (x : ReplayX), s.fault.replay = some x ∧ s.power.mode = .running) ∧
    (∃ (s : State) (w : Word), let k := strandOf (RP_CTRL.STRAND.of w); let rail := RP_CTRL.RAIL.of w; s.dueAll = s ∧
     Taken s .RP_CTRL 0 (withCmd w 1) ∧ s.spare k = true ∧ s.absentRail rail = true) := by
  refine ⟨⟨up [(ST_CFG.ROLE, 0, 1)], 0, ?_⟩,
    ⟨up [], word [(RP_CTRL.RAIL, 12)], ?_⟩,
    ⟨up [(TR_STATUS.FROZEN, 0, 2048)], word [(RP_CTRL.RAIL, 11)], ?_⟩,
    ⟨(up [(TR_STATUS.FROZEN, 0, 2048)]).modTrace 11 fun t =>
      { t with slots := [List.replicate 15 0 ++ [crcWords (List.replicate 15 0)]]
               ring := [[0, 0, 0, 0, 0, 0, 2147483648, 0], [0, 0, 1073741824, 0, 0, 1, 2147483648, 0]] },
      word [(RP_CTRL.RAIL, 11)], [[0, 0, 0, 0, 0, 0, 2147483648, 0], [0, 0, 1073741824, 0, 0, 1, 2147483648, 0]], ?_⟩,
    ⟨(up [(TR_STATUS.FROZEN, 0, 2048)]).modTrace 11 fun t =>
      { t with slots := [List.replicate 15 0 ++ [crcWords (List.replicate 15 0)]]
               ring := [[0, 0, 0, 0, 0, 0, 2147483648, 0], [0, 0, 1073741824, 0, 0, 1, 2147483648, 0]] },
      word [(RP_CTRL.RAIL, 11), (RP_CTRL.CFGSRC, 1)], [[0, 0, 0, 0, 0, 0, 2147483648, 0], [0, 0, 1073741824, 0, 0, 1,
      2147483648, 0]], ?_⟩,
    ⟨(up []).modFault fun t => { t with replay := some { strand := 0, rail := 0, slot := 0, cfgsrc := false, count := 0 } }, 0,
      { strand := 0, rail := 0, slot := 0, cfgsrc := false, count := 0 }, ?_⟩,
    ⟨(up []).modFault fun t => { t with replay := some { strand := 0, rail := 0, slot := 0, cfgsrc := false, count := 0 } },
      { strand := 0, rail := 0, slot := 0, cfgsrc := false, count := 0 }, ?_⟩,
    ⟨{ (up []) with small := true }, word [(RP_CTRL.RAIL, 11)], ?_⟩⟩
  all_goals first
    | (with_reducible refine ⟨State.dueAll_idle _ ?_, ?_⟩) <;> decide +kernel
    | decide +kernel

theorem witness_DebugUnlock :
    (∃ (s : State) (w : Word), s.dueAll = s ∧ Taken s .DBG_CMD 0 (withCmd w 1) ∧ s.flag DBG_STATUS.BLOCK 0 = false) ∧
    (∃ (s : State) (w : Word), let bytes := s.fault.token.toList.flatMap fun x => bytesBE x.toNat;
     let num := fun (off n : Nat) => beNat ((bytes.drop off).take n);
     s.dueAll = s ∧ Taken s .DBG_CMD 0 (withCmd w 2) ∧ s.flag DBG_STATUS.BLOCK 0 = false ∧ s.fault.chal = true ∧ num 0 4 = 0x534B4455 ∧
     num 4 1 ≤ 3 ∧ (num 5 1 = 1 ∨ num 5 1 = 2) ∧ num 6 2 = 0 ∧
     num 8 8 = s.fld DBG_CHAL_HI.CHAL 0 * 2 ^ 32 + s.fld DBG_CHAL_LO.CHAL 0 ∧ (s.keySlot true (num 4 1)).st = .loaded) ∧
    (∃ (s : State) (w : Word), s.dueAll = s ∧ Taken s .DBG_CMD 0 (withCmd w 2) ∧ s.flag DBG_STATUS.BLOCK 0 = false ∧
     s.fault.chal = false ∧ 2 ≤ s.fld DBG_STATUS.FAILCNT 0) ∧
    (∃ (s : State) (w : Word), s.dueAll = s ∧ Taken s .DBG_CMD 0 (withCmd w 2) ∧ s.flag DBG_STATUS.BLOCK 0 = true) ∧
    (∃ (s : State) (w : Word), s.dueAll = s ∧ Taken s .DBG_CMD 0 (withCmd w 3)) ∧
    (∃ (s : State), s.power.mode = .running ∧ s.flag DBG_STATUS.BLOCK 0 = true) := by
  refine ⟨⟨up [], 0, ?_⟩,
    ⟨((up [(DBG_CHAL_HI.CHAL, 0, 0x01020304), (DBG_CHAL_LO.CHAL, 0, 0x05060708)]).modFlash fun t =>
        { t with debugKeys := t.debugKeys.set 3 { st := .loaded } }).modFault fun t =>
        { t with chal := true, token := (((t.token.set 0 0x534B4455).set 1 0x03020000).set 2 0x01020304).set 3 0x05060708 }, 0, ?_⟩,
    ⟨up [(DBG_STATUS.FAILCNT, 0, 2)], 0, ?_⟩,
    ⟨up [(DBG_STATUS.BLOCK, 0, 1)], 0, ?_⟩,
    ⟨up [], 0, ?_⟩,
    ⟨up [(DBG_STATUS.BLOCK, 0, 1)], ?_⟩⟩
  all_goals first
    | (with_reducible refine ⟨State.dueAll_idle _ ?_, ?_⟩) <;> decide +kernel
    | decide +kernel

theorem witness_RiggingCommands :
    (∃ (s : State) (w : Word), let st := (s.fld RG_STATUS.STATE 0); s.dueAll = s ∧ Taken s .RG_CMD 0 (rgWord w 1) ∧ st ≠ rgPending ∧ st ≠
     rgChecking) ∧
    (∃ (s : State) (w : Word), let st := (s.fld RG_STATUS.STATE 0); s.dueAll = s ∧ Taken s .RG_CMD 0 (rgWord w 1) ∧ st = rgPending) ∧
    (∃ (s : State) (w : Word), let st := (s.fld RG_STATUS.STATE 0); s.dueAll = s ∧ Taken s .RG_CMD 0 (rgWord w 1) ∧ st = rgChecking) ∧
    (∃ (s : State) (w : Word), let st := (s.fld RG_STATUS.STATE 0); s.dueAll = s ∧ Taken s .RG_CMD 0 (rgWord w 2) ∧ st ≠ rgPending) ∧
    (∃ (s : State) (w : Word), let st := (s.fld RG_STATUS.STATE 0); s.dueAll = s ∧ Taken s .RG_CMD 0 (rgWord w 2) ∧ st = rgPending) ∧
    (∃ (s : State) (w : Word), let st := (s.fld RG_STATUS.STATE 0); s.dueAll = s ∧ Taken s .RG_CMD 0 (rgWord w 3) ∧ st = rgReady ∧
     s.swapBroken
     = none ∧ s.T + 4351 < 2 ^ 60) ∧
    (∃ (s : State) (w : Word) (e : Nat × Nat), let st := (s.fld RG_STATUS.STATE 0); s.dueAll = s ∧ Taken s .RG_CMD 0 (rgWord w 3) ∧
     st = rgReady
     ∧ s.swapBroken = some e ∧ e.1 < 256 ∧ s.T + 4351 < 2 ^ 60) ∧
    (∃ (s : State) (w : Word), let st := (s.fld RG_STATUS.STATE 0); s.dueAll = s ∧ Taken s .RG_CMD 0 (rgWord w 3) ∧ st ≠ rgReady ∧ st ≠
     rgPending) ∧
    (∃ (s : State) (w : Word), let st := (s.fld RG_STATUS.STATE 0); s.dueAll = s ∧ Taken s .RG_CMD 0 (rgWord w 3) ∧ st = rgPending) ∧
    (∃ (s : State) (w : Word), let st := (s.fld RG_STATUS.STATE 0); let epoch := (s.fld RG_SWAPE_HI.EPOCH_H 0 * 2 ^ 32 + s.fld
     RG_SWAPE_LO.EPOCH_L 0); s.dueAll = s ∧ Taken s .RG_CMD 0 (rgWord w 4) ∧ st = rgReady ∧ s.swapBroken = none ∧ 256 ≤ s.ticksTo epoch) ∧
    (∃ (s : State) (w : Word), let st := (s.fld RG_STATUS.STATE 0); let epoch := (s.fld RG_SWAPE_HI.EPOCH_H 0 * 2 ^ 32 + s.fld
     RG_SWAPE_LO.EPOCH_L 0); s.dueAll = s ∧ Taken s .RG_CMD 0 (rgWord w 4) ∧ st = rgReady ∧ s.ticksTo epoch < 256) ∧
    (∃ (s : State) (w : Word) (e : Nat × Nat), let st := (s.fld RG_STATUS.STATE 0); let epoch := (s.fld RG_SWAPE_HI.EPOCH_H 0 * 2
     ^ 32 + s.fld RG_SWAPE_LO.EPOCH_L 0); s.dueAll = s ∧ Taken s .RG_CMD 0 (rgWord w 4) ∧ st = rgReady ∧ 256 ≤ s.ticksTo epoch ∧
     s.swapBroken = some e ∧ e.1 < 256) ∧
    (∃ (s : State) (w : Word), let st := (s.fld RG_STATUS.STATE 0); s.dueAll = s ∧ Taken s .RG_CMD 0 (rgWord w 4) ∧ st ≠ rgReady ∧ st ≠
     rgPending) ∧
    (∃ (s : State) (w : Word), let st := (s.fld RG_STATUS.STATE 0); s.dueAll = s ∧ Taken s .RG_CMD 0 (rgWord w 4) ∧ st = rgPending) ∧
    (∃ (s : State) (w : Word) (r : SwapReq), s.dueAll = s ∧ Taken s .RG_CMD 0 (rgWord w 5) ∧ s.rig.swap = some r ∧ 256 ≤ s.ticksTo r.epoch) ∧
    (∃ (s : State) (w : Word) (r : SwapReq), s.dueAll = s ∧ Taken s .RG_CMD 0 (rgWord w 5) ∧ s.rig.swap = some r ∧ s.ticksTo r.epoch < 256) ∧
    (∃ (s : State) (w : Word), s.dueAll = s ∧ Taken s .RG_CMD 0 (rgWord w 5) ∧ s.rig.swap = none) ∧
    (∃ (s : State) (w : Word), let st := (s.fld RG_STATUS.STATE 0); s.dueAll = s ∧ Taken s .RG_CMD 0 (rgWord w 6) ∧ st ≠ rgPending ∧ st ≠
     rgChecking) ∧
    (∃ (s : State) (w : Word), let st := (s.fld RG_STATUS.STATE 0); s.dueAll = s ∧ Taken s .RG_CMD 0 (rgWord w 6) ∧ st = rgPending) ∧
    (∃ (s : State) (w : Word), let st := (s.fld RG_STATUS.STATE 0); s.dueAll = s ∧ Taken s .RG_CMD 0 (rgWord w 6) ∧ st = rgChecking) := by
  refine ⟨⟨up [], 0, ?_⟩,
    ⟨up [(RG_STATUS.STATE, 0, rgPending)], 0, ?_⟩,
    ⟨up [(RG_STATUS.STATE, 0, rgChecking)], 0, ?_⟩,
    ⟨up [], 0, ?_⟩,
    ⟨up [(RG_STATUS.STATE, 0, rgPending)], 0, ?_⟩,
    ⟨up [(RG_STATUS.STATE, 0, rgReady)], 0, ?_⟩,
    ⟨up [(RG_STATUS.STATE, 0, rgReady), (RL_STATUS.STATE, 0, stFault)], 0, (0x22, 0), ?_⟩,
    ⟨up [], 0, ?_⟩,
    ⟨up [(RG_STATUS.STATE, 0, rgPending)], 0, ?_⟩,
    ⟨{ (up [(RG_STATUS.STATE, 0, rgReady), (RG_SWAPE_LO.EPOCH_L, 0, 1)]) with now := 3840 }, 0, ?_⟩,
    ⟨{ (up [(RG_STATUS.STATE, 0, rgReady), (RG_SWAPE_LO.EPOCH_L, 0, 1)]) with now := 3841 }, 0, ?_⟩,
    ⟨(up [(RG_STATUS.STATE, 0, rgReady), (RL_STATUS.STATE, 0, stFault), (RG_SWAPE_LO.EPOCH_L, 0, 100)]), 0, (0x22, 0), ?_⟩,
    ⟨up [], 0, ?_⟩,
    ⟨up [(RG_STATUS.STATE, 0, rgPending)], 0, ?_⟩,
    ⟨{ ((up [(RG_STATUS.STATE, 0, rgPending)]).modRig fun t => { t with swap := some { epoch := 1 } }) with now := 3840 }, 0,
      { epoch := 1 }, ?_⟩,
    ⟨{ ((up [(RG_STATUS.STATE, 0, rgPending)]).modRig fun t => { t with swap := some { epoch := 1 } }) with now := 3841 }, 0,
      { epoch := 1 }, ?_⟩,
    ⟨up [], 0, ?_⟩,
    ⟨up [], 0, ?_⟩,
    ⟨up [(RG_STATUS.STATE, 0, rgPending)], 0, ?_⟩,
    ⟨up [(RG_STATUS.STATE, 0, rgChecking)], 0, ?_⟩⟩
  all_goals (with_reducible refine ⟨State.dueAll_idle _ ?_, ?_⟩) <;> decide +kernel

theorem witness_StagingWindow :
    (∃ (s : State), let st := (s.fld RG_STATUS.STATE 0); s.dueAll = s ∧ s.ready = true ∧ s.power.mode = .running ∧ (st = rgStaging ∨ st =
     rgReady)) ∧
    (∃ (s : State), let st := (s.fld RG_STATUS.STATE 0); s.dueAll = s ∧ s.ready = true ∧ s.power.mode = .running ∧ st ≠ rgStaging ∧
     st ≠ rgReady) := by
  refine ⟨⟨up [(RG_STATUS.STATE, 0, rgReady), (RG_PAGE.PAGE, 0, 3)], ?_⟩,
    ⟨up [], ?_⟩⟩
  all_goals (with_reducible refine ⟨State.dueAll_idle _ ?_, ?_⟩) <;> decide +kernel

theorem witness_CheckAndSwap :
    (∃ (s : State), s.power.mode = .running ∧ s.fld RG_STATUS.STATE 0 = rgChecking ∧ s.svRuns = true) ∧
    (∃ (s : State) (r : SwapReq) (e : Nat × Nat), let t := (s.advance (s.now + (s.ticksTo r.epoch).toNat)); s.power.mode =
     .running ∧ s.rig.swap = some r ∧ r.act = none ∧ t.swapBroken = some e) ∧
    (∃ (s : State) (r : SwapReq), let t := (s.advance (s.now + (s.ticksTo r.epoch).toNat)); s.power.mode = .running ∧ s.rig.swap
     = some r ∧ r.act = none ∧ t.swapBroken = none ∧ s.shadow.presets = []) := by
  refine ⟨⟨up [(RG_STATUS.STATE, 0, rgChecking), (SV_STATUS.STATE, 0, 1)], ?_⟩,
    ⟨(up [(RG_STATUS.STATE, 0, rgPending), (RL_STATUS.STATE, 0, stFault)]).modRig fun t =>
      { t with swap := some { epoch := 1 } }, { epoch := 1 }, (0x22, 0), ?_⟩,
    ⟨(up [(RG_STATUS.STATE, 0, rgPending)]).modRig fun t => { t with swap := some { epoch := 1 } }, { epoch := 1 }, ?_⟩⟩
  all_goals decide +kernel

theorem witness_Scrubbing :
    (∃ s : State, s.power.mode = .running ∧ s.flag RG_CTRL.SCRUBEN 0 = true) ∧
    (∃ s : State, s.power.mode = .running ∧ s.flag RG_CTRL.SCRUBEN 0 = false) ∧
    (∃ (s : State) (n : Fin 12), s.power.mode = .running ∧ s.rst n ≠ stFault ∧ CanFault (s.unmove n) n ∧
     (s.slotCopyOk false || s.slotCopyOk true) = false) ∧
    (∃ s : State, s.power.mode = .running ∧ s.rig.swap ≠ none) := by
  refine ⟨⟨up [(RG_CTRL.SCRUBEN, 0, 1)], ?_⟩,
    ⟨up [(RG_CTRL.SCRUBEN, 0, 0)], ?_⟩,
    ⟨up [(RL_STATUS.STATE, 11, stRegulate)], 11, ?_⟩,
    ⟨(up [(RG_STATUS.STATE, 0, rgPending)]).modRig fun t => { t with swap := some { epoch := 1 } }, ?_⟩⟩
  all_goals decide +kernel

theorem witness_SelfTests :
    (∃ (s : State) (k : Fin 32), s.power.mode = .running ∧ (s.idleSpare k = true ∨ ((s.strand k).probation = true ∧ s.fld
     ST_CFG.STATE k = 0 ∧ s.flag ST_CFG.RETIRED k = false))) ∧
    (∃ (s : State) (k : Fin 32) (w : Word), s.dueAll = s ∧ Taken s .ST_TEST k (withCmd w 1) ∧ s.idleSpare k = true) ∧
    (∃ (s : State) (k : Fin 32), s.power.mode = .running ∧ s.fld ST_CFG.STATE k = 2 ∧ 1 ≤ (s.strand k).failRun) ∧
    (∃ (s : State) (k : Fin 32), s.power.mode = .running ∧ s.fld ST_CFG.STATE k = 2 ∧ (s.strand k).failRun = 0) := by
  refine ⟨⟨up [], 31, ?_⟩,
    ⟨up [], 0, 0, ?_⟩,
    ⟨(up [(ST_CFG.STATE, 31, 2)]).modStrand 31 fun t => { t with failRun := 1 }, 31, ?_⟩,
    ⟨up [(ST_CFG.STATE, 0, 2)], 0, ?_⟩⟩
  all_goals first
    | (with_reducible refine ⟨State.dueAll_idle _ ?_, ?_⟩) <;> decide +kernel
    | decide +kernel

theorem witness_StrandSamples :
    (∃ (s : State) (n : Fin 12) (x : Sample) (r : List Sample), s.power.mode = .running ∧ (s.rail n).loop.jobs = x :: r ∧ (s.rail
     n).loop.takeover = false ∧ (s.rail n).loop.started = false) ∧
    (∃ (s : State) (n : Fin 12) (x : Sample) (r : List Sample) (tapsA : Nat) (tapsB : Nat), let taps := (if (s.working n).length
     = 2 then max tapsA tapsB else tapsA); s.power.mode = .running ∧ (s.rail n).loop.jobs = x :: r ∧ (s.rail
     n).loop.takeover = false ∧ (s.rail n).loop.started = true ∧ (s.rail n).loop.rerun = false ∧ x.missed = false ∧ taps ≤
     512 ∧ s.flag TB_RSMP.DETLATCH n = false) ∧
    (∃ (s : State) (n : Fin 12) (x : Sample) (r : List Sample) (tapsA : Nat) (tapsB : Nat), let taps := (if (s.working n).length
     = 2 then max tapsA tapsB else tapsA); s.power.mode = .running ∧ (s.rail n).loop.jobs = x :: r ∧ (s.rail
     n).loop.takeover = false ∧ (s.rail n).loop.started = true ∧ (s.rail n).loop.rerun = false ∧ x.missed = false ∧ taps ≤
     512 ∧ s.flag TB_RSMP.DETLATCH n = true) ∧
    (∃ (s : State) (n : Fin 12) (x : Sample) (r : List Sample) (tapsA : Nat) (tapsB : Nat), let taps := (if (s.working n).length
     = 2 then max tapsA tapsB else tapsA); s.power.mode = .running ∧ (s.rail n).loop.jobs = x :: r ∧ (s.rail
     n).loop.takeover = false ∧ (s.rail n).loop.started = true ∧ (s.rail n).loop.rerun = false ∧ x.missed = false ∧ 512 <
     taps) ∧
    (∃ (s : State) (n : Fin 12) (x : Sample) (r : List Sample), s.power.mode = .running ∧ (s.rail n).loop.jobs = x :: r ∧ (s.rail
     n).loop.takeover = false ∧ (s.rail n).loop.started = true ∧ (s.rail n).loop.rerun = false ∧ x.missed = true) ∧
    (∃ (s : State) (n : Fin 12) (x : Sample) (r : List Sample) (d : DoneSample) (q : List DoneSample), s.power.mode = .running ∧
     (s.rail n).loop.jobs = x :: r ∧ (s.rail n).loop.takeover = false ∧ (s.rail n).loop.done = d :: q) ∧
    (∃ (s : State) (n : Fin 12) (x : Sample) (r : List Sample), s.power.mode = .running ∧ (s.rail n).loop.jobs = x :: r ∧ (s.rail
     n).loop.takeover = false ∧ (s.rail n).loop.done = [] ∧ x.missed = false) ∧
    (∃ (s : State) (n : Fin 12) (x y : Sample) (q : List Sample), s.power.mode = .running ∧ (s.rail n).loop.jobs = x :: y :: q ∧
     (s.rail n).loop.takeover = false ∧ (s.rail n).loop.done = [] ∧ x.missed = true ∧ y.missed = false ∧ y.bmis = false) := by
  refine ⟨⟨(up []).modLoop 11 fun t => { t with jobs := [{ at_ := 0, vec := {}, par := {} }] }, 11,
      { at_ := 0, vec := {}, par := {} }, [], ?_⟩,
    ⟨(up []).modLoop 11 fun t => { t with jobs := [{ at_ := 0, vec := {}, par := {} }], started := true }, 11,
      { at_ := 0, vec := {}, par := {} }, [], 512, 1023, ?_⟩,
    ⟨(up [(TB_RSMP.DETLATCH, 11, 1)]).modLoop 11 fun t =>
      { t with jobs := [{ at_ := 0, vec := {}, par := {} }], started := true }, 11, { at_ := 0, vec := {}, par := {} }, [],
      512, 1023, ?_⟩,
    ⟨(up []).modLoop 11 fun t => { t with jobs := [{ at_ := 0, vec := {}, par := {} }], started := true }, 11,
      { at_ := 0, vec := {}, par := {} }, [], 513, 0, ?_⟩,
    ⟨(up []).modLoop 11 fun t => { t with jobs := [{ at_ := 0, vec := {}, par := {}, missed := true }], started := true }, 11,
      { at_ := 0, vec := {}, par := {}, missed := true }, [], ?_⟩,
    ⟨(up []).modLoop 0 fun t =>
      { t with jobs := [{ at_ := 0, vec := {}, par := {} }]
               done := [{ sample := { at_ := 0, vec := {}, par := {} }, duty := 5, ssig := 0 }] },
      0, { at_ := 0, vec := {}, par := {} }, [], { sample := { at_ := 0, vec := {}, par := {} }, duty := 5, ssig := 0 }, [],
      ?_⟩,
    ⟨(up []).modLoop 0 fun t => { t with jobs := [{ at_ := 0, vec := {}, par := {} }] }, 0, { at_ := 0, vec := {}, par := {} },
      [], ?_⟩,
    ⟨(up []).modLoop 0 fun t => { t with jobs := [{ at_ := 0, vec := {}, par := {}, missed := true }, { at_ := 0, vec := {}, par := {} }] },
      0, { at_ := 0, vec := {}, par := {}, missed := true }, { at_ := 0, vec := {}, par := {} }, [], ?_⟩⟩
  all_goals decide +kernel

theorem witness_BraidCompare :
    (∃ (s : State) (n : Fin 12) (x : Sample) (r : List Sample) (dA : Nat) (sA : Nat) (dB : Nat) (sB : Nat), let differ := (dA % 2
     ^ 20 ≠ dB % 2 ^ 20 ∨ sA % 2 ^ 32 ≠ sB % 2 ^ 32); let b : Fin 16 := (braidOf
     (match s.working n with | [] => 0 | k :: _ => k.val / 2)); s.power.mode = .running ∧ (s.rail n).loop.jobs = x :: r ∧
     (s.rail n).loop.takeover = false ∧ (s.rail n).loop.started = true ∧ (s.rail n).loop.rerun = false ∧ (s.working
     n).length = 2 ∧ differ ∧ s.braids[b].missAt = none) ∧
    (∃ (s : State) (n : Fin 12) (x : Sample) (r : List Sample) (dA : Nat) (sA : Nat) (dB : Nat) (sB : Nat), let differ := (dA % 2
     ^ 20 ≠ dB % 2 ^ 20 ∨ sA % 2 ^ 32 ≠ sB % 2 ^ 32); s.power.mode = .running ∧ (s.rail n).loop.jobs = x :: r ∧ (s.rail
     n).loop.rerun = true ∧ x.missed = false ∧ ¬ differ) ∧
    (∃ (s : State) (n : Fin 12) (x : Sample) (r : List Sample) (dA : Nat) (sA : Nat) (dB : Nat) (sB : Nat), let differ := (dA % 2
     ^ 20 ≠ dB % 2 ^ 20 ∨ sA % 2 ^ 32 ≠ sB % 2 ^ 32); s.power.mode = .running ∧ (s.rail n).loop.jobs = x :: r ∧ (s.rail
     n).loop.rerun = true ∧ differ ∧ s.rst n ≠ stFault ∧ CanFault (s.unmove n) n ∧ (s.flag FM_CTRL.TKEN 0 = false ∨ s.pickSpare =
     none)) ∧
    (∃ (s : State) (n : Fin 12) (x : Sample) (r : List Sample) (dA : Nat) (sA : Nat) (dB : Nat) (sB : Nat) (c : List (Fin 32)),
     let differ := (dA % 2 ^ 20 ≠ dB % 2 ^ 20 ∨ sA % 2 ^ 32 ≠ sB % 2 ^ 32); s.power.mode = .running ∧ (s.rail n).loop.jobs =
     x :: r ∧ (s.rail n).loop.rerun = true ∧ differ ∧ s.flag FM_CTRL.TKEN 0 = true ∧ s.pickSpare = some c) ∧
    (∃ (s : State) (n : Fin 12) (x : Sample) (r : List Sample), s.power.mode = .running ∧ (s.rail n).loop.jobs = x :: r ∧ (s.rail
     n).loop.takeover = true ∧ (s.rail n).loop.claimed = []) ∧
    (∃ (s : State) (n : Fin 12) (x : Sample) (r : List Sample), s.power.mode = .running ∧ (s.rail n).loop.jobs = x :: r ∧ (s.rail
     n).loop.takeover = true ∧ (s.rail n).loop.claimed ≠ []) := by
  refine ⟨⟨(up [(ST_CFG.RAIL, 30, 11), (ST_CFG.RAIL, 31, 11), (ST_CFG.STATE, 30, 1), (ST_CFG.STATE, 31, 1)]).modLoop 11 fun t =>
      { t with jobs := [{ at_ := 0, vec := {}, par := {} }], started := true }, 11, { at_ := 0, vec := {}, par := {} }, [],
      0, 0, 0, 1, ?_⟩,
    ⟨(up [(ST_CFG.RAIL, 30, 11), (ST_CFG.RAIL, 31, 11), (ST_CFG.STATE, 30, 1), (ST_CFG.STATE, 31, 1)]).modLoop 11 fun t =>
      { t with jobs := [{ at_ := 0, vec := {}, par := {} }], started := true, rerun := true }, 11,
      { at_ := 0, vec := {}, par := {} }, [], 1048576, 0, 0, 0, ?_⟩,
    ⟨(up [(ST_CFG.RAIL, 30, 11), (ST_CFG.RAIL, 31, 11), (ST_CFG.STATE, 30, 1), (ST_CFG.STATE, 31, 1), (FM_CTRL.TKEN, 0, 0),
      (RL_STATUS.STATE, 11, stRegulate)]).modLoop 11 fun t =>
      { t with jobs := [{ at_ := 0, vec := {}, par := {} }], started := true, rerun := true }, 11,
      { at_ := 0, vec := {}, par := {} }, [], 0, 0, 0, 1, ?_⟩,
    ⟨(up [(ST_CFG.RAIL, 30, 11), (ST_CFG.RAIL, 31, 11), (ST_CFG.STATE, 30, 1), (ST_CFG.STATE, 31, 1), (FM_CTRL.TKEN, 0, 1),
      (RL_STATUS.STATE, 11, stRegulate)]).modLoop 11 fun t =>
      { t with jobs := [{ at_ := 0, vec := {}, par := {} }], started := true, rerun := true }, 11,
      { at_ := 0, vec := {}, par := {} }, [], 0, 0, 0, 1, [0, 1], ?_⟩,
    ⟨(up []).modLoop 11 fun t => { t with jobs := [{ at_ := 0, vec := {}, par := {} }], takeover := true }, 11,
      { at_ := 0, vec := {}, par := {} }, [], ?_⟩,
    ⟨(up []).modLoop 11 fun t => { t with jobs := [{ at_ := 0, vec := {}, par := {} }], takeover := true, claimed := [0, 1] },
      11, { at_ := 0, vec := {}, par := {} }, [], ?_⟩⟩
  all_goals decide +kernel

theorem witness_CarrierAndEdges :
    (∃ (s : State) (n : Fin 12), s.power.mode = .running ∧ (s.rail n).carrier.running = true) ∧
    (∃ (s : State) (n : Fin 12), s.power.mode = .running ∧ (s.rail n).carrier.running = false) ∧
    (∃ (s : State) (p : Fin 48), s.power.mode = .running ∧ ((edgeDue s p).phase p).edges = [] ∧ (s.phase p).edges ≠ []) ∧
    (∃ (s : State) (p : Fin 48) (tap : Nat) (o : Out) (rest : List (Nat × Out)), s.power.mode = .running ∧ (s.phase p).edges = [] ∧
     ((edgeDue s p).phase p).edges = (tap, o) :: rest) ∧
    (∃ (s : State) (p : Fin 48) (tap : Nat) (o : Out) (rest : List (Nat × Out)), s.power.mode = .running ∧
     ((edgeDue s p).phase p).edges = (tap, o) :: rest ∧ s.phRail p ≠ none ∧ ((edgeDue s p).phase p).shedding = true ∧ o = .off) := by
  refine ⟨⟨(up []).modCarrier 11 fun t => { t with running := true, ck := 9600, pk := 9600 }, 11, ?_⟩,
    ⟨up [], 11, ?_⟩,
    ⟨(resting.setFld PH_PSTAT.OUT 47 2).modPhase 47 (fun t => { t with edges := [(1000, .hs)] }) |>.modMan 11 fun t =>
        { t with reqs := [{ at_ := 0, kind := .off }] },
      47, ?_⟩,
    ⟨resting.modMan 11 fun t => { t with reqs := [{ at_ := 0, kind := .off }] }, 47, 128, .off, [], ?_⟩,
    ⟨(up [(PH_PCFG.RAIL, 47, 11)]).modPhase 47 fun t => { t with edges := [(0, .off)], shedding := true }, 47, 0, .off, [], ?_⟩⟩
  all_goals decide +kernel

theorem witness_RisingCommit :
    (∃ (s : State) (p : Fin 48) (n : Fin 12), s.power.mode = .running ∧ s.phRail p = some n ∧ s.nextStart p n = none) ∧
    (∃ (s : State) (p : Fin 48) (n : Fin 12) (a : Nat × Nat × Nat) (cs : Nat) (pk : Nat) (pn : Nat), let v := (s.respTo n
     (riseTick a.2.2)); let off := (v.fld PH_PCFG.OFFSET p); let start := (cs + phaseOffset off pk); let tr := (max start
     ((v.phase p).lastHsEnd + v.toffMin p)); let t := ((v.advance ((tr - 255) / 64 - 2)).showTrim p); let x := (t.phase p);
     s.power.mode = .running ∧ s.phRail p = some n ∧ s.nextStart p n = some a ∧ (v.rail n).carrier.running = true ∧ (v.rail
     n).carrier.period (v.phase p).due = some (cs, pk, pn) ∧ x.killed = false ∧ (t.phRow p true).1 ≠ 7) ∧
    (∃ (s : State) (p : Fin 48) (n : Fin 12) (a : Nat × Nat × Nat) (cs : Nat) (pk : Nat) (pn : Nat), let v := (s.respTo n
     (riseTick a.2.2)); let off := (v.fld PH_PCFG.OFFSET p); let start := (cs + phaseOffset off pk); let tr := (max start
     ((v.phase p).lastHsEnd + v.toffMin p)); let t := ((v.advance ((tr - 255) / 64 - 2)).showTrim p); let x := (t.phase p);
     s.power.mode = .running ∧ s.phRail p = some n ∧ s.nextStart p n = some a ∧ (v.rail n).carrier.running = true ∧ (v.rail
     n).carrier.period (v.phase p).due = some (cs, pk, pn) ∧ x.killed = true ∧ t.fastOut p = true ∧ bitAt
     t.active.comp[(fastWin p)].cons 3 = false ∧ x.shedAt = none) ∧
    (∃ (s : State) (p : Fin 48) (n : Fin 12) (a : Nat × Nat × Nat) (cs : Nat) (pk : Nat) (pn : Nat), let v := (s.respTo n
     (riseTick a.2.2)); let off := (v.fld PH_PCFG.OFFSET p); let start := (cs + phaseOffset off pk); let tr := (max start
     ((v.phase p).lastHsEnd + v.toffMin p)); let t := ((v.advance ((tr - 255) / 64 - 2)).showTrim p); let x := (t.phase p);
     s.power.mode = .running ∧ s.phRail p = some n ∧ s.nextStart p n = some a ∧ (v.rail n).carrier.running = true ∧ (v.rail
     n).carrier.period (v.phase p).due = some (cs, pk, pn) ∧ x.killed = true ∧ t.fastOut p = false) ∧
    (∃ (s : State) (p : Fin 48) (n : Fin 12) (a : Nat × Nat × Nat) (cs : Nat) (pk : Nat) (pn : Nat), let v := (s.respTo n
     (riseTick a.2.2)); let off := (v.fld PH_PCFG.OFFSET p); let start := (cs + phaseOffset off pk); let tr := (max start
     ((v.phase p).lastHsEnd + v.toffMin p)); let c := (max v.now ((tr - 255) / 64 - 2)); let t := ((v.advance ((tr - 255) /
     64 - 2)).showTrim p); let x := (t.phase p); let dix := ((x.due + v.fld PH_PCFG.ORDER p) % 16); let len := (cs + pk +
     phaseOffset off pn - start); let on := (onTime (t.phaseDuty p n c) len dix); let tmax : Int := ((start : Int) + len -
     t.toffMin p - tr); s.power.mode = .running ∧ s.phRail p = some n ∧ s.nextStart p n = some a ∧ (v.rail
     n).carrier.running = true ∧ (v.rail n).carrier.period (v.phase p).due = some (cs, pk, pn) ∧ x.killed = false ∧ (t.phRow
     p true).1 = 7 ∧ x.shedAt = none ∧ x.resume = none ∧ x.lsGap = none ∧ x.edges = [] ∧ (t.tonMin p : Int) ≤ tmax ∧
     t.tonMin p ≤ on ∧ t.fld PH_PSTAT.OUT p = 0) ∧
    (∃ (s : State) (p : Fin 48) (n : Fin 12) (a : Nat × Nat × Nat) (cs : Nat) (pk : Nat) (pn : Nat), let v := (s.respTo n
     (riseTick a.2.2)); let off := (v.fld PH_PCFG.OFFSET p); let start := (cs + phaseOffset off pk); let tr := (max start
     ((v.phase p).lastHsEnd + v.toffMin p)); let c := (max v.now ((tr - 255) / 64 - 2)); let t := ((v.advance ((tr - 255) /
     64 - 2)).showTrim p); let x := (t.phase p); let dix := ((x.due + v.fld PH_PCFG.ORDER p) % 16); let len := (cs + pk +
     phaseOffset off pn - start); let on := (onTime (t.phaseDuty p n c) len dix); let tmax : Int := ((start : Int) + len -
     t.toffMin p - tr); s.power.mode = .running ∧ s.phRail p = some n ∧ s.nextStart p n = some a ∧ (v.rail
     n).carrier.running = true ∧ (v.rail n).carrier.period (v.phase p).due = some (cs, pk, pn) ∧ x.killed = false ∧ (t.phRow
     p true).1 = 7 ∧ x.shedAt = none ∧ x.resume = none ∧ x.lsGap = none ∧ x.edges = [] ∧ (t.tonMin p : Int) ≤ tmax ∧
     t.tonMin p ≤ on ∧ 2 ≤ t.fld PH_PSTAT.OUT p) ∧
    (∃ (s : State) (p : Fin 48) (n : Fin 12) (a : Nat × Nat × Nat) (cs : Nat) (pk : Nat) (pn : Nat), let v := (s.respTo n
     (riseTick a.2.2)); let off := (v.fld PH_PCFG.OFFSET p); let start := (cs + phaseOffset off pk); let tr := (max start
     ((v.phase p).lastHsEnd + v.toffMin p)); let c := (max v.now ((tr - 255) / 64 - 2)); let t := ((v.advance ((tr - 255) /
     64 - 2)).showTrim p); let x := (t.phase p); let dix := ((x.due + v.fld PH_PCFG.ORDER p) % 16); let len := (cs + pk +
     phaseOffset off pn - start); let on := (onTime (t.phaseDuty p n c) len dix); let tmax : Int := ((start : Int) + len -
     t.toffMin p - tr); s.power.mode = .running ∧ s.phRail p = some n ∧ s.nextStart p n = some a ∧ (v.rail
     n).carrier.running = true ∧ (v.rail n).carrier.period (v.phase p).due = some (cs, pk, pn) ∧ x.killed = false ∧ (t.phRow
     p true).1 = 7 ∧ x.shedAt = none ∧ x.resume = none ∧ x.lsGap = none ∧ x.edges = [] ∧ t.fld PH_PSTAT.OUT p = 0 ∧
     (t.tonMin p : Int) ≤ tmax ∧ on < t.tonMin p ∧ (t.flag PH_GUARD.GMODE p = true ∨ on = 0)) ∧
    (∃ (s : State) (p : Fin 48) (n : Fin 12) (a : Nat × Nat × Nat) (cs : Nat) (pk : Nat) (pn : Nat), let v := (s.respTo n
     (riseTick a.2.2)); let off := (v.fld PH_PCFG.OFFSET p); let start := (cs + phaseOffset off pk); let tr := (max start
     ((v.phase p).lastHsEnd + v.toffMin p)); let t := ((v.advance ((tr - 255) / 64 - 2)).showTrim p); let x := (t.phase p);
     let len := (cs + pk + phaseOffset off pn - start); let tmax : Int := ((start : Int) + len - t.toffMin p - tr);
     s.power.mode = .running ∧ s.phRail p = some n ∧ s.nextStart p n = some a ∧ (v.rail n).carrier.running = true ∧ (v.rail
     n).carrier.period (v.phase p).due = some (cs, pk, pn) ∧ x.killed = false ∧ (t.phRow p true).1 = 7 ∧ x.shedAt = none ∧
     x.resume = none ∧ x.lsGap = none ∧ x.edges = [] ∧ t.fld PH_PSTAT.OUT p = 0 ∧ tmax < t.tonMin p) := by
  refine ⟨⟨up [(PH_PCFG.RAIL, 47, 11), (RL_STATUS.STATE, 11, stRegulate), (PH_MSTAT.STATE, 47, phActive), (PH_PSTAT.OUT, 47, 0)], 47,
      11, ?_⟩,
    ⟨(up [(PH_PCFG.RAIL, 47, 11)]).modCarrier 11 fun t => { t with running := true, ck := 10000, pk := 9600, pnext := 9600 },
      47, 11, (10000, 19600, 10000), 10000, 9600, 9600, ?_⟩,
    ⟨{ ((up [(PH_PCFG.RAIL, 47, 11), (RL_STATUS.STATE, 11, stRegulate), (PH_MSTAT.STATE, 47, phActive), (PH_PSTAT.OUT, 47, 0)]).modCarrier 11
          (fun t => { t with running := true, ck := 10000, pk := 9600, pnext := 9600 }) |>.modPhase 47 (fun t => { t with killed := true })
          |>.modWin (fastWin 47) fun t => { t with seen := .above }) with
        active := { comp := Vector.replicate 72 { cons := 1 } } },
      47, 11, (10000, 19600, 10000), 10000, 9600, 9600, ?_⟩,
    ⟨(up [(PH_PCFG.RAIL, 47, 11), (RL_STATUS.STATE, 11, stRegulate), (PH_MSTAT.STATE, 47, phActive), (PH_PSTAT.OUT, 47,
      0)]).modCarrier 11 (fun t => { t with running := true, ck := 10000, pk := 9600, pnext := 9600 }) |>.modPhase 47 (fun t
      => { t with killed := true }), 47, 11, (10000, 19600, 10000), 10000, 9600, 9600, ?_⟩,
    ⟨(up [(PH_PCFG.RAIL, 47, 11), (RL_STATUS.STATE, 11, stRegulate), (PH_MSTAT.STATE, 47, phActive), (PH_PSTAT.OUT, 47, 0),
      (RL_DUTY.DUTY, 11, 500000)]).modCarrier 11 fun t =>
      { t with running := true, ck := 10000, pk := 9600, pnext := 9600 }, 47, 11, (10000, 19600, 10000), 10000, 9600, 9600,
      ?_⟩,
    ⟨(up [(PH_PCFG.RAIL, 47, 11), (RL_STATUS.STATE, 11, stRegulate), (PH_MSTAT.STATE, 47, phActive), (PH_PSTAT.OUT, 47, 2),
      (RL_DUTY.DUTY, 11, 500000)]).modCarrier 11 fun t =>
      { t with running := true, ck := 10000, pk := 9600, pnext := 9600 }, 47, 11, (10000, 19600, 10000), 10000, 9600, 9600,
      ?_⟩,
    ⟨(up [(PH_PCFG.RAIL, 47, 11), (RL_STATUS.STATE, 11, stRegulate), (PH_MSTAT.STATE, 47, phActive), (PH_PSTAT.OUT, 47, 0),
      (PH_GUARD.GMODE, 47, 1)]).modCarrier 11 fun t => { t with running := true, ck := 10000, pk := 9600, pnext := 9600 },
      47, 11, (10000, 19600, 10000), 10000, 9600, 9600, ?_⟩,
    ⟨(up [(PH_PCFG.RAIL, 47, 11), (RL_STATUS.STATE, 11, stRegulate), (PH_MSTAT.STATE, 47, phActive), (PH_PSTAT.OUT, 47,
      0)]).modCarrier 11 fun t => { t with running := true, ck := 10000, pk := 64, pnext := 64 }, 47, 11, (10000, 10064,
      10000), 10000, 64, 64, ?_⟩⟩
  all_goals decide +kernel

theorem witness_FallingCommit :
    (∃ (s : State) (p : Fin 48) (n : Fin 12), s.power.mode = .running ∧ s.phRail p = some n ∧ (s.phase p).pulse = false) ∧
    (∃ (s : State) (p : Fin 48) (n : Fin 12), let v := (s.respTo n (s.fallTick p n)); s.power.mode = .running ∧ s.phRail p = some
     n ∧ (s.phase p).pulse = true ∧ (v.phase p).pulse = false) ∧
    (∃ (s : State) (p : Fin 48) (n : Fin 12), let v := (s.respTo n (s.fallTick p n)); let t := ((v.advance (v.fallTick p
     n)).showTrim p); s.power.mode = .running ∧ s.phRail p = some n ∧ (s.phase p).pulse = true ∧ (v.phase p).pulse = true ∧
     t.lastOut p = .hs) ∧
    (∃ (s : State) (p : Fin 48) (n : Fin 12) (e : Nat),
     let v := s.respTo n (s.fallTick p n)
     let t := (v.advance (v.fallTick p n)).showTrim p
     s.power.mode = .running ∧ s.phRail p = some n ∧ (s.phase p).pulse = true ∧ (v.phase p).pulse = true ∧ t.lastOut p = .hs ∧
     (t.phase p).endAt = some e) := by
  refine ⟨⟨up [(PH_PCFG.RAIL, 47, 11)], 47, 11, ?_⟩,
    ⟨(up [(PH_PCFG.RAIL, 47, 11), (RL_STATUS.STATE, 11, stRegulate), (PH_MSTAT.STATE, 47, phActive), (PH_PSTAT.OUT, 47,
      0)]).modCarrier 11 (fun t => { t with running := true }) |>.modPhase 47 (fun t =>
      { t with pulse := true, tr := 10000, tmax := 9000, len := 9600 }) |>.modMan 11 fun t =>
      { t with reqs := [{ at_ := 0, kind := .off }] }, 47, 11, ?_⟩,
    ⟨(up [(PH_PCFG.RAIL, 47, 11), (RL_STATUS.STATE, 11, stRegulate), (PH_MSTAT.STATE, 47, phActive), (PH_PSTAT.OUT, 47, 0),
      (RL_DUTY.DUTY, 11, 500000), (PH_PSTAT.OUT, 47, 1)]).modPhase 47 fun t =>
      { t with pulse := true, tr := 10000, tmax := 9000, len := 9600 }, 47, 11, ?_⟩,
    ⟨(up [(PH_PCFG.RAIL, 47, 11), (RL_STATUS.STATE, 11, stRegulate), (PH_MSTAT.STATE, 47, phActive), (PH_PSTAT.OUT, 47, 1)]).modPhase 47
      fun t => { t with pulse := true, tr := 10000, tmax := 9000, len := 9600, endAt := some 12000 }, 47, 11, 12000, ?_⟩⟩
  all_goals decide +kernel

theorem witness_PhaseFaults :
    (∃ (s : State) (p : Fin 48), let t := (s.respPh p); s.power.mode = .running ∧ (t.fastOut p = false ∨ (t.phase p).killed =
     true)) ∧
    (∃ (s : State) (p : Fin 48), let t := (s.respPh p); let drives := ((t.phRow p false).1 = 5 ∨ (t.phRow p false).1 = 7 ∨ t.fld
     PH_PSTAT.OUT p < 2 ∨ (t.phase p).edges ≠ []); s.power.mode = .running ∧ t.fastOut p = true ∧ (t.phase p).killed = false
     ∧ drives) ∧
    (∃ (s : State) (p : Fin 48), let t := (s.respPh p); let drives := ((t.phRow p false).1 = 5 ∨ (t.phRow p false).1 = 7 ∨ t.fld
     PH_PSTAT.OUT p < 2 ∨ (t.phase p).edges ≠ []); s.power.mode = .running ∧ t.fastOut p = true ∧ (t.phase p).killed = false
     ∧ ¬ drives) ∧
    (∃ (s : State) (p : Fin 48), let t := (s.respPh p); s.power.mode = .running ∧ (t.phRail p = none ∨ t.fld PH_MSTAT.STATE p ≠
     phActive)) ∧
    (∃ (s : State) (p : Fin 48) (n : Fin 12), let t := (s.respPh p); let ev := (t.now / 4096 :: (t.phase p).events.filter fun b
     => decide (t.now / 4096 < b + 488282)); let rmax := (t.fldStep RL_PMCTL.RMAX n t.now); s.power.mode = .running ∧
     t.phRail p = some n ∧ t.fld PH_MSTAT.STATE p = phActive ∧ ev.length ≤ rmax) ∧
    (∃ (s : State) (p : Fin 48) (n : Fin 12), let t := (s.respPh p); let ev := (t.now / 4096 :: (t.phase p).events.filter fun b
     => decide (t.now / 4096 < b + 488282)); let rmax := (t.fldStep RL_PMCTL.RMAX n t.now); s.power.mode = .running ∧
     t.phRail p = some n ∧ t.fld PH_MSTAT.STATE p = phActive ∧ rmax < ev.length) ∧
    (∃ (s : State) (p : Fin 48), s.power.mode = .running ∧ s.fld PH_MSTAT.STATE p ≠ phHeld) ∧
    (∃ (s : State) (p : Fin 48), s.power.mode = .running ∧ s.fld PH_MSTAT.STATE p = phHeld) := by
  refine ⟨⟨up [], 47, ?_⟩,
    ⟨{ ((up [(PH_PCFG.RAIL, 47, 11), (RL_STATUS.STATE, 11, stRegulate), (PH_MSTAT.STATE, 47, phActive), (PH_PSTAT.OUT, 47, 0)]).modWin
          (fastWin 47) fun t => { t with seen := .above }) with
        active := { comp := Vector.replicate 72 { cons := 1 } } },
      47, ?_⟩,
    ⟨{ ((up [(PH_PSTAT.OUT, 47, 2)]).modWin
          (fastWin 47) fun t => { t with seen := .above }) with
        active := { comp := Vector.replicate 72 { cons := 1 } } },
      47, ?_⟩,
    ⟨up [], 47, ?_⟩,
    ⟨up [(PH_PCFG.RAIL, 47, 11), (RL_STATUS.STATE, 11, stRegulate), (PH_MSTAT.STATE, 47, phActive), (PH_PSTAT.OUT, 47, 0),
      (RL_PMCTL.RMAX, 11, 1)], 47, 11, ?_⟩,
    ⟨up [(PH_PCFG.RAIL, 47, 11), (RL_STATUS.STATE, 11, stRegulate), (PH_MSTAT.STATE, 47, phActive), (PH_PSTAT.OUT, 47, 0),
      (RL_PMCTL.RMAX, 11, 0)], 47, 11, ?_⟩,
    ⟨up [], 47, ?_⟩,
    ⟨up [(PH_PCFG.RAIL, 47, 11), (RL_STATUS.STATE, 11, stRegulate), (PH_MSTAT.STATE, 47, phActive), (PH_PSTAT.OUT, 47, 0),
      (PH_MSTAT.STATE, 47, phHeld)], 47, ?_⟩⟩
  all_goals decide +kernel

theorem witness_RotationAndBalance :
    (∃ (s : State) (n : Fin 12), let t := (s.respTo n s.now); s.power.mode = .running ∧ t.rotationDue n = false) ∧
    (∃ (s : State) (n : Fin 12) (a : Fin 48) (w : Fin 48) (r : List (Fin 48)), let t := (s.respTo n s.now); s.power.mode =
     .running ∧ t.rotationDue n = true ∧ t.allOff n = false ∧ (t.rail n).man.shedCnt = 0 ∧ (t.rail n).man.addCnt = 0 ∧ t.fld
     RL_TRSTAT.ACT n = 0 ∧ (t.rail n).man.rotPh = none ∧ t.addable n = a :: r ∧ t.shedPick (t.shedable n) = some w ∧
     (t.phase a).wear < (t.phase w).wear) ∧
    (∃ (s : State) (n : Fin 12) (a : Fin 48) (w : Fin 48) (r : List (Fin 48)), let t := (s.respTo n s.now); s.power.mode =
     .running ∧ t.rotationDue n = true ∧ t.allOff n = false ∧ (t.rail n).man.shedCnt = 0 ∧ (t.rail n).man.addCnt = 0 ∧ t.fld
     RL_TRSTAT.ACT n = 0 ∧ (t.rail n).man.rotPh = none ∧ t.addable n = a :: r ∧ t.shedPick (t.shedable n) = some w ∧
     (t.phase w).wear ≤ (t.phase a).wear) ∧
    (∃ (s : State) (n : Fin 12), s.power.mode = .running ∧ s.live n = false) ∧
    (∃ (s : State) (n : Fin 12), s.power.mode = .running ∧ s.live n = true) ∧
    (∃ (s : State) (n : Fin 12), let v := s.advance (s.nextGrid s.now (4096 * 2 ^ s.fldStep RL_PMBAL.BINT n s.now) 0);
     let t := v.respTo n v.now; let act := (t.activeList n).filter fun (p : Fin 48) => (t.phase p).balCnt != 0;
     let im := fun (p : Fin 48) => rhe ((t.phase p).balSum * t.active.sense[n].cslsb) (40000 * (t.phase p).balCnt);
     let mean := rhe (act.foldl (fun a p => a + im p) 0) act.length; let held := fun (f : Fld) => t.fldStep f n t.now;
     s.power.mode = .running ∧ s.live n = true ∧ (t.rail n).man.discard = false ∧ t.fld RL_TRSTAT.ACT n = 0 ∧ t.allOff n = false ∧
     held RL_PMBAL.BEN ≠ 0 ∧ t.rst n = stRegulate ∧ 2 ≤ act.length ∧ (held RL_PMBAL.BMIN : Int) * 10 ≤ mean.natAbs ∧
     ∀ p ∈ act, 8 * (im p).natAbs < mean.natAbs ∨ im p * mean < 0 → (t.phase p).dead = 0) := by
  refine ⟨⟨up [], 11, ?_⟩,
    ⟨{ ((up [(PH_PCFG.RAIL, 46, 11), (PH_PCFG.RAIL, 47, 11), (RL_STATUS.STATE, 11, stRegulate), (PH_MSTAT.STATE, 46, phShed),
      (PH_MSTAT.STATE, 47, phActive), (RL_PMROT.RPER, 11, 1)]).modMan 11 fun t => { t with rotBell := 65536 })
        |>.modPhase 47 (fun t => { t with wear := 1 })
    with active := { splice := Vector.replicate 48 { shedok := true } } },
      11, 46, 47, [], ?_⟩,
    ⟨{ ((up [(PH_PCFG.RAIL, 46, 11), (PH_PCFG.RAIL, 47, 11), (RL_STATUS.STATE, 11, stRegulate), (PH_MSTAT.STATE, 46, phShed),
      (PH_MSTAT.STATE, 47, phActive), (RL_PMROT.RPER, 11, 1)]).modMan 11 fun t => { t with rotBell := 65536 })
    with active := { splice := Vector.replicate 48 { shedok := true } } },
      11, 46, 47, [], ?_⟩,
    ⟨up [], 11, ?_⟩,
    ⟨up [(RL_STATUS.STATE, 11, stRegulate)], 11, ?_⟩,
    ⟨unbalanced, 2, ?_⟩⟩
  all_goals decide +kernel

theorem witness_TransientResponder :
    (∃ (s : State) (n : Fin 12) (act : Fin 2), let k := (act.val + 1); let w := (if s.fld RL_TRSTAT.ACT n = k then s else
     s.respTo n (s.now + 2)); let end_ := ((w.rail n).man.respAt + w.tonMax n (w.rail n).man.respAt); let v := (if w.fld
     RL_TRSTAT.ACT n = k then w.respTo n end_ else w); s.power.mode = .running ∧ v.fld RL_TRSTAT.ACT n ≠ k) ∧
    (∃ (s : State) (n : Fin 12) (act : Fin 2), let k := (act.val + 1); let w := (if s.fld RL_TRSTAT.ACT n = k then s else
     s.respTo n (s.now + 2)); let end_ := ((w.rail n).man.respAt + w.tonMax n (w.rail n).man.respAt); let v := (if w.fld
     RL_TRSTAT.ACT n = k then w.respTo n end_ else w); s.power.mode = .running ∧ v.fld RL_TRSTAT.ACT n = k) ∧
    (∃ (s : State) (n : Fin 12), let t := (s.respTo n s.now); s.power.mode = .running ∧ ((t.rail n).man.revRun < 8 ∨ t.live n =
     false)) ∧
    (∃ (s : State) (n : Fin 12), let t := (s.respTo n s.now); let c :=
     (match (t.rail n).loop.lastAt with | some x => x + 2 | none => t.now); s.power.mode = .running ∧ 8 ≤ (t.rail
     n).man.revRun ∧ t.live n = true ∧ (∀ r ∈ (t.rail n).man.reqs, t.now < r.at_) ∧ t.now < c) ∧
    (∃ (s : State) (n : Fin 12), let t := (s.respTo n s.now); let c :=
     (match (t.rail n).loop.lastAt with | some x => x + 2 | none => t.now); s.power.mode = .running ∧ 8 ≤ (t.rail
     n).man.revRun ∧ t.live n = true ∧ (∀ r ∈ (t.rail n).man.reqs, t.now < r.at_) ∧ c ≤ t.now ∧ t.rst n ≠ stFault ∧
     CanFault (({ t with now := c } : State).unmove n) n) := by
  refine ⟨⟨up [], 11, 1, ?_⟩,
    ⟨up [(RL_TRSTAT.ACT, 11, 1)], 11, 0, ?_⟩,
    ⟨up [], 11, ?_⟩,
    ⟨(up [(RL_STATUS.STATE, 11, stRegulate)]).modMan 11 (fun t => { t with revRun := 8 }) |>.modLoop 11 fun t =>
      { t with lastAt := some 1000 }, 11, ?_⟩,
    ⟨(up [(RL_STATUS.STATE, 11, stRegulate)]).modMan 11 fun t => { t with revRun := 8 }, 11, ?_⟩⟩
  all_goals decide +kernel

theorem witness_ProfileSteps :
    (∃ (s : State) (n : Fin 12), s.power.mode = .running ∧ s.rst n = stFault ∧ (s.rail n).life.permanent = true ∧
     (s.rail n).life.noStrand = true ∧ (s.rail n).man.reqs = []) ∧
    (∃ (s : State) (n : Fin 12), let w := (s.advance (s.nextGrid s.now 256 0)).pruneLog; s.power.mode = .running ∧
     s.time.lastStep = none ∧ s.live n = true ∧ s.rst n ≠ stRampdown ∧ (s.rail n).life.permanent = false ∧
     (s.rail n).life.noStrand = false ∧ (s.rail n).man.reqs = [] ∧ s.follower n = false ∧ w.fldStep RL_REVS.SHEN n w.now = 0) ∧
    (∃ (s : State) (n : Fin 12) (t : Nat) (v : Int), s.power.mode = .running ∧ (s.rail n).mode.vgen.next = some (t, v)) := by
  refine ⟨⟨(up [(RL_STATUS.STATE, 11, stFault)]).modLife 11 fun t => { t with permanent := true, noStrand := true }, 11, ?_⟩,
    ⟨up [(RL_STATUS.STATE, 11, stRegulate)], 11, ?_⟩,
    ⟨(up []).modMode 11 fun t => { t with vgen := { t.vgen with next := some (16, 12000) } }, 11, 16, 12000, ?_⟩⟩
  all_goals decide +kernel

theorem witness_RailSamples :
    (∃ (s : State) (n : Fin 12), s.power.mode = .running ∧ s.live n = false) ∧
    (∃ (s : State) (n : Fin 12), s.power.mode = .running ∧ s.live n = true) := by
  refine ⟨⟨up [], 0, ?_⟩,
    ⟨up [(RL_STATUS.STATE, 11, stPrematch)], 11, ?_⟩⟩
  all_goals decide +kernel

theorem witness_PhaseCurrents :
    (∃ (s : State) (n : Fin 12), s.power.mode = .running ∧ s.live n = false) ∧
    (∃ (s : State) (n : Fin 12), s.power.mode = .running ∧ s.live n = true) ∧
    (∃ (s : State) (p : Fin 48), s.power.mode = .running ∧ s.phRail p = none) := by
  refine ⟨⟨up [], 11, ?_⟩,
    ⟨up [(RL_STATUS.STATE, 11, stPrematch)], 11, ?_⟩,
    ⟨up [(PH_PCFG.RAIL, 47, 15)], 47, ?_⟩⟩
  all_goals decide +kernel

theorem witness_ModelAndTune :
    (∃ (s : State) (n : Fin 12), s.power.mode = .running ∧ max 1 (s.fld MS_LIM.MCNT64 n) * 64 ≤ s.fld MS_STAT.COUNT n) ∧
    (∃ (s : State) (n : Fin 12) (v : Tune), s.power.mode = .running ∧ (s.rail n).mode.tune = some v ∧ 4096 ≤ v.idle) := by
  refine ⟨⟨up [(MS_LIM.MCNT64, 11, 1), (MS_STAT.COUNT, 11, 64)], 11, ?_⟩,
    ⟨(up []).modMode 0 fun t => { t with tune := some { d0 := 0, fromTick := 0, idle := 4096 } }, 0,
      { d0 := 0, fromTick := 0, idle := 4096 }, ?_⟩⟩
  all_goals decide +kernel

theorem witness_WindowsAndOpenLine :
    (∃ (s : State), s.power.mode = .running ∧ s.active.loaded = false) ∧
    (∃ (s : State), s.power.mode = .running ∧ s.active.loaded = true) ∧
    (∃ (s : State) (x : Fin 72) (n : Fin 12) (volt : Bool), s.power.mode = .running ∧ winRail x = some (n, volt) ∧
     s.winSeen x ≠ .inside ∧ bitAt s.active.comp[x].cons 2 = true ∧ stClose ≤ s.rst n ∧ s.rst n ≤ stRampdown ∧
     CanFault ((s.advance ((s.win x).since + 16)).unmove n) n) ∧
    (∃ (s : State) (n : Fin 12) (d l : Int), let armed := (s.flag CV_SNS.FBK n = false ∧ s.active.sense[n].bias = true ∧
     (s.rst n = stRamp ∨ s.rst n = stRegulate ∨ s.rst n = stRampdown) ∧ (s.rail n).sense.fbkAt = none ∧ 250000000 ≤ l);
     s.power.mode = .running ∧ ¬ (armed ∧ openDiffers d l = true)) ∧
    (∃ (s : State) (n : Fin 12) (d l : Int), let armed := (s.flag CV_SNS.FBK n = false ∧ s.active.sense[n].bias = true ∧
     (s.rst n = stRamp ∨ s.rst n = stRegulate ∨ s.rst n = stRampdown) ∧ (s.rail n).sense.fbkAt = none ∧ 250000000 ≤ l);
     s.power.mode = .running ∧ armed ∧ openDiffers d l = true ∧ (s.rail n).sense.badSince = none) ∧
    (∃ (s : State) (n : Fin 12) (d l : Int) (b : Nat), let armed := (s.flag CV_SNS.FBK n = false ∧ s.active.sense[n].bias = true ∧
     (s.rst n = stRamp ∨ s.rst n = stRegulate ∨ s.rst n = stRampdown) ∧ (s.rail n).sense.fbkAt = none ∧ 250000000 ≤ l);
     s.power.mode = .running ∧ armed ∧ openDiffers d l = true ∧ (s.rail n).sense.badSince = some b ∧
     s.active.sense[n].fallback = false ∧ CanFault ((s.advance (b + 40 * us)).unmove n) n) := by
  refine ⟨⟨up [], ?_⟩,
    ⟨{ (up []) with active := { comp := Vector.replicate 72 { cons := 0 }, loaded := true } }, ?_⟩,
    ⟨{ ((up [(RL_STATUS.STATE, 11, stRampdown)]).modWin 59 fun t => { t with seen := .above }) with
        active := { comp := Vector.replicate 72 { cons := 4 }, loaded := true } }, 59, 11, true, ?_⟩,
    ⟨up [(CV_SNS.FBK, 11, 1)], 11, 2, 7, ?_⟩,
    ⟨openLine, 0, 300000000, 250000000, ?_⟩,
    ⟨openLine.modSense 0 fun x => { x with badSince := some 7 }, 0, 300000000, 250000000, 7, ?_⟩⟩
  all_goals decide +kernel

theorem witness_TelemetryFrames :
    (∃ (s : State), s.power.mode = .running ∧ 64 ≤ s.tele.slot) ∧
    (∃ (s : State), s.power.mode = .running ∧ s.tele.slot < 64) ∧
    (∃ (s : State), let t := s.seenAll; let slot0 := t.trigSlot true; s.power.mode = .running ∧ slot0 ≠ some (t.trigGrid true).1) ∧
    (∃ (s : State), let t := s.seenAll; let slot0 := t.trigSlot true; let slot1 := t.trigSlot false;
     s.power.mode = .running ∧ slot1 = some (t.trigGrid false).1 ∧ ∃ a, slot0 = some a ∧
     (t.fld CV_TRIG.CH0 0 < 48 ↔ t.fld CV_TRIG.CH1 0 < 48) ∧ a ≤ (t.trigGrid false).1) ∧
    (∃ (s : State), let t := s.seenAll; let slot0 := t.trigSlot true; let slot1 := t.trigSlot false; s.power.mode = .running ∧
     t.fld CV_TRIG.CH0 0 = 48 ∧ slot0 = some (t.trigGrid true).1 ∧ slot1 = none) ∧
    (∃ (s : State), let t := s.seenAll; let slot0 := t.trigSlot true; let slot1 := t.trigSlot false; s.power.mode = .running ∧
     t.fld CV_TRIG.CH1 0 = 47 ∧ slot1 = some (t.trigGrid false).1 ∧ slot0 = none) := by
  refine ⟨⟨(up []).modTele fun t => { t with slot := 64 }, ?_⟩,
    ⟨(up []).modTele fun t => { t with slot := 63 }, ?_⟩,
    ⟨up [], ?_⟩,
    ⟨(up [(CV_TRIG.CH0, 0, 0), (CV_TRIG.CH1, 0, 47)]).modTele fun t => { t with pend0 := [0], pend1 := [0] }, ?_⟩,
    ⟨(up [(CV_TRIG.CH0, 0, 48)]).modTele fun t => { t with pend0 := [0] }, ?_⟩,
    ⟨(up [(CV_TRIG.CH1, 0, 47)]).modTele fun t => { t with pend1 := [0] }, ?_⟩⟩
  iterate 3 decide +kernel
  · exact ⟨by decide +kernel, by decide +kernel, (up []).tele.slotAt, by decide +kernel⟩
  all_goals decide +kernel

theorem witness_ConverterChecks :
    (∃ (s : State), s.power.mode = .running ∧ (s.flag CV_CTRL.DSCRUB 0 = false ∨ s.active.loaded = false)) ∧
    (∃ (s : State) (v : Int), let t := (s.tc1Seek s.dacSlot 150); let d := (slotDac t.tele.slot1); let code := ((s.telConvert (48
     + (if d < 96 then d / 2 else d - 96)) v).1); let want := ((if 96 ≤ d ∧ d < 120 then 60 else 40) * (if d % 2 = 0 then
     s.fld CMP_THR.UPPER (dacWin d) else s.fld CMP_THR.LOWER (dacWin d))); let tol := ((if 96 ≤ d ∧ d < 120 then 15 else 10)
     * max 1 (s.fld CV_SCRUB.DTOL 0)); s.power.mode = .running ∧ s.flag CV_CTRL.DSCRUB 0 = true ∧ s.active.loaded = true ∧
     ((code : Int) - want).natAbs ≤ tol) ∧
    (∃ (s : State) (v : Int), let t := (s.tc1Seek s.dacSlot 150); let d := (slotDac t.tele.slot1); let code := ((s.telConvert (48
     + (if d < 96 then d / 2 else d - 96)) v).1); let want := ((if 96 ≤ d ∧ d < 120 then 60 else 40) * (if d % 2 = 0 then
     s.fld CMP_THR.UPPER (dacWin d) else s.fld CMP_THR.LOWER (dacWin d))); let tol := ((if 96 ≤ d ∧ d < 120 then 15 else 10)
     * max 1 (s.fld CV_SCRUB.DTOL 0)); s.power.mode = .running ∧ s.flag CV_CTRL.DSCRUB 0 = true ∧ s.active.loaded = true ∧
     tol < ((code : Int) - want).natAbs ∧ s.flag CV_STATUS.TC1DRIFT 0 = false ∧ s.dacRun d = 1) ∧
    (∃ (s : State), s.power.mode = .running ∧ s.tele.slot ≠ 29) ∧
    (∃ (s : State), s.power.mode = .running ∧ s.flag CV_CTRL.XCHKEN 0 = false ∧ s.tele.slot = 29) ∧
    (∃ (s : State), s.power.mode = .running ∧ s.flag CV_CTRL.XCHKEN 0 = true ∧ s.tele.slot = 29) := by
  refine ⟨⟨up [], ?_⟩,
    ⟨{ (up [(CV_CTRL.DSCRUB, 0, 1)]) with active := { loaded := true } }, 0, ?_⟩,
    ⟨{ ((up [(CV_CTRL.DSCRUB, 0, 1), (CMP_THR.UPPER, 0, 200)]).modTele fun t => { t with dacRuns := [(0, 1)] }) with
        active := { loaded := true } },
      0, ?_⟩,
    ⟨up [], ?_⟩,
    ⟨(up [(CV_CTRL.XCHKEN, 0, 0)]).modTele fun t => { t with slot := 29 }, ?_⟩,
    ⟨(up [(CV_CTRL.XCHKEN, 0, 1)]).modTele fun t => { t with slot := 29 }, ?_⟩⟩
  all_goals decide +kernel

theorem witness_SlotGrant :
    (∃ (s : State) (n : Fin 12), s.power.mode = .running ∧ s.grantable = some n ∧ s.tokenPermits n = true ∧ (s.railStrands n).all
     (fun k => !s.flag ST_CFG.RETIRED k) = true ∧ s.lead n = false) ∧
    (∃ (s : State), s.power.mode = .running ∧ s.grantable = none) ∧
    (∃ (s : State) (n : Fin 12), s.power.mode = .running ∧ s.grantable = some n ∧ s.tokenPermits n = false) := by
  refine ⟨⟨up [(RL_STATUS.QUEUED, 11, 1), (PH_PCFG.RAIL, 47, 11)], 11, ?_⟩,
    ⟨up [], ?_⟩,
    ⟨up [(PR_START.RINGTOK, 0, 1), (RL_STATUS.QUEUED, 11, 1), (PH_PCFG.RAIL, 47, 11)], 11, ?_⟩⟩
  all_goals decide +kernel

theorem witness_SensingWrites :
    (∃ (s : State) (n : Fin 12) (w : Word) (t : Nat), s.dueAll = s ∧ Taken s .CV_SNS n (setBits w 27 1 1) ∧
     (s.rail n).sense.goodSince = some t ∧ t + 100 * ms ≤ s.now ∧ s.flag CV_SNS.FBK n = true) ∧
    (∃ (s : State) (n : Fin 12) (w : Word), s.dueAll = s ∧ Taken s .CV_SNS n (setBits w 27 1 1) ∧
     ((s.rail n).sense.goodSince = none ∨ s.flag CV_SNS.FBK n = false)) ∧
    (∃ (s : State) (n : Fin 12) (w : Word) (t : Nat), s.dueAll = s ∧ Taken s .CV_SNS n (setBits w 27 1 1) ∧
     (s.rail n).sense.goodSince = some t ∧ s.now < t + 100 * ms) ∧
    (∃ (s : State) (w : Word), s.dueAll = s ∧ Taken s .CV_CTRL 0 (withCmd w 1)) ∧
    (∃ (s : State) (n : Fin 12) (w : Word), s.dueAll = s ∧ Taken s .RL_TCTL n (withCmd w 1)) ∧
    (∃ (s : State) (n : Fin 12) (w : Word), s.dueAll = s ∧ Taken s .RL_TCTL n (withCmd w 2)) ∧
    (∃ (s : State) (n : Fin 12) (w : Word), s.dueAll = s ∧ Taken s .RL_TCTL n (withCmd w 3)) ∧
    (∃ (s : State) (n : Fin 12) (w : Word), s.dueAll = s ∧ Taken s .TB_RSLK n (setBits w 31 1 1)) := by
  refine ⟨⟨{ ((up [(CV_SNS.FBK, 11, 1)]).modSense 11 fun t => { t with goodSince := some 0 }) with now := 100 * ms }, 11, 0, 0, ?_⟩,
    ⟨up [], 11, 0, ?_⟩,
    ⟨(up [(CV_SNS.FBK, 11, 1)]).modSense 11 fun t => { t with goodSince := some 0 }, 11, 0, 0, ?_⟩,
    ⟨up [], 0, ?_⟩,
    ⟨up [], 11, 0, ?_⟩,
    ⟨up [], 11, 0, ?_⟩,
    ⟨up [], 11, 0, ?_⟩,
    ⟨up [], 11, 0, ?_⟩⟩
  all_goals (with_reducible refine ⟨State.dueAll_idle _ ?_, ?_⟩) <;> decide +kernel

theorem witness_SetPointWrites :
    (∃ (s : State) (n : Fin 12) (w : Word) (current : Bool), let r : Reg := (if current then .RL_ITGT else .RL_VTGT); s.dueAll = s ∧
     Taken s r n
     w) ∧
    (∃ (s : State) (n : Fin 12) (current : Bool), let r : Reg := (if current then .RL_ITGT else .RL_VTGT); s.dueAll = s ∧ s.ready = true ∧
     s.power.mode = .running ∧ s.absentReg r (s.keyOf r n) = false ∧ (s.flag RL_MCTL.TSRC n = true ∨ s.tuning n = true)) ∧
    (∃ (s : State) (n : Fin 12) (w : Word), s.dueAll = s ∧ Taken s .RL_VOC n w) ∧
    (∃ (s : State) (n : Fin 12) (w : Word), s.dueAll = s ∧ Taken s .RL_MCTL n w ∧ (s.rail n).mode.tune = none ∧ RL_MCTL.TSRC.of w = s.fld
     RL_MCTL.TSRC n) ∧
    (∃ (s : State) (n : Fin 12) (w : Word), s.dueAll = s ∧ Taken s .RL_MCTL n w ∧ s.tuning n = true) ∧
    (∃ (s : State) (n : Fin 12) (w : Word), s.dueAll = s ∧ Taken s .RL_FCTL n w) ∧
    (∃ (s : State) (n : Fin 12) (w : Word), let mayTune := (s.rst n = stRegulate ∧ s.fld RL_MCTL.REQ n = 0 ∧ s.fld RL_MCTL.MODE n
     = 0 ∧ s.flag RL_PSET.VREST n = true ∧ s.flag RL_MCTL.TSRC n = false ∧ s.follower n = false ∧ (s.rail n).mode.tune =
     none); s.dueAll = s ∧ Taken s .RL_ATCTL n (withCmd w 1) ∧ mayTune) ∧
    (∃ (s : State) (n : Fin 12) (w : Word), let mayTune := (s.rst n = stRegulate ∧ s.fld RL_MCTL.REQ n = 0 ∧ s.fld RL_MCTL.MODE n
     = 0 ∧ s.flag RL_PSET.VREST n = true ∧ s.flag RL_MCTL.TSRC n = false ∧ s.follower n = false ∧ (s.rail n).mode.tune =
     none); s.dueAll = s ∧ Taken s .RL_ATCTL n (withCmd w 1) ∧ ¬ mayTune) ∧
    (∃ (s : State) (n : Fin 12) (w : Word) (v : Tune), s.dueAll = s ∧ Taken s .RL_ATCTL n (withCmd w 2) ∧ (s.rail n).mode.tune = some v) ∧
    (∃ (s : State) (n : Fin 12) (w : Word), s.dueAll = s ∧ Taken s .RL_ATCTL n (withCmd w 2) ∧ (s.rail n).mode.tune = none) := by
  refine ⟨⟨up [(RL_MCTL.TSRC, 11, 0)], 11, 5, true, ?_⟩,
    ⟨up [(RL_MCTL.TSRC, 11, 1)], 11, false, ?_⟩,
    ⟨up [(RL_MCTL.TSRC, 11, 0)], 11, 5, ?_⟩,
    ⟨up [(RL_MCTL.TSRC, 11, 0)], 11, 0, ?_⟩,
    ⟨(up []).modMode 11 fun t => { t with tune := some { d0 := 0, fromTick := 0 } }, 11, 0, ?_⟩,
    ⟨up [], 11, 0, ?_⟩,
    ⟨up [(RL_MCTL.TSRC, 11, 0), (RL_STATUS.STATE, 11, stRegulate), (RL_PSET.VREST, 11, 1), (RL_MCTL.REQ, 11, 0), (RL_MCTL.MODE,
      11, 0)], 11, word [(RL_ATCTL.NCYC, 15), (RL_ATCTL.AMP, 0x0CCC)], ?_⟩,
    ⟨up [], 11, word [(RL_ATCTL.NCYC, 15), (RL_ATCTL.AMP, 0x0CCC)], ?_⟩,
    ⟨(up []).modMode 11 fun t => { t with tune := some { d0 := 0, fromTick := 0 } }, 11, word [(RL_ATCTL.NCYC, 15),
      (RL_ATCTL.AMP, 0x0CCC)], { d0 := 0, fromTick := 0 }, ?_⟩,
    ⟨up [], 11, word [(RL_ATCTL.NCYC, 15), (RL_ATCTL.AMP, 0x0CCC)], ?_⟩⟩
  all_goals (with_reducible refine ⟨State.dueAll_idle _ ?_, ?_⟩) <;> decide +kernel

theorem witness_ElementWrites :
    (∃ (s : State) (w : Word), let x := (setBits w 5 1 1); s.dueAll = s ∧ Taken s .TB_CTRL 0 x ∧ s.flag TB_CTRL.SRC 0 = true ∧
     TB_CTRL.SRC.of w
     = 1 ∧ TB_CTRL.RELOCK.of w = 1 ∧ s.flag TB_STATUS.HOLD 0 = true) ∧
    (∃ (s : State) (w : Word), let x := (setBits w 5 1 1); s.dueAll = s ∧ Taken s .TB_CTRL 0 x ∧ s.flag TB_CTRL.SRC 0 = true ∧
     TB_CTRL.SRC.of w
     = 1 ∧ (TB_CTRL.RELOCK.of w = 0 ∨ s.flag TB_STATUS.HOLD 0 = false)) ∧
    (∃ (s : State) (w : Word), s.dueAll = s ∧ Taken s .TB_CTRL 0 w ∧ TB_CTRL.ACQ.of w = 0 ∧ s.flag TB_CTRL.SRC 0 = true ∧
     TB_CTRL.SRC.of w = 0) ∧
    (∃ (s : State) (w : Word), s.dueAll = s ∧ Taken s .TB_CTRL 0 w ∧ TB_CTRL.ACQ.of w = 0 ∧ s.flag TB_CTRL.SRC 0 = false ∧
     TB_CTRL.SRC.of w = 1) ∧
    (∃ (s : State) (w : Word), s.dueAll = s ∧ Taken s .TB_CTRL 0 w ∧ TB_CTRL.ACQ.of w = 0 ∧ TB_CTRL.SRC.of w = s.fld TB_CTRL.SRC 0) ∧
    (∃ (s : State) (w : Word) (p : Fin 48), s.dueAll = s ∧ Taken s .PH_OVR p w ∧ s.pairIdle p = true) ∧
    (∃ (s : State) (w : Word) (p : Fin 48), s.dueAll = s ∧ Taken s .PH_OVR p w ∧ s.pairIdle p = false ∧
     (PH_OVR.INV.of w ≠ s.fld PH_OVR.INV p ∨
     (p.val % 2 = 0 ∧ PH_OVR.SWAP.of w ≠ s.fld PH_OVR.SWAP p))) ∧
    (∃ (s : State) (w : Word) (p : Fin 48), s.dueAll = s ∧ Taken s .PH_WEAR p w) ∧
    (∃ (s : State) (w : Word), s.dueAll = s ∧ Taken s .CMP_THR 0 w) ∧
    (∃ (s : State) (w : Word), s.dueAll = s ∧ Taken s .ALR_MASK 0 w) := by
  refine ⟨⟨up [(TB_CTRL.SRC, 0, 1), (TB_STATUS.HOLD, 0, 1)], word [(TB_CTRL.SRC, 1), (TB_CTRL.RELOCK, 1)], ?_⟩,
    ⟨up [(TB_CTRL.SRC, 0, 1)], word [(TB_CTRL.SRC, 1), (TB_CTRL.RELOCK, 1)], ?_⟩,
    ⟨up [(TB_CTRL.SRC, 0, 1)], 0, ?_⟩,
    ⟨up [], word [(TB_CTRL.SRC, 1)], ?_⟩,
    ⟨up [], 0, ?_⟩,
    ⟨up [], 0, 47, ?_⟩,
    ⟨up [(PH_PCFG.RAIL, 0, 0), (RL_STATUS.STATE, 0, stRamp)], word [(PH_OVR.INV, 1)], 0, ?_⟩,
    ⟨up [], 0, 47, ?_⟩,
    ⟨up [(CMP_SEL.WIN, 0, 71)], word [(CMP_THR.UPPER, 1)], ?_⟩,
    ⟨up [], 0, ?_⟩⟩
  all_goals (with_reducible refine ⟨State.dueAll_idle _ ?_, ?_⟩) <;> decide +kernel

theorem witness_GlobalCommands :
    (∃ (s : State) (w : Word), s.dueAll = s ∧ Taken s .GLB_CTRL 0 (withCmd w 1)) ∧
    (∃ (s : State) (w : Word), s.dueAll = s ∧ Taken s .GLB_CTRL 0 (withCmd w 2) ∧ s.standbyOk = true) ∧
    (∃ (s : State) (w : Word), s.dueAll = s ∧ Taken s .GLB_CTRL 0 (withCmd w 2) ∧ s.standbyOk = false) ∧
    (∃ (s : State) (w : Word), s.dueAll = s ∧ Taken s .LC_SEL 0 w) ∧
    (∃ (s : State) (w : Word) (n : Fin 12), s.dueAll = s ∧ Taken s .LK_CTRL n (withCmd w 1) ∧ LK_CTRL.EN.of w = s.fld LK_CTRL.EN n ∧ s.lst n =
     lkBound) ∧
    (∃ (s : State) (w : Word) (n : Fin 12), s.dueAll = s ∧ Taken s .LK_CTRL n (withCmd w 1) ∧ LK_CTRL.EN.of w = s.fld LK_CTRL.EN n ∧ s.lst n ≠
     lkBound) ∧
    (∃ (s : State) (w : Word) (n : Fin 12), s.dueAll = s ∧ Taken s .LK_CTRL n w ∧ LK_CTRL.CMD.of w = 0 ∧ s.rst n = stOff ∧
     s.flag LK_CTRL.EN n =
     false ∧ LK_CTRL.EN.of w = 1 ∧ s.lst n = lkOff) ∧
    (∃ (s : State) (w : Word) (n : Fin 12), s.dueAll = s ∧ Taken s .LK_CTRL n w ∧ LK_CTRL.CMD.of w = 0 ∧ s.rst n = stOff ∧
     s.flag LK_CTRL.EN n =
     true ∧ LK_CTRL.EN.of w = 0) ∧
    (∃ (s : State) (w : Word) (n : Fin 12), s.dueAll = s ∧ Taken s .LK_CTRL n w ∧ LK_CTRL.CMD.of w = 0 ∧ s.rst n ≠ stOff ∧ LK_CTRL.EN.of w ≠
     s.fld LK_CTRL.EN n) := by
  refine ⟨⟨up [], 0, ?_⟩,
    ⟨up [], 0, ?_⟩,
    ⟨up [(RL_STATUS.STATE, 11, stFault)], 0, ?_⟩,
    ⟨up [], 0, ?_⟩,
    ⟨up [(LK_STATUS.LSTATE, 11, lkBound), (LK_CTRL.EN, 11, 1)], word [(LK_CTRL.EN, 1), (LK_CTRL.WDOG, 50)], 11, ?_⟩,
    ⟨up [], word [(LK_CTRL.WDOG, 5000)], 0, ?_⟩,
    ⟨up [], word [(LK_CTRL.EN, 1), (LK_CTRL.WDOG, 50)], 11, ?_⟩,
    ⟨up [(LK_CTRL.EN, 0, 1)], word [(LK_CTRL.WDOG, 5000)], 0, ?_⟩,
    ⟨up [(RL_STATUS.STATE, 0, stRamp)], word [(LK_CTRL.EN, 1), (LK_CTRL.WDOG, 50)], 0, ?_⟩⟩
  all_goals (with_reducible refine ⟨State.dueAll_idle _ ?_, ?_⟩) <;> decide +kernel

theorem witness_TimersAndChannels :
    (∃ (s : State) (w : Word) (k : Fin 12), s.dueAll = s ∧ Taken s .TM_CNT k w) ∧
    (∃ (s : State) (w : Word) (k : Fin 12), s.dueAll = s ∧ Taken s .TM_TOP k w) ∧
    (∃ (s : State) (w : Word), s.dueAll = s ∧ Taken s .TM_CHVAL 0 w) ∧
    (∃ (s : State) (w : Word), s.dueAll = s ∧ Taken s .TM_CHCFG 0 w ∧ s.fld TM_CHSEL.TIMER 0 < 12) ∧
    (∃ (s : State) (k : Fin 12), (s.timer k).slaveAt = [] ∧ s.timerRuns k = true ∧ s.fld TM_CTRL.SLV k ≠ 3 ∧ s.pins.tioQ = [] ∧
     s.chMode k 3 = 1 ∧ s.fld TM_CHVAL.VALUE (chanKey k 3) = 1 ∧ s.fld TM_CNT.COUNT k = 0 ∧ (s.timer k).top ≠ 0) ∧
    (∃ (s : State) (k : Fin 12) (e : Nat) (q : List Nat), (s.timer k).slaveAt = e :: q ∧ e ≤ s.stepDue k ∧ s.fld TM_CTRL.SLV k = 2 ∧
     s.timerAwake k = true ∧ s.power.mode = .running ∧ s.pins.tioQ = []) ∧
    (∃ (s : State) (i : Fin 8) (x : TioEdge), s.power.mode = .running ∧ 4 ≤ x.held ∧ bitAt s.seenAll.pins.tioSeen i ≠ x.rising) ∧
    (∃ (s : State) (x : TioEdge), s.power.mode = .running ∧ x.held < 4) ∧
    (∃ (s : State) (i : Fin 8) (x : TioEdge), s.power.mode = .running ∧ bitAt s.seenAll.pins.tioSeen i = x.rising) ∧
    (∃ (s : State) (a : Nat) (j : Fin 8) (rising : Bool),
     let k := railOf (s.fld TIO_AUX.SEL j)
     let c := s.active.tio[j].chan % 4
     let edge := s.fld TM_CHCFG.EDGE (chanKey k c)
     s.power.mode = .running ∧ s.pins.tioQ = [(a, j, rising)] ∧ a ≤ s.now ∧ s.fld TIO_AUX.FUNC j = 2 ∧ s.capturePin k c = some j ∧
     s.chMode k c = 2 ∧ s.power.halted = false ∧ ¬ (edge = 0 ∧ rising = false) ∧ ¬ (edge = 1 ∧ rising = true)) ∧
    (∃ (s : State) (i : Fin 8) (t : Nat), (s.rail (railOf (s.fld TIO_AUX.SEL i))).life.contAt = some t ∧ s.power.mode = .running ∧
     s.fld TIO_AUX.FUNC i = 3 ∧ s.flag TIO_AUX.ECO i = true) := by
  refine ⟨⟨up [], 0, 11, ?_⟩,
    ⟨up [], 0, 11, ?_⟩,
    ⟨up [], 0, ?_⟩,
    ⟨up [(TM_CHSEL.TIMER, 0, 11)], 0, ?_⟩,
    ⟨(up [(TM_CTRL.EN, 11, 1), (TM_CHCFG.MODE, 47, 1), (TM_CHVAL.VALUE, 47, 1)]).modTimer 11 fun x => { x with top := 1 }, 11, ?_⟩,
    ⟨(up [(TM_CTRL.EN, 11, 1), (TM_CTRL.SLV, 11, 2)]).modTimer 11 fun x => { x with slaveAt := [0] }, 11, 0, [], ?_⟩,
    ⟨up [], 7, { rising := true, held := 4 }, ?_⟩,
    ⟨up [], { rising := true, held := 3 }, ?_⟩,
    ⟨up [], 7, { rising := false, held := 4 }, ?_⟩,
    ⟨{ (up [(TIO_AUX.FUNC, 7, 2), (TIO_AUX.SEL, 7, 11), (TM_CHCFG.MODE, 47, 2)]).modPins (fun p => { p with tioQ := [(0, 7, true)] }) with
        active := { tio := Vector.replicate 8 { chan := 3 } } }, 0, 7, true, ?_⟩,
    ⟨(up [(TIO_AUX.FUNC, 7, 3), (TIO_AUX.SEL, 7, 11), (TIO_AUX.ECO, 7, 1)]).modLife 11 fun t => { t with contAt := some 0 }, 7,
      0, ?_⟩⟩
  all_goals first
    | (with_reducible refine ⟨State.dueAll_idle _ ?_, ?_⟩) <;> decide +kernel
    | decide +kernel

theorem witness_Activations :
    (∃ (s : State) (w : Word) (firmware : Bool), let e := (s.fld LY_ACTE_HI.EPOCH_H 0 * 2 ^ 32 + s.fld LY_ACTE_LO.EPOCH_L 0); s.dueAll = s
     ∧ let
     kind := (if firmware then 2 else 1); Taken s .LY_ACT 0 (withCmd w kind) ∧ e < s.E + 64) ∧
    (∃ (s : State) (w : Word) (firmware : Bool), let e := (s.fld LY_ACTE_HI.EPOCH_H 0 * 2 ^ 32 + s.fld LY_ACTE_LO.EPOCH_L 0); s.dueAll = s
     ∧ let
     id := ((s.lan.nextAct + 1) % 256); let kind := (if firmware then 2 else 1); Taken s .LY_ACT 0 (withCmd w kind) ∧ s.E +
     64 ≤ e ∧ s.lan.acts.contains (s.me, id) = false) ∧
    (∃ (s : State) (src : Nat) (actid : Nat), s.power.mode = .running ∧ s.lyUp = true ∧ s.lan.acts.contains (src, actid) = true) ∧
    (∃ (s : State) (src : Nat) (actid : Nat), s.power.mode = .running ∧ s.lyUp = true ∧ s.lan.acts.contains (src, actid) = false) ∧
    (∃ (s : State) (src : Nat) (kind : Nat) (a : ActX), s.power.mode = .running ∧ s.lyUp = true ∧ s.lan.latest = some a ∧ a.kind
     = kind ∧ src < 64) := by
  refine ⟨⟨up [(LY_ACTE_LO.EPOCH_L, 0, 63)], 0, false, ?_⟩,
    ⟨up [(LY_ACTE_LO.EPOCH_L, 0, 64)], 0, true, ?_⟩,
    ⟨(up [(LY_CTRL.EN, 0, 1), (LY_STATUS.MODE, 0, lyRing), (LY_STATUS.NM1, 0, 63)]).modLan fun t =>
      { t with acts := [(63, 1)] }, 63, 1, ?_⟩,
    ⟨up [(LY_CTRL.EN, 0, 1), (LY_STATUS.MODE, 0, lyRing), (LY_STATUS.NM1, 0, 63)], 63, 1, ?_⟩,
    ⟨(up [(LY_CTRL.EN, 0, 1), (LY_STATUS.MODE, 0, lyRing), (LY_STATUS.NM1, 0, 63)]).modLan fun t =>
      { t with latest := some { src := 0, actid := 1, kind := 1, epoch := 0 } }, 63, 1,
      { src := 0, actid := 1, kind := 1, epoch := 0 }, ?_⟩⟩
  all_goals first
    | (with_reducible refine ⟨State.dueAll_idle _ ?_, ?_⟩) <;> decide +kernel
    | decide +kernel

theorem witness_PackReports :
    (∃ (s : State) (n : Fin 12),
     s.power.mode = .running ∧ s.lst n = lkOff) ∧
    (∃ (s : State) (n : Fin 12) (len : Nat),
     s.power.mode = .running ∧ s.lst n ≠ lkOff ∧ (s.atEnd n len).deaf n (frameTicks len) = true) ∧
    (∃ (s : State) (n : Fin 12) (len : Nat) (li : LightIn),
     s.power.mode = .running ∧ s.lst n ≠ lkOff ∧ (s.atEnd n len).deaf n (frameTicks len) = false ∧ spoiling li = true) ∧
    (∃ (s : State) (n : Fin 12) (len : Nat) (li : LightIn),
     s.power.mode = .running ∧ s.lst n ≠ lkOff ∧ (s.atEnd n len).deaf n (frameTicks len) = false ∧ spoiling li = false ∧ (heard s n len
     li).svRuns = false) ∧
    (∃ (s : State) (n : Fin 12) (seq : Fin 16) (p : List Byte) (li : LightIn) (e : Byte × Instr) (a : Nat × Nat × Nat),
     let x := heard s n p.length li
     s.power.mode = .running ∧ Heard s n p.length li x ∧ e = (1, .ident n seq ⟨p, li⟩) ∧ (x.link n).accepted = some a ∧ a.1 = seq.val ∧
     a.2.1 ≠ crc16 (linkBody 0 e.1.toNat seq.val p)) ∧
    (∃ (s : State) (n : Fin 12) (seq : Fin 16) (p : List Byte) (li : LightIn),
     let x := heard s n p.length li
     s.power.mode = .running ∧ Heard s n p.length li x ∧ (∀ a ∈ (x.link n).accepted, a.1 ≠ seq.val) ∧ p.length = 16 ∧ x.lst n = lkSearch
     ∧ (payNat p 10 1 = 1 ∧ 1 ≤ payNat p 8 1 ∧ payNat p 8 1 ≤ 24 ∧ payNat p 14 2 ≠ 0)) ∧
    (∃ (s : State) (n : Fin 12) (seq : Fin 16) (p : List Byte) (li : LightIn),
     let x := heard s n p.length li
     s.power.mode = .running ∧ Heard s n p.length li x ∧ (∀ a ∈ (x.link n).accepted, a.1 ≠ seq.val) ∧ p.length = 16 ∧ x.lst n = lkBound ∧
     (payNat p 10 1 = 1 ∧ 1 ≤ payNat p 8 1 ∧ payNat p 8 1 ≤ 24 ∧ payNat p 14 2 ≠ 0) ∧ x.reg .LK_ID_HI n = BitVec.ofNat 32 (payNat p 0 4)
     ∧ x.reg .LK_ID_LO n = BitVec.ofNat 32 (payNat p 4 4)) ∧
    (∃ (s : State) (n : Fin 12) (seq : Fin 16) (p : List Byte) (li : LightIn),
     let x := heard s n p.length li
     s.power.mode = .running ∧ Heard s n p.length li x ∧ (∀ a ∈ (x.link n).accepted, a.1 ≠ seq.val) ∧ p.length = 16 ∧ x.lst n = lkBound ∧
     (payNat p 10 1 = 1 ∧ 1 ≤ payNat p 8 1 ∧ payNat p 8 1 ≤ 24 ∧ payNat p 14 2 ≠ 0) ∧ x.reg .LK_ID_HI n ≠ BitVec.ofNat 32 (payNat p 0 4))
     ∧
    (∃ (s : State) (n : Fin 12) (seq : Fin 16) (p : List Byte) (li : LightIn),
     let x := heard s n p.length li
     s.power.mode = .running ∧ Heard s n p.length li x ∧ (∀ a ∈ (x.link n).accepted, a.1 ≠ seq.val) ∧ p.length = 16 ∧ x.lst n = lkBound ∧
     ¬ (payNat p 10 1 = 1 ∧ 1 ≤ payNat p 8 1 ∧ payNat p 8 1 ≤ 24 ∧ payNat p 14 2 ≠ 0)) ∧
    (∃ (s : State) (n : Fin 12) (seq : Fin 16) (p : List Byte) (li : LightIn),
     let x := heard s n p.length li
     s.power.mode = .running ∧ Heard s n p.length li x ∧ (∀ a ∈ (x.link n).accepted, a.1 ≠ seq.val) ∧ p.length = 8 ∧ x.lst n = lkBound ∧
     bitAt (payNat p 6 2) 2 = true ∧ x.flag RL_MCTL.TSRC n = true ∧ 0 < payNat p 0 4 ∧ x.rst n ≠ stPrematch) ∧
    (∃ (s : State) (n : Fin 12) (seq : Fin 16) (p : List Byte) (li : LightIn),
     let x := heard s n p.length li
     s.power.mode = .running ∧ Heard s n p.length li x ∧ (∀ a ∈ (x.link n).accepted, a.1 ≠ seq.val) ∧ p.length = 8 ∧ x.lst n = lkBound ∧
     x.flag RL_MCTL.TSRC n = false ∧ 0 < payNat p 0 4) ∧
    (∃ (s : State) (n : Fin 12) (seq : Fin 16) (p : List Byte) (li : LightIn),
     let x := heard s n p.length li
     s.power.mode = .running ∧ Heard s n p.length li x ∧ (∀ a ∈ (x.link n).accepted, a.1 ≠ seq.val) ∧ p.length = 8 ∧ x.lst n = lkBound ∧
     payNat p 0 4 = 0) ∧
    (∃ (s : State) (n : Fin 12) (seq : Fin 16) (p : List Byte) (li : LightIn),
     let x := heard s n p.length li
     s.power.mode = .running ∧ Heard s n p.length li x ∧ (∀ a ∈ (x.link n).accepted, a.1 ≠ seq.val) ∧ p.length = 8 ∧ x.lst n = lkSearch) ∧
    (∃ (s : State) (n : Fin 12) (seq : Fin 16) (p : List Byte) (li : LightIn),
     let x := heard s n p.length li
     s.power.mode = .running ∧ Heard s n p.length li x ∧ (∀ a ∈ (x.link n).accepted, a.1 ≠ seq.val) ∧ p.length = 6 ∧ x.lst n = lkSearch) ∧
    (∃ (s : State) (n : Fin 12) (seq : Fin 16) (p : List Byte) (li : LightIn),
     let x := heard s n p.length li
     let t := fun i => signedOf 16 (payNat p i 2)
     s.power.mode = .running ∧ Heard s n p.length li x ∧ (∀ a ∈ (x.link n).accepted, a.1 ≠ seq.val) ∧ p.length = 6 ∧ x.lst n = lkBound ∧
     t 4 ≤ t 0 ∧ t 0 ≤ t 2) ∧
    (∃ (s : State) (n : Fin 12) (seq : Fin 16) (p : List Byte) (li : LightIn),
     let x := heard s n p.length li
     let t := fun i => signedOf 16 (payNat p i 2)
     s.power.mode = .running ∧ Heard s n p.length li x ∧ (∀ a ∈ (x.link n).accepted, a.1 ≠ seq.val) ∧ p.length = 6 ∧ x.lst n = lkBound ∧
     t 2 < t 0) := by
  refine ⟨⟨up [], 11, ?_⟩,
    ⟨{ ((linked lkBound []).modLink 11 fun t => { t with tx := some (0, 0) }) with now := 1 }, 11, 0, ?_⟩,
    ⟨linked lkBound [], 11, 0, { totalMax := 651 }, ?_⟩,
    ⟨up [(LK_STATUS.LSTATE, 11, lkBound)], 11, 0, { amb := 220, total := 650, ambMax := 220, totalMax := 650 }, ?_⟩,
    ⟨(linked lkBound []).modLink 11 fun t => { t with accepted := some (15, 0, 0) }, 11, 15, [], {}, (1, .ident 11 15 ⟨[], {}⟩), (15, 0,
     0), ?_⟩,
    ⟨linked lkSearch [], 11, 15, [0, 0, 0, 1, 0, 0, 0, 2, 24, 0, 1, 0, 0, 0, 1, 0],
     { amb := 220, total := 650, ambMax := 220, totalMax := 650 }, ?_⟩,
    ⟨(linked lkBound []).setReg .LK_ID_HI 11 1 |>.setReg .LK_ID_LO 11 2, 11, 15, [0, 0, 0, 1, 0, 0, 0, 2, 24, 0, 1, 0, 0, 0, 1, 0], {},
     ?_⟩,
    ⟨linked lkBound [], 11, 15, [0, 0, 0, 1, 0, 0, 0, 2, 24, 0, 1, 0, 0, 0, 1, 0], {}, ?_⟩,
    ⟨linked lkBound [], 11, 15, [0, 0, 0, 1, 0, 0, 0, 2, 25, 0, 1, 0, 0, 0, 1, 0], {}, ?_⟩,
    ⟨linked lkBound [(RL_MCTL.TSRC, 11, 1)], 11, 15, [0, 0, 0, 1, 0, 0, 0, 4], {}, ?_⟩,
    ⟨linked lkBound [(RL_MCTL.TSRC, 11, 0)], 11, 15, [0, 0, 0, 1, 0, 0, 0, 4], {}, ?_⟩,
    ⟨linked lkBound [(RL_MCTL.TSRC, 11, 1)], 11, 15, List.replicate 8 0, {}, ?_⟩,
    ⟨linked lkSearch [], 11, 15, List.replicate 8 0, {}, ?_⟩,
    ⟨linked lkSearch [], 11, 15, List.replicate 6 0, {}, ?_⟩,
    ⟨linked lkBound [], 11, 15, List.replicate 6 0, {}, ?_⟩,
    ⟨linked lkBound [], 11, 15, [1, 0, 0, 0, 0, 0], {}, ?_⟩⟩
  all_goals first
    | (with_reducible refine ⟨?_, heard_of ?_, ?_⟩) <;> decide +kernel
    | decide +kernel

theorem witness_PackCommands :
    (∃ (s : State) (n : Fin 12),
     s.power.mode = .running ∧ s.lst n = lkOff) ∧
    (∃ (s : State) (n : Fin 12) (len : Nat),
     s.power.mode = .running ∧ s.lst n ≠ lkOff ∧ (s.atEnd n len).deaf n (frameTicks len) = true) ∧
    (∃ (s : State) (n : Fin 12) (len : Nat) (li : LightIn),
     s.power.mode = .running ∧ s.lst n ≠ lkOff ∧ (s.atEnd n len).deaf n (frameTicks len) = false ∧ spoiling li = true) ∧
    (∃ (s : State) (n : Fin 12) (len : Nat) (li : LightIn),
     s.power.mode = .running ∧ s.lst n ≠ lkOff ∧ (s.atEnd n len).deaf n (frameTicks len) = false ∧ spoiling li = false ∧ (heard s n len
     li).svRuns = false) ∧
    (∃ (s : State) (n : Fin 12) (seq : Fin 16) (p : List Byte) (li : LightIn),
     let x := heard s n p.length li
     s.power.mode = .running ∧ Heard s n p.length li x ∧ (∀ a ∈ (x.link n).accepted, a.1 ≠ seq.val) ∧ p.length = 4 ∧ x.lst n = lkSearch) ∧
    (∃ (s : State) (n : Fin 12) (seq : Fin 16) (p : List Byte) (li : LightIn) (e : Byte × Nat × Instr) (a : Nat × Nat × Nat),
     let x := heard s n p.length li
     s.power.mode = .running ∧ Heard s n p.length li x ∧ e = (7, 1, .reven n seq ⟨p, li⟩) ∧ (x.link n).accepted = some a ∧ a.1 = seq.val
     ∧ a.2.1 ≠ crc16 (linkBody 0 e.1.toNat seq.val p)) ∧
    (∃ (s : State) (n : Fin 12) (seq : Fin 16) (p : List Byte) (li : LightIn),
     let x := heard s n p.length li
     s.power.mode = .running ∧ Heard s n p.length li x ∧ (∀ a ∈ (x.link n).accepted, a.1 ≠ seq.val) ∧ x.lst n = lkBound ∧ p.length = 4 ∧
     x.flag RL_MCTL.TSRC n = false) ∧
    (∃ (s : State) (n : Fin 12) (seq : Fin 16) (p : List Byte) (li : LightIn),
     let x := heard s n p.length li
     s.power.mode = .running ∧ Heard s n p.length li x ∧ (∀ a ∈ (x.link n).accepted, a.1 ≠ seq.val) ∧ x.lst n = lkBound ∧ p.length = 4 ∧
     x.flag RL_MCTL.TSRC n = true ∧ (x.fld RL_UV.MV n < payNat p 0 4 ∧ payNat p 0 4 < x.fld RL_OV.MV n ∧ payNat p 0 4 ≤ x.fld
     LK_PINFO.VMAX n * 10 ∧ payNat p 0 4 ≤ 1048575) ∧ x.tuning n = false) ∧
    (∃ (s : State) (n : Fin 12) (seq : Fin 16) (p : List Byte) (li : LightIn),
     let x := heard s n p.length li
     s.power.mode = .running ∧ Heard s n p.length li x ∧ (∀ a ∈ (x.link n).accepted, a.1 ≠ seq.val) ∧ x.lst n = lkBound ∧ p.length = 4 ∧
     x.flag RL_MCTL.TSRC n = true ∧ ¬ (x.fld RL_UV.MV n < payNat p 0 4 ∧ payNat p 0 4 < x.fld RL_OV.MV n ∧ payNat p 0 4 ≤ x.fld
     LK_PINFO.VMAX n * 10 ∧ payNat p 0 4 ≤ 1048575)) ∧
    (∃ (s : State) (n : Fin 12) (seq : Fin 16) (p : List Byte) (li : LightIn),
     let x := heard s n p.length li
     s.power.mode = .running ∧ Heard s n p.length li x ∧ (∀ a ∈ (x.link n).accepted, a.1 ≠ seq.val) ∧ x.lst n = lkBound ∧ p.length = 2 ∧
     x.flag RL_MCTL.TSRC n = false) ∧
    (∃ (s : State) (n : Fin 12) (seq : Fin 16) (p : List Byte) (li : LightIn),
     let x := heard s n p.length li
     s.power.mode = .running ∧ Heard s n p.length li x ∧ (∀ a ∈ (x.link n).accepted, a.1 ≠ seq.val) ∧ x.lst n = lkBound ∧ p.length = 2 ∧
     x.flag RL_MCTL.TSRC n = true) ∧
    (∃ (s : State) (n : Fin 12) (seq : Fin 16) (p : List Byte) (li : LightIn),
     let x := heard s n p.length li
     s.power.mode = .running ∧ Heard s n p.length li x ∧ (∀ a ∈ (x.link n).accepted, a.1 ≠ seq.val) ∧ x.lst n = lkBound ∧ p.length = 1 ∧
     payNat p 0 1 = 1) ∧
    (∃ (s : State) (n : Fin 12) (seq : Fin 16) (p : List Byte) (li : LightIn),
     let x := heard s n p.length li
     s.power.mode = .running ∧ Heard s n p.length li x ∧ (∀ a ∈ (x.link n).accepted, a.1 ≠ seq.val) ∧ x.lst n = lkBound ∧ p.length = 1 ∧
     payNat p 0 1 = 0 ∧ x.rst n = stRamp ∧ (x.rail n).life.stopReq = none) ∧
    (∃ (s : State) (n : Fin 12) (seq : Fin 16) (p : List Byte) (li : LightIn),
     let x := heard s n p.length li
     s.power.mode = .running ∧ Heard s n p.length li x ∧ (∀ a ∈ (x.link n).accepted, a.1 ≠ seq.val) ∧ x.lst n = lkBound ∧ p.length = 1 ∧
     1 < payNat p 0 1) ∧
    (∃ (s : State) (n : Fin 12) (seq : Fin 16) (p : List Byte) (li : LightIn),
     let x := heard s n p.length li
     s.power.mode = .running ∧ Heard s n p.length li x ∧ (∀ a ∈ (x.link n).accepted, a.1 ≠ seq.val) ∧ x.lst n = lkBound ∧ p.length = 1 ∧
     payNat p 0 1 = 1 ∧ s.active.loop[n].revallow = true) ∧
    (∃ (s : State) (n : Fin 12) (seq : Fin 16) (p : List Byte) (li : LightIn),
     let x := heard s n p.length li
     s.power.mode = .running ∧ Heard s n p.length li x ∧ (∀ a ∈ (x.link n).accepted, a.1 ≠ seq.val) ∧ x.lst n = lkBound ∧ p.length = 1 ∧
     payNat p 0 1 = 1 ∧ s.active.loop[n].revallow = false) ∧
    (∃ (s : State) (n : Fin 12) (seq : Fin 16) (p : List Byte) (li : LightIn),
     let x := heard s n p.length li
     s.power.mode = .running ∧ Heard s n p.length li x ∧ (∀ a ∈ (x.link n).accepted, a.1 ≠ seq.val) ∧ x.lst n ≠ lkOff) ∧
    (∃ (s : State) (n : Fin 12) (seq : Fin 16) (p : List Byte) (li : LightIn) (res : Nat) (e : Byte × Nat × Instr),
     let x := heard s n p.length li
     s.power.mode = .running ∧ Heard s n p.length li x ∧ e = (4, 4, .vtarget n seq ⟨p, li⟩) ∧ (x.link n).accepted = some (seq.val, crc16
     (linkBody 0 e.1.toNat seq.val p), res)) := by
  refine ⟨⟨up [], 11, ?_⟩,
    ⟨{ ((linked lkBound []).modLink 11 fun t => { t with tx := some (0, 0) }) with now := 1 }, 11, 0, ?_⟩,
    ⟨linked lkBound [], 11, 0, { totalMax := 651 }, ?_⟩,
    ⟨up [(LK_STATUS.LSTATE, 11, lkBound)], 11, 0, { amb := 220, total := 650, ambMax := 220, totalMax := 650 }, ?_⟩,
    ⟨linked lkSearch [], 11, 15, [0, 0, 0, 0], {}, ?_⟩,
    ⟨(linked lkBound []).modLink 11 fun t => { t with accepted := some (15, 0, 0) }, 11, 15, [1], {}, (7, 1, .reven 11 15 ⟨[1], {}⟩),
     (15, 0, 0), ?_⟩,
    ⟨linked lkBound [(RL_MCTL.TSRC, 11, 0)], 11, 15, [0, 0, 0, 0], { amb := 220, total := 650, ambMax := 220, totalMax := 650 }, ?_⟩,
    ⟨linked lkBound [(RL_MCTL.TSRC, 11, 1), (LK_PINFO.VMAX, 11, 1), (RL_UV.MV, 11, 9), (RL_OV.MV, 11, 11)], 11, 15, [0, 0, 0, 10], {},
     ?_⟩,
    ⟨linked lkBound [(RL_MCTL.TSRC, 11, 1), (LK_PINFO.VMAX, 11, 1), (RL_UV.MV, 11, 9), (RL_OV.MV, 11, 12)], 11, 15, [0, 0, 0, 11], {},
     ?_⟩,
    ⟨linked lkBound [(RL_MCTL.TSRC, 11, 0)], 11, 15, [0, 0], {}, ?_⟩,
    ⟨linked lkBound [(RL_MCTL.TSRC, 11, 1)], 11, 15, [128, 0], {}, ?_⟩,
    ⟨linked lkBound [], 11, 15, [1], {}, ?_⟩,
    ⟨linked lkBound [(RL_STATUS.STATE, 11, stRamp)], 11, 15, [0], {}, ?_⟩,
    ⟨linked lkBound [], 11, 15, [2], {}, ?_⟩,
    ⟨{ linked lkBound [] with active := { loop := Vector.replicate 12 { revallow := true } } }, 11, 15, [1], {}, ?_⟩,
    ⟨linked lkBound [], 11, 15, [1], {}, ?_⟩,
    ⟨linked lkSearch [], 11, 15, [], {}, ?_⟩,
    ⟨(linked lkBound []).modLink 11 fun t => { t with accepted := some (15, crc16 (linkBody 0 4 15 []), 1) }, 11, 15, [], {}, 1, (4, 4,
     .vtarget 11 15 ⟨[], {}⟩), ?_⟩⟩
  all_goals first
    | (with_reducible refine ⟨?_, heard_of ?_, ?_⟩) <;> decide +kernel
    | decide +kernel

theorem witness_LinkEvents :
    (∃ (s : State) (n : Fin 12),
     s.power.mode = .running ∧ s.lst n = lkOff) ∧
    (∃ (s : State) (n : Fin 12) (len : Nat),
     s.power.mode = .running ∧ s.lst n ≠ lkOff ∧ (s.atEnd n len).deaf n (frameTicks len) = true) ∧
    (∃ (s : State) (n : Fin 12) (len : Nat) (li : LightIn),
     s.power.mode = .running ∧ s.lst n ≠ lkOff ∧ (s.atEnd n len).deaf n (frameTicks len) = false ∧ spoiling li = true) ∧
    (∃ (s : State) (n : Fin 12) (len : Nat) (li : LightIn),
     s.power.mode = .running ∧ s.lst n ≠ lkOff ∧ (s.atEnd n len).deaf n (frameTicks len) = false ∧ spoiling li = false ∧ (heard s n len
     li).svRuns = false) ∧
    (∃ (s : State) (n : Fin 12),
     s.power.mode = .running ∧ s.lst n ≠ lkBound) ∧
    (∃ (s : State) (n : Fin 12),
     s.power.mode = .running ∧ s.lst n = lkBound ∧ (s.link n).queue = []) ∧
    (∃ (s : State) (n : Fin 12),
     s.power.mode = .running ∧ s.lst n = lkBound ∧ (s.link n).out ≠ none) ∧
    (∃ (s : State) (n : Fin 12) (e : NoteEvent) (r : List NoteEvent),
     s.power.mode = .running ∧ s.lst n = lkBound ∧ (s.link n).queue = e :: r ∧ (s.link n).out = none) ∧
    (∃ (s : State) (n : Fin 12),
     s.power.mode = .running ∧ (s.link n).out = none) ∧
    (∃ (s : State) (n : Fin 12) (o : NoteOut),
     s.power.mode = .running ∧ (s.link n).out = some o ∧ o.tries < s.linkRetry n) ∧
    (∃ (s : State) (n : Fin 12) (o : NoteOut),
     s.power.mode = .running ∧ (s.link n).out = some o ∧ s.linkRetry n ≤ o.tries) ∧
    (∃ (s : State) (n : Fin 12) (seq : Fin 16) (p : List Byte) (li : LightIn) (o : NoteOut),
     let t := heard s n p.length li
     s.power.mode = .running ∧ s.lst n ≠ lkOff ∧ (s.atEnd n p.length).deaf n (frameTicks p.length) = false ∧ spoiling li = false ∧
     (t.link n).out = some o ∧ t.svRuns = true ∧ p.length = 2 ∧ o.seq = seq.val ∧ t.now ≤ o.close + 6 * 16 * us) ∧
    (∃ (s : State) (n : Fin 12) (seq : Fin 16) (p : List Byte) (li : LightIn) (o : NoteOut),
     let t := heard s n p.length li
     s.power.mode = .running ∧ s.lst n ≠ lkOff ∧ (s.atEnd n p.length).deaf n (frameTicks p.length) = false ∧ spoiling li = false ∧
     (t.link n).out = some o ∧ ¬ (t.svRuns = true ∧ p.length = 2 ∧ o.seq = seq.val ∧ t.now ≤ o.close + 6 * 16 * us)) ∧
    (∃ (s : State) (n : Fin 12) (p : List Byte) (li : LightIn),
     let t := heard s n p.length li
     s.power.mode = .running ∧ s.lst n ≠ lkOff ∧ (s.atEnd n p.length).deaf n (frameTicks p.length) = false ∧ spoiling li = false ∧
     (t.link n).out = none) ∧
    (∃ (s : State) (n : Fin 12),
     s.power.mode = .running ∧ s.lst n ≠ lkSearch) ∧
    (∃ (s : State) (n : Fin 12),
     s.power.mode = .running ∧ s.lst n = lkSearch) ∧
    (∃ (s : State) (n : Fin 12),
     s.power.mode = .running ∧ s.lst n = lkBound) ∧
    (∃ (s : State) (n : Fin 12),
     s.power.mode = .running ∧ s.flag LK_STATUS.WDRUN n = false) ∧
    (∃ (s : State) (n : Fin 12),
     s.power.mode = .running ∧ s.flag LK_STATUS.WDRUN n = true) ∧
    (∃ (s : State) (n : Fin 12),
     s.power.mode = .running ∧ ((s.link n).report = none ∨ s.flag LK_STATUS.TAGE n = true)) ∧
    (∃ (s : State) (n : Fin 12) (r : PackTemp),
     s.power.mode = .running ∧ (s.link n).report = some r ∧ s.flag LK_STATUS.TAGE n = false) ∧
    (∃ (s : State) (n : Fin 12) (dur : Nat),
     let t := s.linkBegun n (s.now - dur)
     s.power.mode = .running ∧ s.lst n ≠ lkOff ∧ t.deaf n dur = true) ∧
    (∃ (s : State) (n : Fin 12) (dur : Nat) (li : LightIn),
     let t := s.linkBegun n (s.now - dur)
     s.power.mode = .running ∧ s.lst n ≠ lkOff ∧ t.deaf n dur = false ∧ spoiling li = true) ∧
    (∃ (s : State) (n : Fin 12) (dur : Nat) (li : LightIn),
     let t := s.linkBegun n (s.now - dur)
     s.power.mode = .running ∧ s.lst n ≠ lkOff ∧ t.deaf n dur = false ∧ spoiling li = false) := by
  refine ⟨⟨up [], 11, ?_⟩,
    ⟨{ ((linked lkBound []).modLink 11 fun t => { t with tx := some (0, 0) }) with now := 1 }, 11, 0, ?_⟩,
    ⟨linked lkBound [], 11, 0, { totalMax := 651 }, ?_⟩,
    ⟨up [(LK_STATUS.LSTATE, 11, lkBound)], 11, 0, { amb := 220, total := 650, ambMax := 220, totalMax := 650 }, ?_⟩,
    ⟨up [], 11, ?_⟩,
    ⟨linked lkBound [], 11, ?_⟩,
    ⟨(linked lkBound []).modLink 11 fun t => { t with out := some (note 0) }, 11, ?_⟩,
    ⟨(linked lkBound []).modLink 11 fun t => { t with queue := [{ event := 1, cause := 0, state := 0 }] }, 11,
     { event := 1, cause := 0, state := 0 }, [], ?_⟩,
    ⟨up [], 11, ?_⟩,
    ⟨(linked lkBound [(LK_CTRL.RETRY, 11, 1)]).modLink 11 fun t => { t with out := some (note 0) }, 11, note 0, ?_⟩,
    ⟨(linked lkBound [(LK_CTRL.RETRY, 11, 1)]).modLink 11 fun t => { t with out := some (note 1) }, 11, note 1, ?_⟩,
    ⟨(linked lkBound []).modLink 11 fun t => { t with out := some (note 1) }, 11, 15, [0, 8],
     { amb := 220, total := 650, ambMax := 220, totalMax := 650 }, note 1, ?_⟩,
    ⟨(linked lkBound []).modLink 11 fun t => { t with out := some (note 1) }, 11, 15, [8], {}, note 1, ?_⟩,
    ⟨linked lkBound [], 11, [], {}, ?_⟩,
    ⟨up [], 11, ?_⟩,
    ⟨linked lkSearch [], 11, ?_⟩,
    ⟨linked lkBound [], 11, ?_⟩,
    ⟨up [], 11, ?_⟩,
    ⟨up [(LK_STATUS.WDRUN, 11, 1)], 11, ?_⟩,
    ⟨up [], 11, ?_⟩,
    ⟨(up [(LK_STATUS.TAGE, 11, 0)]).modLink 11 fun t => { t with report := some { tavg := 0, tmax := 0, tmin := 0, at_ := 0 } }, 11,
     { tavg := 0, tmax := 0, tmin := 0, at_ := 0 }, ?_⟩,
    ⟨{ ((linked lkBound []).modLink 11 fun t => { t with tx := some (0, 0) }) with now := 1 }, 11, 0, ?_⟩,
    ⟨linked lkSearch [], 11, 0, { ambMax := 221 }, ?_⟩,
    ⟨linked lkSearch [], 11, 0, { amb := 220, total := 650, ambMax := 220, totalMax := 650 }, ?_⟩⟩
  all_goals decide +kernel

theorem witness_BusWrites :
    (∃ (s : State) (a : Nat), s.dueAll = s ∧
     s.dueAll = s ∧
     s.power.mode = .running ∧ a < 65536 ∧ s.ready = false) ∧
    (∃ (s : State) (a : Nat), s.dueAll = s ∧
     s.dueAll = s ∧
     s.power.mode = .running ∧ a < 65536 ∧ s.ready = true ∧ a % 4 ≠ 0) ∧
    (∃ (s : State) (a : Nat), s.dueAll = s ∧
     s.dueAll = s ∧
     s.power.mode = .running ∧ a < 65536 ∧ s.ready = true ∧ a % 4 = 0 ∧ s.bus.pec < 2) ∧
    (∃ (s : State) (a : Nat) (c : Byte), let code := (crc8 (s.openBytes a)); s.dueAll = s ∧
     s.dueAll = s ∧
     s.power.mode = .running ∧ a < 65536 ∧ s.ready = true
     ∧ a % 4 = 0 ∧ 2 ≤ s.bus.pec ∧ c.toNat = code) ∧
    (∃ (s : State) (a : Nat) (c : Byte), let code := (crc8 (s.openBytes a)); s.dueAll = s ∧
     s.dueAll = s ∧
     s.power.mode = .running ∧ a < 65536 ∧ s.ready = true
     ∧ a % 4 = 0 ∧ 2 ≤ s.bus.pec ∧ c.toNat ≠ code) ∧
    (∃ (s : State) (a : Nat) (w : Word) (c : Byte), let wcode := (crc8 (s.openBytes a ++ bytesBE w.toNat)); s.dueAll = s ∧
     s.dueAll = s ∧
     s.power.mode = .running ∧ a < 65536 ∧ s.ready = true ∧ a % 4 = 0 ∧ 2 ≤ s.bus.pec ∧ c.toNat = wcode) ∧
    (∃ (s : State) (a : Nat) (w : Word) (c : Byte), let wcode := (crc8 (s.openBytes a ++ bytesBE w.toNat)); s.dueAll = s ∧
     s.dueAll = s ∧
     s.power.mode = .running ∧ a < 65536 ∧ s.ready = true ∧ a % 4 = 0 ∧ 2 ≤ s.bus.pec ∧ c.toNat ≠ wcode) ∧
    (∃ (s : State) (a : Nat), s.dueAll = s ∧
     s.dueAll = s ∧
     s.power.mode = .running ∧ a < 65536 ∧ s.ready = true ∧ s.bus.block = false) := by
  refine ⟨⟨{ (up []) with power := { mode := .running } }, 65535, ?_⟩,
    ⟨up [], 65535, ?_⟩,
    ⟨up [], 65532, ?_⟩,
    ⟨(up []).modBus fun t => { t with pec := 2 }, 0, (BitVec.ofNat 8 (crc8 ((up []).openBytes 0))), ?_⟩,
    ⟨(up []).modBus fun t => { t with pec := 2 }, 0, (BitVec.ofNat 8 (crc8 ((up []).openBytes 0) + 1)), ?_⟩,
    ⟨(up []).modBus fun t => { t with pec := 2 }, 0, 7, (BitVec.ofNat 8 (crc8 ((up []).openBytes 0 ++ bytesBE 7))), ?_⟩,
    ⟨(up []).modBus fun t => { t with pec := 2 }, 0, 7, (BitVec.ofNat 8 (crc8 ((up []).openBytes 0 ++ bytesBE 7) + 1)), ?_⟩,
    ⟨up [], 0, ?_⟩⟩
  all_goals (with_reducible refine ⟨State.dueAll_idle _ ?_, ?_⟩) <;> decide +kernel

theorem witness_BusWrites_more :
    (∃ (s : State) (a : Nat), let gone := (s.bus.past = true ∨ (s.bus.inStaging = true ∧ ¬(0x4000 ≤ a ∧ a < 0x8000)));
     s.dueAll = s ∧
     s.dueAll = s ∧
     s.power.mode = .running ∧ a < 65536 ∧ s.ready = true ∧ s.bus.block = true ∧ s.bus.ptr = a ∧ a % 4 = 0 ∧ s.bus.pec < 2 ∧
     ¬ gone) ∧
    (∃ (s : State) (a : Nat), let gone := (s.bus.past = true ∨ (s.bus.inStaging = true ∧ ¬(0x4000 ≤ a ∧ a < 0x8000)));
     s.dueAll = s ∧
     s.dueAll = s ∧
     s.power.mode = .running ∧ a < 65536 ∧ s.ready = true ∧ s.bus.block = true ∧ s.bus.ptr = a ∧ a % 4 = 0 ∧ s.bus.pec < 2 ∧
     gone) ∧
    (∃ (s : State) (a : Nat) (w : Word) (c : Byte), let gone := (s.bus.past = true ∨ (s.bus.inStaging = true ∧ ¬(0x4000 ≤ a ∧ a <
     0x8000))); s.dueAll = s ∧
     s.dueAll = s ∧
     s.power.mode = .running ∧ a < 65536 ∧ s.ready = true ∧ s.bus.block = true ∧ s.bus.ptr = a ∧ a % 4 = 0 ∧ 2 ≤
     s.bus.pec ∧ c.toNat = crc8 (bytesBE w.toNat) ∧ ¬ gone) ∧
    (∃ (s : State) (a : Nat) (w : Word) (r : Reg) (n : Nat), s.dueAll = s ∧
     s.dueAll = s ∧
     s.power.mode = .running ∧ a < 65536 ∧ regAtAddr a = some (r, n) ∧
     Taken s r n w ∧ (r = .TB_STATUS ∨ r = .FM_STATUS ∨ r = .PR_STATUS ∨ r = .SV_EVENT ∨ r = .LY_EVENT ∨ r = .RG_EVENT ∨ r =
     .LK_EVENT)) ∧
    (∃ (s : State) (a : Nat) (w : Word) (r : Reg) (n : Nat), s.dueAll = s ∧
     s.dueAll = s ∧
     s.power.mode = .running ∧ a < 65536 ∧ regAtAddr a = some (r, n) ∧
     Taken s r n w ∧ r.counter = true) ∧
    (∃ (s : State) (a : Nat) (w : Word) (r : Reg) (n : Nat), s.dueAll = s ∧
     s.power.mode = .running ∧ a < 65536 ∧ regAtAddr a = some (r, n) ∧
     Taken s r n w ∧ r.row.w1c ≠ 0 ∧ r.counter = false ∧ r = .CV_STATUS ∧ 2 ≤ s.tele.xref0) ∧
    (∃ (s : State) (a : Nat) (w : Word) (r : Reg) (n : Nat), s.dueAll = s ∧
     s.power.mode = .running ∧ a < 65536 ∧ regAtAddr a = some (r, n) ∧
     Taken s r n w ∧ r.row.w1c ≠ 0 ∧ r.counter = false ∧ r = .PH_OVR ∧ s.pairIdle (s.keyOf r n) = true) ∧
    (∃ (s : State) (a : Nat) (w : Word) (r : Reg) (n : Nat), s.dueAll = s ∧
     s.power.mode = .running ∧ a < 65536 ∧ regAtAddr a = some (r, n) ∧
     Taken s r n w ∧ r.row.w1c ≠ 0 ∧ r.counter = false ∧ r = .RL_MCTL ∧ s.tuning (s.keyOf r n) = false) := by
  refine ⟨⟨(up []).modBus fun t => { t with block := true, ptr := 0x7FFC, inStaging := true }, 0x7FFC, ?_⟩,
    ⟨(up []).modBus fun t => { t with block := true, ptr := 0x8000, inStaging := true }, 0x8000, ?_⟩,
    ⟨(up []).modBus fun t => { t with block := true, ptr := 0x7FFC, inStaging := true, pec := 2 }, 0x7FFC, 7, (BitVec.ofNat 8
      (crc8 (bytesBE 7))), ?_⟩,
    ⟨up [], Reg.LK_EVENT.row.base, 7, .LK_EVENT, 0, ?_⟩,
    ⟨up [], Reg.TB_XCNT.row.base, 0, .TB_XCNT, 0, ?_⟩,
    ⟨(up []).modTele fun t => { t with xref0 := 2 }, Reg.CV_STATUS.row.base, 8, .CV_STATUS, 0, ?_⟩,
    ⟨up [], Reg.PH_OVR.row.base, BitVec.ofNat 32 Reg.PH_OVR.row.w1c, .PH_OVR, 0, ?_⟩,
    ⟨up [], Reg.RL_MCTL.row.base, BitVec.ofNat 32 Reg.RL_MCTL.row.w1c, .RL_MCTL, 0, ?_⟩⟩
  all_goals (with_reducible refine ⟨State.dueAll_idle _ ?_, ?_⟩) <;> decide +kernel

theorem witness_BusReads :
    (∃ (s : State), s.power.mode = .running ∧ s.ready = false) ∧
    (∃ (s : State) (a : Nat), s.power.mode = .running ∧ s.ready = true ∧ a % 4 ≠ 0) ∧
    (∃ (s : State) (a : Nat), s.power.mode = .running ∧ s.ready = true ∧ a % 4 = 0 ∧ a ≠ Reg.LB_STATUS.row.base) ∧
    (∃ (s : State) (a : Nat), s.power.mode = .running ∧ s.ready = true ∧ a % 4 = 0 ∧ a ≠ Reg.LB_STATUS.row.base) ∧
    (∃ (s : State), s.power.mode = .running ∧ s.ready = true ∧ s.bus.ptr ≠ Reg.LB_STATUS.row.base) ∧
    (∃ (s : State), s.power.mode = .running ∧ s.ready = true ∧ s.bus.ptr ≠ Reg.LB_STATUS.row.base ∧ s.bus.reading = true ∧
     (s.bus.snap.find? fun e => e.1 == s.bus.ptr) = none) ∧
    (∃ (s : State) (v : Word), s.power.mode = .running ∧ s.ready = true ∧ s.bus.ptr ≠ Reg.LB_STATUS.row.base ∧ s.bus.reading =
     true ∧ (s.bus.snap.find? fun e => e.1 == s.bus.ptr) = some (s.bus.ptr, v)) ∧
    (∃ (s : State), s.power.mode = .running ∧ s.ready = true ∧ s.bus.ptr ≠ Reg.LB_STATUS.row.base ∧ s.bus.reading = true) ∧
    (∃ (s : State), s.power.mode = .running ∧ s.ready = true ∧ s.bus.reading = false) ∧
    (∃ (s : State), s.power.mode = .running ∧ s.ready = true) ∧
    (∃ (s : State), s.power.mode = .running ∧ s.ready = true ∧ s.power.resetReq = false) ∧
    (∃ (s : State), s.power.mode = .running ∧ s.ready = true ∧ s.power.resetReq = true) ∧
    (∃ (s : State), s.power.mode = .running ∧ s.ready = true ∧ s.flag HB_CTRL.TOEN 0 = true) ∧
    (∃ (s : State), s.power.mode = .running ∧ s.ready = true ∧ s.flag HB_CTRL.TOEN 0 = false) ∧
    (∃ (s : State), s.dueAll = s ∧ s.power.mode = .running ∧ s.alertLine = false) ∧
    (∃ (s : State) (x : AraIn), s.dueAll = s ∧ s.power.mode = .running ∧ s.alertLine = true ∧ x.ack = true ∧
     (∀ a ∈ x.others, s.fld HB_ADDR.ADDR 0 < a)) ∧
    (∃ (s : State) (x : AraIn), s.dueAll = s ∧ s.power.mode = .running ∧ s.alertLine = true ∧
     ∃ a ∈ x.others, a ≤ s.fld HB_ADDR.ADDR 0) := by
  refine ⟨⟨{ (up []) with power := { mode := .running } }, ?_⟩,
    ⟨up [], 65535, ?_⟩,
    ⟨up [], 65532, ?_⟩,
    ⟨up [], 65532, ?_⟩,
    ⟨up [], ?_⟩,
    ⟨(up []).modBus fun t => { t with reading := true, ptr := 4, snap := [] }, ?_⟩,
    ⟨(up []).modBus fun t => { t with reading := true, ptr := 4, snap := [(4, 7)] }, 7, ?_⟩,
    ⟨(up []).modBus fun t => { t with reading := true, ptr := 4, snap := [] }, ?_⟩,
    ⟨up [], ?_⟩,
    ⟨up [], ?_⟩,
    ⟨up [], ?_⟩,
    ⟨(up []).modPower fun t => { t with resetReq := true }, ?_⟩,
    ⟨up [(HB_CTRL.TOEN, 0, 1)], ?_⟩,
    ⟨up [(HB_CTRL.TOEN, 0, 0)], ?_⟩,
    ⟨up [], ?_⟩,
    ⟨up [(PR_STATUS.BUDOVR, 0, 1), (ALR_MASK.MASK, 0, 0)], { others := [0x7F] }, ?_⟩,
    ⟨up [(PR_STATUS.BUDOVR, 0, 1), (ALR_MASK.MASK, 0, 0)], { others := [0x7F, 0] }, ?_⟩⟩
  all_goals first
    | (with_reducible refine ⟨State.dueAll_idle _ ?_, ?_⟩) <;> decide +kernel
    | decide +kernel

theorem witness_PowerStates :
    (∃ (s : State), s.power.mode = .held) ∧
    (∃ (s : State), s.power.mode = .held) ∧
    (∃ (s : State), s.power.mode = .running ∧ s.power.halted = false ∧ s.fld SV_STATUS.STATE 0 = 0) ∧
    (∃ (s : State), s.power.mode = .running ∧ s.power.halted = false ∧ s.fld SV_STATUS.STATE 0 = 2 ∧ s.fwCheck s.flash.runSlot =
     0 ∧ (s.flag SV_STATUS.SETAPPL 0 = true ∨ s.flash.journal = [])) ∧
    (∃ (s : State), s.power.mode = .running ∧ s.power.halted = false ∧ s.fld SV_STATUS.STATE 0 = 2 ∧ s.fwCheck s.flash.runSlot ≠
     0) ∧
    (∃ (s : State) (pin : Bool) (vin : Bool) (v5 : Bool) (vcore : Bool) (clk : Bool), let c := (causeBits vin v5 vcore clk pin);
     s.power.mode ≠ .standby ∧ c ≠ 0) ∧
    (∃ (s : State) (vin : Bool), s.power.mode = .standby ∧ vin = false) ∧
    (∃ (s : State) (vin : Bool), s.power.mode = .standby ∧ vin = true) ∧
    (∃ (s : State), s.power.mode = .standby) ∧
    (∃ (s : State), s.power.mode ≠ .standby) ∧
    (∃ (s : State), s.power.mode = .sleep) ∧
    (∃ (s : State), s.power.mode = .running ∧ s.power.standbyReq = true ∧ s.flash.ops = []) ∧
    (∃ (s : State), s.power.mode = .running ∧ (s.power.standbyReq = false ∨ s.flash.ops ≠ [])) ∧
    (∃ (s : State) (a b : Bool), s.power.mode = .standby ∧ s.power.waking = none ∧ (a || b) = true) ∧
    (∃ (s : State) (a b : Bool), s.power.mode = .standby ∧ (a || b) = false) ∧
    (∃ (s : State) (a b x : Bool), s.power.mode = .standby ∧ s.power.waking = some x ∧ (a || b) = true) ∧
    (∃ (s : State), s.power.mode = .standby ∧ s.power.pllOff = true) ∧
    (∃ (s : State), s.power.mode = .standby ∧ s.power.pllOff = false) ∧
    (∃ (s : State), s.power.mode = .running) := by
  refine ⟨⟨State.reset, ?_⟩,
    ⟨State.reset, ?_⟩,
    ⟨up [], ?_⟩,
    ⟨up [(SV_STATUS.STATE, 0, 2)], ?_⟩,
    ⟨(up [(SV_STATUS.STATE, 0, 2)]).modFlash fun t => { t with fwA := { st := .invalid } }, ?_⟩,
    ⟨State.reset, true, false, false, false, false, ?_⟩,
    ⟨{ State.reset with power := { mode := .standby } }, false, ?_⟩,
    ⟨{ State.reset with power := { mode := .standby } }, true, ?_⟩,
    ⟨{ State.reset with power := { mode := .standby } }, ?_⟩,
    ⟨up [], ?_⟩,
    ⟨{ State.reset with power := { mode := .sleep } }, ?_⟩,
    ⟨(up []).modPower fun t => { t with standbyReq := true }, ?_⟩,
    ⟨up [], ?_⟩,
    ⟨{ State.reset with power := { mode := .standby } }, true, false, ?_⟩,
    ⟨{ State.reset with power := { mode := .standby } }, false, false, ?_⟩,
    ⟨{ State.reset with power := { mode := .standby, waking := some true } }, false, true, true, ?_⟩,
    ⟨{ State.reset with power := { mode := .standby, pllOff := true } }, ?_⟩,
    ⟨{ State.reset with power := { mode := .standby, pllOff := false } }, ?_⟩,
    ⟨up [], ?_⟩⟩
  all_goals decide +kernel

theorem witness_Clocks :
    (∃ (s : State), s.power.mode = .running ∧ s.flag TB_STATUS.PATHFAIL 0 = false) ∧
    (∃ (s : State), s.power.mode = .running ∧ s.flag TB_STATUS.PATHFAIL 0 = true) ∧
    (∃ (s : State), let bell := (s.nextGrid s.now 4096 0); let held := (s.sleepOk = true ∧ (∃ q, s.quiet = some q ∧ q + 4096 ≤ bell) ∧
     ∀ n : Fin 12, s.beaconNear n bell = false); s.power.mode = .running ∧ held) ∧
    (∃ (s : State), let bell := (s.nextGrid s.now 4096 0); let held := (s.sleepOk = true ∧ (∃ q, s.quiet = some q ∧ q + 4096 ≤ bell) ∧
     ∀ n : Fin 12, s.beaconNear n bell = false); s.power.mode = .running ∧ ¬ held) ∧
    (∃ (s : State), s.power.mode = .sleep) ∧
    (∃ (s : State) (p : Fin 48) (n : Fin 12), s.power.mode = .running ∧ s.phRail p = some n ∧ s.fld PH_MSTAT.STATE p = phActive ∧
     (s.phase p).since ≤ s.now ∧ (s.rail n).carrier.running = true ∧ (∀ m, (s.rail m).man.reqs = []) ∧ (s.phase p).wear < 2 ^ 44 - 1) ∧
    (∃ (s : State) (k : Fin 12), s.power.mode = .sleep ∧ s.timerAwake k = true ∧ s.fld TM_CTRL.SLV k = 0) := by
  refine ⟨⟨up [], ?_⟩,
    ⟨up [(TB_STATUS.PATHFAIL, 0, 1)], ?_⟩,
    ⟨{ (up [(CV_CTRL.LPEN, 0, 1), (SV_STATUS.STATE, 0, 1)]) with now := 4096, quiet := some 0 }, ?_⟩,
    ⟨up [], ?_⟩,
    ⟨{ State.reset with power := { mode := .sleep } }, ?_⟩,
    ⟨resting, 47, 11, ?_⟩,
    ⟨{ (up [(TM_CTRL.EN, 11, 1), (TM_CTRL.LPCLK, 11, 1)]) with power := { mode := .sleep } }, 11, ?_⟩⟩
  all_goals decide +kernel

theorem witness_TestPort :
    (∃ (s : State), s.power.mode ≠ .standby) ∧
    (∃ (s : State) (k : Fin 12), s.power.mode = .running ∧ s.fld DBG_STATUS.LEVEL 0 = 2 ∧ s.pins.tioQ = [] ∧
     s.flag TM_CTRL.DBGRUN k = false) ∧
    (∃ (s : State) (k : Fin 12), s.power.mode = .running ∧ s.fld DBG_STATUS.LEVEL 0 = 2 ∧ s.power.halted = true ∧ s.pins.tioQ = [] ∧
     s.timerAwake k = false) := by
  refine ⟨⟨State.reset, ?_⟩,
    ⟨up [(DBG_STATUS.LEVEL, 0, 2)], 11, ?_⟩,
    ⟨(up [(DBG_STATUS.LEVEL, 0, 2)]).modPower fun t => { t with halted := true }, 11, ?_⟩⟩
  all_goals decide +kernel

theorem witness_Fans :
    (∃ (s : State) (f : Fin 4) (w : Word), s.dueAll = s ∧ Taken s .FAN_CTRL f w ∧ FAN_CTRL.SRC.of w = 0 ∧ s.active.fan[f].en = true ∧
     FAN_CTRL.MODE.of w = 1) ∧
    (∃ (s : State) (f : Fin 4) (w : Word), s.dueAll = s ∧ Taken s .FAN_CTRL f w ∧ FAN_CTRL.SRC.of w = 0 ∧ FAN_CTRL.MODE.of w = 0) ∧
    (∃ (s : State) (f : Fin 4) (t : Nat), s.fanLive f = true ∧ (s.fan f).edge = some t ∧ t + 100 * us ≤ s.now) ∧
    (∃ (s : State) (f : Fin 4) (t : Nat), s.fanLive f = true ∧ (s.fan f).edge = some t ∧ s.now < t + 100 * us) ∧
    (∃ (s : State) (f : Fin 4), s.fanLive f = true ∧ s.fld FAN_STAT.STATE f = fnStarting) ∧
    (∃ (s : State) (f : Fin 4), s.fanLive f = true ∧ s.fld FAN_STAT.STATE f = fnKick) ∧
    (∃ (s : State) (f : Fin 4), s.fanLive f = true ∧ s.fld FAN_STAT.STATE f = fnBlocked ∧ (s.fan f).retry = false) ∧
    (∃ (s : State) (f : Fin 4), s.fanLive f = true ∧ s.fld FAN_STAT.STATE f = fnBlocked ∧ (s.fan f).retry = true) ∧
    (∃ (s : State) (f : Fin 4) (t : Nat), s.fanLive f = true ∧ (s.fan f).srcAt = some t ∧ s.flag FAN_CTRL.SRC f = true ∧ s.tmOut
     (s.fld FAN_CTRL.TM f) (s.fld FAN_CTRL.CHAN f) = false) ∧
    (∃ (s : State) (f : Fin 4), s.fanLive f = false) ∧
    (∃ (s : State) (f : Fin 4) (t : Nat), s.fanLive f = false ∧ s.power.mode = .running ∧ (s.fan f).edge = some t) ∧
    (∃ (s : State) (f : Fin 4) (t : Nat), s.fanLive f = true ∧ (s.fan f).edge = some t ∧ t + 100 * us ≤ s.now ∧
     s.fld FAN_STAT.STATE f = fnBlocked ∧ (s.fan f).retry = true) ∧
    (∃ (s : State) (f : Fin 4) (t : Nat), s.fanLive f = true ∧ (s.fan f).edge = some t ∧ s.fld FAN_STAT.STATE f = fnRunning ∧
     s.fanInBand f = true) ∧
    (∃ (s : State) (f : Fin 4), s.fanLive f = true ∧ s.fld FAN_STAT.STATE f = fnKick ∧ s.fld FAN_STAT.KICKS f = 3) := by
  refine ⟨⟨{ (up []) with active := fansOn }, 3, word [(FAN_CTRL.MODE, 1)], ?_⟩,
    ⟨{ (up []) with active := fansOn }, 3, 0, ?_⟩,
    ⟨{ ({ ((up []).modFan 3 fun t => { t with edge := some 0 }) with now := 100 * us }) with active := fansOn },
      3, 0, ?_⟩,
    ⟨{ ({ ((up []).modFan 3 fun t => { t with edge := some 0 }) with now := 100 * us - 1 }) with active := fansOn },
      3, 0, ?_⟩,
    ⟨{ (up [(FAN_STAT.STATE, 3, fnStarting)]) with active := fansOn }, 3, ?_⟩,
    ⟨{ (up [(FAN_STAT.STATE, 3, fnKick)]) with active := fansOn }, 3, ?_⟩,
    ⟨{ (up [(FAN_STAT.STATE, 3, fnBlocked)]) with active := fansOn }, 3, ?_⟩,
    ⟨{ ((up [(FAN_STAT.STATE, 3, fnBlocked)]).modFan 3 fun t => { t with retry := true }) with active := fansOn },
      3, ?_⟩,
    ⟨{ ((up [(FAN_CTRL.SRC, 3, 1)]).modFan 3 fun t => { t with srcAt := some 0 }) with active := fansOn },
      3, 0, ?_⟩,
    ⟨up [], 3, ?_⟩,
    ⟨(up []).modFan 3 fun t => { t with edge := some 0 }, 3, 0, ?_⟩,
    ⟨{ (up [(FAN_STAT.STATE, 3, fnBlocked)]).modFan 3 (fun t => { t with edge := some 0, retry := true }) with
        now := 100 * us, active := fansOn }, 3, 0, ?_⟩,
    ⟨{ (up [(FAN_STAT.STATE, 3, fnRunning), (FAN_IBAND.ILO, 3, 0)]).modFan 3 (fun t => { t with edge := some 0 }) with
        active := fansOn }, 3, 0, ?_⟩,
    ⟨{ (up [(FAN_STAT.STATE, 3, fnKick), (FAN_STAT.KICKS, 3, 3)]) with active := fansOn }, 3, ?_⟩⟩
  all_goals first
    | (with_reducible refine ⟨State.dueAll_idle _ ?_, ?_⟩) <;> decide +kernel
    | decide +kernel

theorem witness_RingForming :
    (∃ (s : State), s.power.mode = .running ∧ s.flag LY_CTRL.EN 0 = true ∧ s.lyMode < lyRing) ∧
    (∃ (s : State) (addr : Nat), let own := (s.fld HB_ADDR.ADDR 0); s.power.mode = .running ∧ s.flag LY_CTRL.EN 0 = true ∧
     s.lyMode = lyForming ∧ addr = own ∧ s.lan.claimed = true) ∧
    (∃ (s : State) (addr : Nat), let own := (s.fld HB_ADDR.ADDR 0); s.power.mode = .running ∧ s.flag LY_CTRL.EN 0 = true ∧
     s.lyMode = lyForming ∧ addr = own ∧ s.lan.claimed = false) ∧
    (∃ (s : State) (addr : Nat), let own := (s.fld HB_ADDR.ADDR 0); s.power.mode = .running ∧ s.flag LY_CTRL.EN 0 = true ∧
     s.lyMode = lyForming ∧ addr < own) ∧
    (∃ (s : State) (addr : Nat), let own := (s.fld HB_ADDR.ADDR 0); s.power.mode = .running ∧ s.flag LY_CTRL.EN 0 = true ∧
     s.lyMode = lyForming ∧ own < addr) ∧
    (∃ (s : State) (count : Nat), s.power.mode = .running ∧ s.flag LY_CTRL.EN 0 = true ∧ s.lyMode = lyForming ∧ count < 64 ∧
     s.flag LY_STATUS.HEAD 0 = true) ∧
    (∃ (s : State) (count : Nat), s.power.mode = .running ∧ s.flag LY_CTRL.EN 0 = true ∧ s.lyMode = lyForming ∧ count < 64 ∧
     s.flag LY_STATUS.HEAD 0 = false ∧ s.flag LY_STATUS.NUMV 0 = false ∧ count < 63) ∧
    (∃ (s : State) (count : Nat), s.power.mode = .running ∧ s.flag LY_CTRL.EN 0 = true ∧ s.lyMode = lyForming ∧ count < 64 ∧
     s.flag LY_STATUS.HEAD 0 = false ∧ s.flag LY_STATUS.NUMV 0 = true) ∧
    (∃ (s : State) (n : Nat) (rt : Nat), s.power.mode = .running ∧ s.flag LY_CTRL.EN 0 = true ∧ s.lyMode < lyRing ∧ n ≤ 64 ∧
     hopOk rt = true) ∧
    (∃ (s : State) (n : Nat) (rt : Nat), s.power.mode = .running ∧ s.flag LY_CTRL.EN 0 = true ∧ s.lyMode < lyRing ∧ n ≤ 64 ∧
     hopOk rt = false) ∧
    (∃ (s : State), s.power.mode = .running ∧ s.flag LY_CTRL.EN 0 = true ∧ s.lyUp = true ∧ s.flag LY_STATUS.LSTART 0 = false) ∧
    (∃ (s : State) (src : Nat) (start : Nat), s.power.mode = .running ∧ s.flag LY_CTRL.EN 0 = true ∧ s.lyUp = true ∧ src < 64 ∧
     start = (s.me + 1) % s.ringN ∧ s.flag LY_STATUS.LEND 0 = false) ∧
    (∃ (s : State), s.power.mode = .running ∧ s.flag LY_CTRL.EN 0 = true ∧ s.lyMode = lyWrap ∧ s.flag LY_STATUS.LEND 0 = true) ∧
    (∃ (s : State) (rt : Nat), s.power.mode = .running ∧ s.flag LY_CTRL.EN 0 = true ∧ s.lyMode = lyWrap ∧ s.flag LY_STATUS.LSTART
     0 = true ∧ hopOk rt = true ∧ s.flag LY_STATUS.PERMWRAP 0 = false ∧ s.lan.restoreAt = none) ∧
    (∃ (s : State) (e : Nat), s.power.mode = .running ∧ s.flag LY_CTRL.EN 0 = true ∧ s.lan.restoreAt = some e) ∧
    (∃ (s : State) (rt : Nat), s.power.mode = .running ∧ s.flag LY_CTRL.EN 0 = true ∧ s.lyMode < lyRing ∧ hopOk rt = false) ∧
    (∃ (s : State) (count : Nat), s.power.mode = .running ∧ s.flag LY_CTRL.EN 0 = true ∧ s.lyMode = lyForming ∧ count < 64 ∧
     s.flag LY_STATUS.HEAD 0 = true ∧ s.flag LY_STATUS.LSTART 0 = true) ∧
    (∃ (s : State) (k : Fin 12), s.power.mode = .running ∧ s.flag LY_CTRL.EN 0 = true ∧ s.lyUp = true ∧ s.lead k = true ∧
     (s.group k).reports ≠ []) := by
  refine ⟨⟨up [(LY_CTRL.EN, 0, 1)], ?_⟩,
    ⟨(up [(LY_CTRL.EN, 0, 1), (LY_STATUS.MODE, 0, lyForming)]).modLan fun t => { t with claimed := true }, (up []).fld
      HB_ADDR.ADDR 0, ?_⟩,
    ⟨up [(LY_CTRL.EN, 0, 1), (LY_STATUS.MODE, 0, lyForming)], (up []).fld HB_ADDR.ADDR 0, ?_⟩,
    ⟨up [(LY_CTRL.EN, 0, 1), (LY_STATUS.MODE, 0, lyForming), (HB_ADDR.ADDR, 0, 1)], 0, ?_⟩,
    ⟨up [(LY_CTRL.EN, 0, 1), (LY_STATUS.MODE, 0, lyForming)], (up []).fld HB_ADDR.ADDR 0 + 1, ?_⟩,
    ⟨up [(LY_CTRL.EN, 0, 1), (LY_STATUS.MODE, 0, lyForming), (LY_STATUS.HEAD, 0, 1)], 63, ?_⟩,
    ⟨up [(LY_CTRL.EN, 0, 1), (LY_STATUS.MODE, 0, lyForming)], 62, ?_⟩,
    ⟨up [(LY_CTRL.EN, 0, 1), (LY_STATUS.MODE, 0, lyForming), (LY_STATUS.NUMV, 0, 1)], 63, ?_⟩,
    ⟨up [(LY_CTRL.EN, 0, 1)], 64, 5120, ?_⟩,
    ⟨up [(LY_CTRL.EN, 0, 1)], 64, 5122, ?_⟩,
    ⟨up [(LY_CTRL.EN, 0, 1), (LY_STATUS.MODE, 0, lyRing), (LY_STATUS.NM1, 0, 63)], ?_⟩,
    ⟨up [(LY_CTRL.EN, 0, 1), (LY_STATUS.MODE, 0, lyRing), (LY_STATUS.NM1, 0, 63)], 0, 1, ?_⟩,
    ⟨up [(LY_CTRL.EN, 0, 1), (LY_STATUS.MODE, 0, lyWrap), (LY_STATUS.LEND, 0, 1)], ?_⟩,
    ⟨up [(LY_CTRL.EN, 0, 1), (LY_STATUS.MODE, 0, lyWrap), (LY_STATUS.LSTART, 0, 1)], 5120, ?_⟩,
    ⟨(up [(LY_CTRL.EN, 0, 1), (LY_STATUS.MODE, 0, lyRing), (LY_STATUS.NM1, 0, 63)]).modLan fun t =>
      { t with restoreAt := some 1 }, 1, ?_⟩,
    ⟨up [(LY_CTRL.EN, 0, 1)], 5122, ?_⟩,
    ⟨up [(LY_CTRL.EN, 0, 1), (LY_STATUS.MODE, 0, lyForming), (LY_STATUS.HEAD, 0, 1), (LY_STATUS.LSTART, 0, 1)], 0, ?_⟩,
    ⟨inGroup 1 0 ((ringed lyRing []).modGroup 11 fun g => { g with reports := [(63, rpt 1, 0)] }), 11, ?_⟩⟩
  all_goals decide +kernel

theorem witness_RingMessages :
    (∃ (s : State), s.power.mode = .running ∧ s.lyUp = true ∧
     s.lyMode = lyRing ∧ s.flag LY_STATUS.HEAD 0 = true) ∧
    (∃ (s : State) (x : LyWire), s.power.mode = .running ∧ s.lyUp = true ∧
     (frameOf x.bytes).hcrcOk = false ∧ (frameOf x.bytes).rev = false ∧ s.flag LY_STATUS.LSTART 0 = false ∧
     s.flag LY_STATUS.LEND 0 = false ∧ s.flag LY_STATUS.HEAD 0 = false) ∧
    (∃ (s : State) (x : LyWire), s.power.mode = .running ∧ s.lyUp = true ∧
     (frameOf x.bytes).hcrcOk = false ∧ (frameOf x.bytes).rev = false ∧ s.flag LY_STATUS.LSTART 0 = false ∧
     s.flag LY_STATUS.LEND 0 = false ∧ s.flag LY_STATUS.HEAD 0 = true ∧ s.lyMode = lyWrap) ∧
    (∃ (s : State) (x : LyWire), s.power.mode = .running ∧ s.lyUp = true ∧
     (frameOf x.bytes).hcrcOk = false ∧ (frameOf x.bytes).rev = true ∧ s.lyMode = lyRing) ∧
    (∃ (s : State) (x : LyWire), s.power.mode = .running ∧ s.lyUp = true ∧
     (frameOf x.bytes).hcrcOk = false ∧ (frameOf x.bytes).rev = false ∧ s.flag LY_STATUS.LSTART 0 = true) ∧
    (∃ (s : State) (x : LyWire), s.power.mode = .running ∧ s.lyUp = true ∧
     (frameOf x.bytes).hcrcOk = true ∧ (frameOf x.bytes).form = false ∧ (frameOf x.bytes).rev = false ∧
     s.flag LY_STATUS.HEAD 0 = false ∧ s.flag LY_STATUS.LSTART 0 = false ∧ s.lyMode = lyRing ∧ (frameOf x.bytes).wrap = false ∧
     ∀ g ∈ s.active.lanyard.groups, g.role ≠ 2) ∧
    (∃ (s : State) (x : LyWire), s.power.mode = .running ∧ s.lyUp = true ∧
     (frameOf x.bytes).hcrcOk = true ∧ (frameOf x.bytes).form = false ∧ (frameOf x.bytes).rev = false ∧
     s.flag LY_STATUS.HEAD 0 = false ∧ s.flag LY_STATUS.LSTART 0 = false ∧ s.lyMode = lyWrap ∧ s.flag LY_STATUS.LEND 0 = false ∧
     s.lan.revMiss < 4 ∧ ∀ g ∈ s.active.lanyard.groups, g.role ≠ 2) ∧
    (∃ (s : State) (x : LyWire), s.power.mode = .running ∧ s.lyUp = true ∧
     (frameOf x.bytes).hcrcOk = true ∧ (frameOf x.bytes).rev = true ∧ s.lyMode = lyWrap ∧
     s.flag LY_STATUS.LSTART 0 = false ∧ (frameOf x.bytes).msg.ok = true ∧ (frameOf x.bytes).msg.type ≠ 0 ∧
     (frameOf x.bytes).msg.dst ≠ s.me ∧ (frameOf x.bytes).msg.src ≠ s.me) ∧
    (∃ (s : State) (src : Nat) (r : SpanRpt) (g : GroupE), s.power.mode = .running ∧ s.lyUp = true ∧
     s.groupRail 1 r.group = some g ∧ 1 ≤ r.idx ∧ r.idx < g.nmem ∧
     src = (s.me + r.idx) % s.ringN ∧ s.pastBreak r.idx = false) ∧
    (∃ (s : State) (src : Nat) (r : SpanRpt) (g : GroupE), s.power.mode = .running ∧ s.lyUp = true ∧
     s.groupRail 1 r.group = some g ∧ 1 ≤ r.idx ∧ r.idx < g.nmem ∧
     src = (s.me + r.idx) % s.ringN ∧ s.pastBreak r.idx = true) ∧
    (∃ (s : State) (src : Nat) (r : SpanRpt) (g : GroupE), s.power.mode = .running ∧ s.lyUp = true ∧
     s.groupRail 1 r.group = some g ∧
     ¬ (1 ≤ r.idx ∧ r.idx < g.nmem ∧ src = (s.me + r.idx) % s.ringN)) ∧
    (∃ (s : State) (n : Fin 12) (g : GroupE), s.power.mode = .running ∧ s.lyUp = true ∧
     s.groupOf n = some g ∧ g.role = 2) ∧
    (∃ (s : State) (n : Fin 12) (idx : Fin 8) (r : SpanRpt) (at_ : Nat), s.power.mode = .running ∧ s.lyUp = true ∧
     ((s.group n).reports.find? fun e => e.1 == idx.val) =
     some (idx.val, r, at_)) ∧
    (∃ (s : State) (n : Fin 12), s.power.mode = .running ∧ s.lyUp = true ∧
     s.follower n = true ∧ (s.group n).seen = true ∧ 64 ≤ (s.group n).age ∧ s.rst n ≠ stFault ∧
     CanFault ((s.modGroup n fun g => { g with seen := false, allOff := false }).unmove n) n) ∧
    (∃ (s : State), s.power.mode = .running ∧ s.lyUp = true ∧
     s.flag LY_STATUS.HEAD 0 = false ∧ s.flag PR_START.RINGTOK 0 = true ∧ s.lan.skip = true) ∧
    (∃ (s : State) (n : Fin 12), s.power.mode = .running ∧ s.lyUp = true ∧
     s.flag LY_STATUS.HEAD 0 = false ∧ s.flag PR_START.RINGTOK 0 = true ∧ s.lan.skip = false ∧
     s.grantable = some n ∧ (s.lan.held.any fun e => e.2 == n) = false ∧ s.lan.msgs = []) ∧
    (∃ (s : State) (src : Nat), s.power.mode = .running ∧ s.lyUp = true ∧
     s.flag LY_STATUS.HEAD 0 = true ∧ src < s.me) := by
  refine ⟨⟨ringed lyRing [(LY_STATUS.HEAD, 0, 1)], ?_⟩,
    ⟨ringed lyRing [], spoilt false, ?_⟩,
    ⟨ringed lyWrap [(LY_STATUS.HEAD, 0, 1)], spoilt false, ?_⟩,
    ⟨ringed lyRing [], spoilt true, ?_⟩,
    ⟨ringed lyWrap [(LY_STATUS.LSTART, 0, 1)], spoilt false, ?_⟩,
    ⟨ringed lyRing [], ⟨frameBytes {}⟩, ?_⟩,
    ⟨(ringed lyWrap []).modLan fun l => { l with revMiss := 3 }, ⟨frameBytes { wrap := true }⟩, ?_⟩,
    ⟨ringed lyWrap [], ⟨frameBytes { wrap := true, rev := true, msg := { type := 7, src := 5 } }⟩, ?_⟩,
    ⟨inGroup 1 0 (ringed lyRing []), 7, rpt 7, grouped 1 0, ?_⟩,
    ⟨inGroup 1 0 ((ringed lyWrap []).modLan fun l => { l with breaks := [3] }), 7, rpt 7, grouped 1 0, ?_⟩,
    ⟨inGroup 1 0 (ringed lyRing []), 8, rpt 8, grouped 1 0, ?_⟩,
    ⟨inGroup 2 7 (ringed lyRing []), 11, grouped 2 7, ?_⟩,
    ⟨(ringed lyRing []).modGroup 11 fun t => { t with reports := [(7, rpt 7, 0)] }, 11, 7, rpt 7, 0, ?_⟩,
    ⟨inGroup 2 7 ((ringed lyRing [(RL_STATUS.STATE, 11, stRegulate)]).modGroup 11 fun t => { t with seen := true, age := 64 }), 11, ?_⟩,
    ⟨(ringed lyRing [(PR_START.RINGTOK, 0, 1)]).modLan fun t => { t with skip := true }, ?_⟩,
    ⟨ringed lyRing [(PR_START.RINGTOK, 0, 1), (RL_STATUS.QUEUED, 11, 1), (PH_PCFG.RAIL, 47, 11)], 11, ?_⟩,
    ⟨ringed lyWrap [(LY_STATUS.HEAD, 0, 1), (LY_STATUS.MEMBER, 0, 1)], 0, ?_⟩⟩
  all_goals decide +kernel

theorem witness_HostWriteGates :
    (∃ (s : State), s.ready = false) ∧
    (∃ (s : State) (r : Reg) (n : Nat), let k := (s.keyOf r n); s.ready = true ∧ s.power.mode = .running ∧ s.absentReg r k = true) ∧
    (∃ (s : State) (r : Reg) (n : Nat) (w : Word) (fs : List (Fld × Nat)), let k := (s.keyOf r n); s.ready = true ∧ s.power.mode
     = .running ∧ s.absentReg r k = false ∧ s.refuses r k w = some fs) ∧
    (∃ (s : State) (r : Reg) (n : Nat) (w : Word), let k := (s.keyOf r n); s.ready = true ∧ s.power.mode = .running ∧ s.absentReg
     r k = false ∧ s.refuses r k w = none ∧ s.tagSays r n w = .duplicate) ∧
    (∃ (s : State) (r : Reg) (n : Nat) (w : Word), let k := (s.keyOf r n); s.ready = true ∧ s.power.mode = .running ∧ s.absentReg
     r k = false ∧ s.refuses r k w = none ∧ s.tagSays r n w = .clash) ∧
    (∃ (s : State) (r : Reg) (n : Nat) (k' : RKey), let k := (s.keyOf r n); k' ≠ ⟨r, k⟩) ∧
    (∃ (s : State), s.regs.wf = true) ∧
    (∃ (s : State), memWf 0 s.flash.staging = true ∧ s.flash.staging ≠ []) ∧
    (∃ (s : State) (b : Bool), memWf erased (s.fw b).bytes = true ∧ (s.fw b).bytes ≠ []) := by
  refine ⟨⟨State.reset, ?_⟩,
    ⟨{ (up []) with small := true }, .RL_CTRL, 6, ?_⟩,
    ⟨up [], .TB_SYNC, 0, 49, [(TB_STATUS.CFGERR, 0)], ?_⟩,
    ⟨{ (up []) with now := tagSpan - 1, bus := { tags := [{ addr := Reg.RG_CMD.addr 0, word := 0x10000001, at_ := 0 }] } },
      .RG_CMD, 0, 0x10000001, ?_⟩,
    ⟨{ (up []) with now := tagSpan - 1, bus := { tags := [{ addr := Reg.RG_CMD.addr 0, word := 0x10000001, at_ := 0 }] } },
      .RG_CMD, 0, 0x10000002, ?_⟩,
    ⟨State.reset, .RL_CTRL, 11, ⟨.RL_CTRL, 10⟩, ?_⟩,
    ⟨State.reset, ?_⟩,
    ⟨(up []).modFlash fun t => { t with staging := [(5, 1)] }, ?_⟩,
    ⟨(up []).modFlash fun t => { t with fwB := { t.fwB with bytes := [(5, 1)] } }, true, ?_⟩⟩
  all_goals decide +kernel

theorem witness_AckKept : ∃ s : State, AckSound s ∧ s.flag HB_STATUS.ACKD 0 = true := by
  refine ⟨up [(PR_STATUS.BUDOVR, 0, 1), (ALR_MASK.MASK, 0, 0), (HB_STATUS.ACKD, 0, 1)], ?_⟩
  unfold AckSound
  decide +kernel

theorem witness_MasksHideAlertOnly :
    ∃ (s : State) (m : Nat), s.ready = true ∧ s.power.mode = .running ∧ s.alertLine = true ∧ s.alertSources < 2 ^ 15 ∧
      ∀ k < 15, bitAt s.alertSources k = true → bitAt (m % 2 ^ 15) k = true := by
  refine ⟨up [(PR_STATUS.BUDOVR, 0, 1), (ALR_MASK.MASK, 0, 0)], 32767, ?_⟩
  decide +kernel

theorem witness_NarrowAndNormalise :
    (∃ (a wa wo v : Int), wa < wo ∧ 2 * (a - v * 2 ^ (wo - wa).toNat).natAbs = 2 ^ (wo - wa).toNat) ∧ (∃ wa wo : Int, wo ≤ wa) ∧
      (∃ xs : List Term, ∃ e : Nat, e ≤ 31 ∧ ∀ x ∈ xs, (narrow false x ((e : Int) - 24)).2 = false) ∧
      ∃ xs : List Term, ¬ ∃ e : Nat, e ≤ 31 ∧ ∀ x ∈ xs, (narrow false x ((e : Int) - 24)).2 = false := by
  refine ⟨⟨3, 0, 1, 1, ?_⟩, ⟨0, 0, ?_⟩, ⟨[⟨4194240, -24⟩], ?_⟩, ⟨[⟨2 ^ 60, -24⟩], ?_⟩⟩
  all_goals decide +kernel

end Sys2Proof.Tests
end

section
/-! SUPPORT. Proofs of the narrowing and normalisation rules (R109, R112, R113): what rounding half to even gives, what a narrowing
answers, which exponent the normalisation of a block takes, and O60 from these. -/
namespace Sys2Proof.Machine

/-- Round half to even (R109): no integer multiple of `d` is nearer to `n`, and at equal distance the even one is taken. -/
theorem rhe_nearest (n : Int) {d : Nat} (hd : 0 < d) :
    2 * (n - rhe n d * d).natAbs ≤ d ∧ (2 * (n - rhe n d * d).natAbs = d → rhe n d % 2 = 0) := by
  have hdiv : n / (d : Int) * d + n % d = n := Int.ediv_mul_add_emod n d
  have hlow : 0 ≤ n % (d : Int) := Int.emod_nonneg n (by omega)
  have hup : n % (d : Int) < d := Int.emod_lt_of_pos n (by omega)
  have hdown : n - n / (d : Int) * d = n % d := by omega
  have hnext : n - (n / (d : Int) + 1) * d = n % d - d := by rw [add_mul, one_mul]; omega
  simp only [rhe]
  split_ifs
  · omega
  · rw [hdown]; omega
  · rw [hnext]; omega
  · rw [hdown]; omega
  · rw [hnext]; omega

theorem rheShift_of_le {wa wo : Int} (a : Int) (h : wo ≤ wa) : rheShift a (wa - wo) = a * 2 ^ (wa - wo).toNat :=
  if_pos (by omega)

theorem rheShift_of_lt {wa wo : Int} (a : Int) (h : wa < wo) : rheShift a (wa - wo) = rhe a (2 ^ (wo - wa).toNat) := by
  rw [rheShift, if_neg (by omega), Int.neg_sub]

/-- The word of a narrowing (R112): the rounded value, or the end of the word's range nearest to it. -/
theorem narrow_word (frac : Bool) (x : Term) (wo : Int) :
    (narrow frac x wo).1 =
      if rheShift x.t (x.w - wo) < -wordTop frac then -wordTop frac
      else if wordTop frac ≤ rheShift x.t (x.w - wo) then wordTop frac - 1 else rheShift x.t (x.w - wo) := by
  simp only [narrow, clampInt, Int.sub_one_lt_iff]

/-- NAR of a narrowing (R112): the rounded value lies outside the word's range. -/
theorem narrow_nar (frac : Bool) (x : Term) (wo : Int) :
    (narrow frac x wo).2 =
      decide (rheShift x.t (x.w - wo) < -wordTop frac ∨ wordTop frac ≤ rheShift x.t (x.w - wo)) := by
  rw [narrow, fitsWord, ← decide_not, decide_eq_decide]
  omega

/-- Every narrowing of the block fits its word at exponent `e` (R113). -/
def BlockFits (xs : List Term) (e : Nat) : Prop := ∀ x ∈ xs, (narrow false x (wordWeight false e)).2 = false

/-- One round of the search: `e` when the block fits there, else the search from `e + 1`. -/
theorem normExp_succ (xs : List Term) (fuel e : Nat) :
    (BlockFits xs e ∧ normExp xs (fuel + 1) e = e) ∨
      (¬ BlockFits xs e ∧ normExp xs (fuel + 1) e = normExp xs fuel (e + 1)) := by
  have hfits : xs.all (fun x => fitsWord false (rheShift x.t (x.w - ((e : Int) - 24)))) = true ↔ BlockFits xs e := by
    simp [BlockFits, narrow, wordWeight]
  by_cases h : BlockFits xs e
  · exact .inl ⟨h, if_pos (hfits.2 h)⟩
  · exact .inr ⟨h, if_neg (mt hfits.1 h)⟩

/-- What the search from `e` up to 31 answers: no exponent it passed fits, and its answer fits unless it is 31. -/
theorem normExp_least (xs : List Term) {fuel e : Nat} (h : e + fuel = 32) :
    normExp xs fuel e ≤ 31 ∧ (∀ i, e ≤ i → i < normExp xs fuel e → ¬ BlockFits xs i) ∧
      (BlockFits xs (normExp xs fuel e) ∨ normExp xs fuel e = 31) := by
  induction fuel generalizing e with
  | zero =>
    have h31 : normExp xs 0 e = 31 := rfl
    exact ⟨h31.le, fun i hi hlt => by omega, .inr h31⟩
  | succ fuel ih =>
    obtain ⟨hfit, hn⟩ | ⟨hfit, hn⟩ := normExp_succ xs fuel e <;> rw [hn]
    · exact ⟨by omega, fun i hi hlt => by omega, .inl hfit⟩
    · obtain ⟨hle, hpassed, hlast⟩ := ih (e := e + 1) (by omega)
      refine ⟨hle, fun i hi hlt => ?_, hlast⟩
      obtain rfl | hlater : i = e ∨ e + 1 ≤ i := by omega
      · exact hfit
      · exact hpassed i hlater hlt

/-- The exponent of a block (R113) fits whenever some exponent up to 31 does. -/
theorem blockFits_normExp {xs : List Term} (h : ∃ e ≤ 31, BlockFits xs e) : BlockFits xs (normExp xs 32 0) := by
  obtain ⟨e, he, hfit⟩ := h
  obtain ⟨-, hpassed, hlast | h31⟩ := normExp_least xs (fuel := 32) (e := 0) rfl
  · exact hlast
  · have hreached : ¬ e < normExp xs 32 0 := fun hlt => hpassed e e.zero_le hlt hfit
    obtain rfl : e = normExp xs 32 0 := by omega
    exact hfit

/-- The exponent of a block (R113) is 31 when no exponent up to 31 fits. -/
theorem normExp_of_no_fit {xs : List Term} (h : ¬ ∃ e ≤ 31, BlockFits xs e) : normExp xs 32 0 = 31 := by
  obtain ⟨hle, -, hlast | h31⟩ := normExp_least xs (fuel := 32) (e := 0) rfl
  · exact absurd ⟨_, hle, hlast⟩ h
  · exact h31

/-- NAR of a normalised block (R113) stays clear exactly when every narrowing at its exponent fits. -/
theorem settleBlock_nar_eq_false_iff (fx : Nat) (xs : List Term) :
    (settleBlock false fx xs).2.2 = false ↔ BlockFits xs (normExp xs 32 0) := by
  simp [settleBlock, BlockFits]

theorem settleBlock_words (frac : Bool) (fx : Nat) (xs : List Term) :
    (settleBlock frac fx xs).1 =
      xs.map fun x => (narrow frac x (wordWeight frac (settleBlock frac fx xs).2.1)).1 :=
  List.map_map

/-- A single signal is settled as a block of one (R113). -/
theorem settleBlock_singleton (frac : Bool) (fx : Nat) (x : Term) :
    settleBlock frac fx [x] =
      ([(settleOne frac fx x).1], (settleOne frac fx x).2.1, (settleOne frac fx x).2.2) := by
  simp [settleBlock, settleOne]

/-- R112 for one accumulator: the rounded value, its clamp and NAR. -/
theorem narrow_rounds_and_clamps (frac : Bool) (a wa wo : Int) :
    ∃ v : Int,
      (narrow frac ⟨a, wa⟩ wo).1 =
        (if v < -wordTop frac then -wordTop frac else if wordTop frac ≤ v then wordTop frac - 1 else v) ∧
      (narrow frac ⟨a, wa⟩ wo).2 = decide (v < -wordTop frac ∨ wordTop frac ≤ v) ∧
      (wo ≤ wa → v = a * 2 ^ (wa - wo).toNat) ∧
      (wa < wo → 2 * (a - v * 2 ^ (wo - wa).toNat).natAbs ≤ 2 ^ (wo - wa).toNat ∧
        (2 * (a - v * 2 ^ (wo - wa).toNat).natAbs = 2 ^ (wo - wa).toNat → v % 2 = 0)) := by
  refine ⟨rheShift a (wa - wo), narrow_word .., narrow_nar .., rheShift_of_le a, fun h => ?_⟩
  rw [rheShift_of_lt a h]
  exact_mod_cast rhe_nearest a (Nat.two_pow_pos (wo - wa).toNat)

/-- R113 for a block in block-floating mode: the least exponent at which it fits, 31 with NAR where there is none. -/
theorem settleBlock_normalises (fx : Nat) (xs : List Term) :
    let r := settleBlock false fx xs
    r.2.1 ≤ 31 ∧ (∀ e < r.2.1, ¬ BlockFits xs e) ∧ ((∃ e ≤ 31, BlockFits xs e) → BlockFits xs r.2.1 ∧ r.2.2 = false) ∧
      ((¬ ∃ e ≤ 31, BlockFits xs e) → r.2.1 = 31 ∧ r.2.2 = true) := by
  obtain ⟨hle, hpassed, -⟩ := normExp_least xs (fuel := 32) (e := 0) rfl
  refine ⟨hle, fun e he => hpassed e e.zero_le he, fun hsome => ?_, fun hnone => ⟨normExp_of_no_fit hnone, ?_⟩⟩
  · have hfit := blockFits_normExp hsome
    exact ⟨hfit, (settleBlock_nar_eq_false_iff fx xs).2 hfit⟩
  · rw [← Bool.not_eq_false, settleBlock_nar_eq_false_iff]
    exact fun hfit => hnone ⟨_, hle, hfit⟩

/-- Settles O60: a narrowing is `rheShift` clamped to the word, and a block's exponent is where the search `normExp` stops. -/
theorem narrowAndNormalise : Obligations.NarrowAndNormalise := by
  unfold Obligations.NarrowAndNormalise
  refine ⟨fun frac => ?_, fun fx xs => ?_, fun fx xs => ⟨rfl, settleBlock_words true fx xs⟩, fun frac fx x => ?_⟩
  · cases frac <;> exact narrow_rounds_and_clamps _
  · obtain ⟨hle, hleast, hfit, hnofit⟩ := settleBlock_normalises fx xs
    exact ⟨hle, hleast, hfit, hnofit, settleBlock_words false fx xs⟩
  · simp [settleBlock_singleton]

end Sys2Proof.Machine
end

section
/-! SUPPORT. Proofs of the alert summary's rules (R326, R419, R420): which registers the alert flags are read from, the bits
that ALR_SUM shows, what a write of ALR_MASK leaves, and O59 from these. -/
namespace Sys2Proof.Machine

/-! What a read shows that the mask has no part in (R420). -/

/-- The fields that the alert flags are read from (Table 15-14). -/
def alertFields : List Fld := TM_STAT.EVF :: TM_CHCFG.IE :: alertTable.map (·.2.1)

/-- The alert flags follow from their own fields. -/
theorem alertFlags_congr {s t : State} (h : ∀ f ∈ alertFields, ∀ n, t.fld f n = s.fld f n) :
    t.alertFlags = s.alertFlags := by
  have henable : t.flag TM_CHCFG.IE = s.flag TM_CHCFG.IE := funext fun n => by
    rw [State.flag, State.flag, h TM_CHCFG.IE (by decide)]
  have htimer : ∀ k, t.timerAlerts k = s.timerAlerts k := fun k => by
    rw [State.timerAlerts, State.timerAlerts, h TM_STAT.EVF (by decide), henable]
  have htable : ∀ e ∈ alertTable, ∀ n, t.fld e.2.1 n = s.fld e.2.1 n := fun e he =>
    h e.2.1 (List.mem_cons_of_mem _ (List.mem_cons_of_mem _ (List.mem_map_of_mem he)))
  unfold State.alertFlags
  congr 1
  · exact List.flatMap_congr fun e he => List.map_congr_left fun n _ => by rw [htable e he n]
  · exact List.map_congr_left fun k _ => by rw [htimer k]

/-- Setting a field that shares no bit with theirs leaves the alert flags. -/
theorem alertFlags_setFld (s : State) (g : Fld) (n v : Nat) (hg : g.lo + g.width ≤ 32)
    (h : ∀ f ∈ alertFields, f.reg ≠ g.reg ∨ f.lo + f.width ≤ g.lo ∨ g.lo + g.width ≤ f.lo) :
    (s.setFld g n v).alertFlags = s.alertFlags :=
  alertFlags_congr fun f hf _ => s.fld_setFld_ne g f _ _ v hg ((h f hf).imp_right .inr)

/-- A write of a register that holds none of their fields leaves the alert flags. -/
theorem alertFlags_writeReg (s : State) (r : Reg) (n : Nat) (w : Word) (h : ∀ f ∈ alertFields, f.reg ≠ r) :
    (s.writeReg r n w).alertFlags = s.alertFlags := by
  refine alertFlags_congr fun f hf m => ?_
  rw [State.fld, State.writeReg, State.reg_setReg_ne _ _ (.inl (h f hf))]
  split <;> rfl

theorem alertSources_congr {s t : State} (h : t.alertFlags = s.alertFlags) : t.alertSources = s.alertSources := by
  rw [State.alertSources, State.alertSources, h]

/-- A field outside ALR_MASK is as before under another mask. -/
theorem fld_setMask (s : State) (m : Nat) (f : Fld) (n : Nat) (h : f.reg ≠ .ALR_MASK) :
    (s.setFld ALR_MASK.MASK 0 m).fld f n = s.fld f n :=
  s.fld_setFld_ne ALR_MASK.MASK f 0 n m (by decide) (.inl h)

theorem alertFlags_setMask (s : State) (m : Nat) : (s.setFld ALR_MASK.MASK 0 m).alertFlags = s.alertFlags :=
  alertFlags_setFld s _ _ m (by decide) (by decide)

/-- Rails with an alert flag show it whatever the mask. -/
theorem railAlert_setMask (s : State) (m : Nat) : (s.setFld ALR_MASK.MASK 0 m).railAlert = s.railAlert := by
  funext n
  simp (disch := decide) only [State.railAlert, State.flag, List.any_cons, List.any_nil, fld_setMask]

theorem phaseAlert_setMask (s : State) (m : Nat) : (s.setFld ALR_MASK.MASK 0 m).phaseAlert = s.phaseAlert := by
  funext p
  simp (disch := decide) only [State.phaseAlert, State.flag, List.any_cons, List.any_nil, fld_setMask]

theorem strandAlert_setMask (s : State) (m : Nat) : (s.setFld ALR_MASK.MASK 0 m).strandAlert = s.strandAlert := by
  funext k
  simp (disch := decide) only [State.strandAlert, State.flag, fld_setMask]

/-- ALR_RAIL, ALR_PHLO, ALR_PHHI and ALR_ST read the same under any mask (R420). -/
theorem readWord_setMask (s : State) (m : Nat) {r : Reg} (h : r = .ALR_RAIL ∨ r = .ALR_PHLO ∨ r = .ALR_PHHI ∨ r = .ALR_ST) :
    (s.setFld ALR_MASK.MASK 0 m).readWord r 0 = s.readWord r 0 := by
  have hword : ∀ u : State, u.readWord r 0 = if u.absentReg r 0 then 0 else BitVec.ofNat 32 (u.shown r 0 0) := fun _ => by
    obtain rfl | rfl | rfl | rfl := h <;> rfl
  have habsent : (s.setFld ALR_MASK.MASK 0 m).absentReg r 0 = s.absentReg r 0 := rfl
  have hshown : (s.setFld ALR_MASK.MASK 0 m).shown r 0 0 = s.shown r 0 0 := by
    obtain rfl | rfl | rfl | rfl := h
    · exact congrArg (maskOf 12) (railAlert_setMask s m)
    · exact congrArg (maskOf 32) (phaseAlert_setMask s m)
    · exact congrArg (maskOf 16) (funext fun p => congrFun (phaseAlert_setMask s m) (32 + p))
    · exact congrArg (maskOf 32) (strandAlert_setMask s m)
  rw [hword, hword, habsent, hshown]

/-! The bits of ALR_SUM (R419, R420). -/

theorem bitAt_eq_testBit (v k : Nat) : bitAt v k = v.testBit k := by
  rw [bitAt, Nat.testBit_eq_decide_div_mod_eq]; rfl

theorem bitAt_mod_two_pow {v k j : Nat} (h : k < j) : bitAt (v % 2 ^ j) k = bitAt v k := by
  simp [bitAt_eq_testBit, Nat.testBit_mod_two_pow, h]

theorem testBit_foldl_sources (l : List (Nat × Nat)) (a k : Nat) :
    (l.foldl (fun a e => if e.2 ≠ 0 then a ||| 2 ^ e.1 else a) a).testBit k = true ↔
      a.testBit k = true ∨ ∃ e ∈ l, e.2 ≠ 0 ∧ e.1 = k := by
  induction l generalizing a with
  | nil => simp
  | cons e l ih =>
    rw [List.foldl_cons, ih]
    by_cases he : e.2 = 0
    · simp [he]
    · simp [he, Nat.testBit_or, Nat.testBit_two_pow, or_assoc]

/-- A bit of ALR_SUM.SRC stands exactly where its source has a flag set (R419). -/
theorem bitAt_alertSources (s : State) (k : Nat) :
    bitAt s.alertSources k = true ↔ ∃ e ∈ s.alertFlags, e.2 ≠ 0 ∧ e.1 = k := by
  rw [bitAt_eq_testBit, State.alertSources, testBit_foldl_sources]
  simp

/-- There are 15 sources (Table 15-14). -/
theorem alertFlags_source_lt (s : State) {e : Nat × Nat} (he : e ∈ s.alertFlags) : e.1 < 15 := by
  have htable : ∀ x ∈ alertTable, x.1 < 15 := by decide
  obtain h | h := List.mem_append.1 he
  · obtain ⟨x, hx, h⟩ := List.mem_flatMap.1 h
    obtain ⟨n, -, rfl⟩ := List.mem_map.1 h
    exact htable x hx
  · obtain ⟨k, -, rfl⟩ := List.mem_map.1 h
    exact (by decide : 11 < 15)

theorem bitAt_alertSources_lt (s : State) {k : Nat} (h : bitAt s.alertSources k = true) : k < 15 := by
  obtain ⟨e, he, -, rfl⟩ := (bitAt_alertSources s k).1 h
  exact alertFlags_source_lt s he

theorem alertSources_lt (s : State) : s.alertSources < 2 ^ 15 := by
  refine Nat.lt_pow_two_of_testBit _ fun k hk => Bool.eq_false_iff.2 fun h => ?_
  have hlt := bitAt_alertSources_lt s ((bitAt_eq_testBit ..).trans h)
  omega

/-- An alert is pending exactly when some bit of ALR_SUM.SRC is 1 whose mask bit is 0 (R420). -/
theorem alertPending_iff (s : State) :
    s.alertPending = true ↔ ∃ k, bitAt s.alertSources k = true ∧ bitAt (s.fld ALR_MASK.MASK 0) k = false := by
  simp only [State.alertPending, List.any_eq_true, Bool.and_eq_true, bne_iff_ne, Bool.not_eq_true', bitAt_alertSources]
  constructor
  · rintro ⟨e, he, hset, hmask⟩
    exact ⟨e.1, ⟨e, he, hset, rfl⟩, hmask⟩
  · rintro ⟨_, ⟨e, he, hset, rfl⟩, hmask⟩
    exact ⟨e, he, hset, hmask⟩

/-- The word of ALR_SUM: PEND at bit 31 and SRC below (Table 15-15). -/
theorem readWord_alrSum (s : State) :
    (s.readWord .ALR_SUM 0).toNat = bit s.alertPending * 2 ^ 31 + s.alertSources := by
  have habsent : s.absentReg .ALR_SUM 0 = false := Bool.and_false s.small
  have hsrc := alertSources_lt s
  have hpend : bit s.alertPending ≤ 1 := by cases s.alertPending <;> decide
  have hword : s.readWord .ALR_SUM 0 = BitVec.ofNat 32 (bit s.alertPending * 2 ^ 31 + s.alertSources) :=
    if_neg (Bool.eq_false_iff.1 habsent)
  rw [hword, BitVec.toNat_ofNat, Nat.mod_eq_of_lt (by omega)]

theorem readWord_alrSum_src (s : State) : (s.readWord .ALR_SUM 0).toNat % 2 ^ 15 = s.alertSources := by
  have hsrc := alertSources_lt s
  rw [readWord_alrSum]
  omega

theorem readWord_alrSum_pend (s : State) : bitAt (s.readWord .ALR_SUM 0).toNat 31 = s.alertPending := by
  have hsrc := alertSources_lt s
  have htop : (bit s.alertPending * 2 ^ 31 + s.alertSources) / 2 ^ 31 = bit s.alertPending := by omega
  rw [readWord_alrSum, bitAt, htop]
  cases s.alertPending <;> rfl

/-- R420 in the bits that a read of ALR_SUM shows. -/
theorem alertPending_iff_alrSum (s : State) :
    s.alertPending = true ↔
      ∃ k, bitAt (s.readWord .ALR_SUM 0).toNat k = true ∧ k < 15 ∧ bitAt (s.fld ALR_MASK.MASK 0) k = false := by
  have hsrc : ∀ k < 15, bitAt (s.readWord .ALR_SUM 0).toNat k = bitAt s.alertSources k := fun k hk => by
    rw [← bitAt_mod_two_pow hk, readWord_alrSum_src]
  rw [alertPending_iff]
  refine exists_congr fun k => ⟨fun ⟨hset, hmask⟩ => ?_, fun ⟨hset, hk, hmask⟩ => ⟨(hsrc k hk).symm.trans hset, hmask⟩⟩
  have hk := bitAt_alertSources_lt s hset
  exact ⟨(hsrc k hk).trans hset, hk, hmask⟩

theorem alertPending_of_alertLine {s : State} (h : s.alertLine = true) : s.alertPending = true := by
  simp only [State.alertLine, Bool.and_eq_true] at h
  exact h.1.2

/-- A mask that covers every source with a flag set leaves no alert pending (R420). -/
theorem alertPending_setMask_of_covers (s : State) (m : Nat)
    (h : ∀ k, bitAt s.alertSources k = true → bitAt (m % 2 ^ 15) k = true) :
    (s.setFld ALR_MASK.MASK 0 m).alertPending = false := by
  have hmask : (s.setFld ALR_MASK.MASK 0 m).fld ALR_MASK.MASK 0 = m % 2 ^ 15 := s.fld_setFld_same _ _ _ (by decide)
  rw [Bool.eq_false_iff, ne_eq, alertPending_iff, hmask, alertSources_congr (alertFlags_setMask s m)]
  rintro ⟨k, hset, hclear⟩
  exact Bool.eq_false_iff.1 hclear (h k hset)

/-! A host write of ALR_MASK (R11, R326). -/

/-- A bit that the host may write takes the word's (R11). -/
theorem getLsbD_written (s : State) {r : Reg} {k i : Nat} (w : Word) (hcount : r.counter = false)
    (hbit : (s.writable r k).testBit i = true) : (s.written r k w).getLsbD i = w.getLsbD i := by
  by_cases hi : i < 32
  · have hmask : (BitVec.ofNat 32 (s.writable r k)).getLsbD i = true := by simp [BitVec.getLsbD_ofNat, hi, hbit]
    simp only [State.written, hcount, Bool.false_eq_true, if_false, BitVec.getLsbD_or, BitVec.getLsbD_and, BitVec.getLsbD_not,
      hmask, hi]
    simp
  · simp [BitVec.getLsbD_of_ge, Nat.le_of_not_lt hi]

/-- An accepted word of ALR_MASK sets the register by the access rules and clears ACKD, and does nothing else (R326, R420). -/
theorem regWrite_alrMask {s : State} (w : Word) (hready : s.ready = true) (hrun : s.power.mode = .running) :
    s.regWrite .ALR_MASK 0 w = (s.writeReg .ALR_MASK 0 (s.written .ALR_MASK 0 w)).setFld HB_STATUS.ACKD 0 0 := by
  have hawake : s.awaken = s := if_neg (by simp [hrun])
  have habsent : s.absentReg .ALR_MASK 0 = false := Bool.and_false s.small
  have hrefuses : s.refuses .ALR_MASK 0 w = none := rfl
  have htag : s.tagSays .ALR_MASK 0 w = .run := rfl
  have hremember : s.remember .ALR_MASK 0 w = s := rfl
  have hperform : s.performWrite .ALR_MASK 0 w = s.writeReg .ALR_MASK 0 (s.written .ALR_MASK 0 w) := rfl
  have hunack : ∀ t : State, t.unack .ALR_MASK = t.setFld HB_STATUS.ACKD 0 0 := fun _ => rfl
  have hkey : s.keyOf .ALR_MASK 0 = 0 := rfl
  simp only [State.regWrite, hready, hawake, hkey, habsent, State.acceptWord, State.acceptAt, hrefuses, htag, hremember,
    hperform, hunack, Bool.not_true, Bool.false_eq_true, if_false]

theorem fld_writeReg_alrMask (s : State) (w : Word) :
    (s.writeReg .ALR_MASK 0 (s.written .ALR_MASK 0 w)).fld ALR_MASK.MASK 0 = w.toNat % 2 ^ 15 := by
  have hwritable : s.writable .ALR_MASK 0 = 2 ^ 15 - 1 := rfl
  have hreg : (s.writeReg .ALR_MASK 0 (s.written .ALR_MASK 0 w)).reg .ALR_MASK 0 = s.written .ALR_MASK 0 w :=
    State.reg_setReg_same ..
  have hbits : (s.written .ALR_MASK 0 w).toNat % 2 ^ 15 = w.toNat % 2 ^ 15 := by
    refine Nat.eq_of_testBit_eq fun i => ?_
    rw [Nat.testBit_mod_two_pow, Nat.testBit_mod_two_pow, BitVec.testBit_toNat, BitVec.testBit_toNat]
    by_cases hi : i < 15
    · rw [getLsbD_written s w rfl (by rw [hwritable, Nat.testBit_two_pow_sub_one, decide_eq_true hi])]
    · rw [decide_eq_false hi, Bool.false_and, Bool.false_and]
  rw [State.fld, show ALR_MASK.MASK.reg = .ALR_MASK from rfl, hreg]
  exact (congrArg (· % 2 ^ 15) (Nat.div_one _)).trans hbits

/-- What an accepted write of ALR_MASK leaves: the flags as they stood, the mask of the word, no acknowledged alert (R326, R420). -/
theorem regWrite_alrMask_leaves {s : State} (w : Word) (hready : s.ready = true) (hrun : s.power.mode = .running) :
    (s.regWrite .ALR_MASK 0 w).alertFlags = s.alertFlags ∧
      (s.regWrite .ALR_MASK 0 w).fld ALR_MASK.MASK 0 = w.toNat % 2 ^ 15 ∧
      (s.regWrite .ALR_MASK 0 w).flag HB_STATUS.ACKD 0 = false := by
  rw [regWrite_alrMask w hready hrun]
  refine ⟨?_, ?_, ?_⟩
  · rw [alertFlags_setFld _ _ _ _ (by decide) (by decide), alertFlags_writeReg _ _ _ _ (by decide)]
  · rw [State.fld_setFld_ne _ _ _ _ _ _ (by decide) (.inl (by decide)), fld_writeReg_alrMask]
  · rw [State.flag, State.fld_setFld_same _ _ _ _ (by decide)]
    rfl

/-- Settles O59: PEND is a bit of SRC whose mask bit is 0, what a read shows besides is read from fields outside ALR_MASK, and an
accepted mask changes ALR_MASK and ACKD alone. -/
theorem masksHideAlertOnly : Obligations.MasksHideAlertOnly := by
  unfold Obligations.MasksHideAlertOnly
  intro s
  refine ⟨by rw [readWord_alrSum_pend], alertPending_iff_alrSum s, alertPending_of_alertLine, fun m => ?_⟩
  have hflags := alertFlags_setMask s m
  refine ⟨hflags, ?_, fun r => readWord_setMask s m, alertPending_setMask_of_covers s m, fun w => regWrite_alrMask_leaves w⟩
  rw [readWord_alrSum_src, readWord_alrSum_src, alertSources_congr hflags]

end Sys2Proof.Machine
end
